-- ==== Sys2Proof/Word.lean ====
section
/-! DEFINITION. The plain number types of the module: bytes of its links, and the bounded indices by which the
manual numbers zones, fan channels, sensor heads and stalls. -/

namespace Sys2Proof

/-- One byte on a serial link (R159: 8 data bits). -/
abbrev Byte := BitVec 8

/-- A zone number, 0 to 7 (section 4). -/
abbrev Zone := Fin 8

/-- A fan channel number, 0 to 15 (R77). -/
abbrev Chan := Fin 16

/-- A sensor head address, 0 to 31 (R119). -/
abbrev HeadAddr := Fin 32

/-- A stall index, 0 to 95 (section 5.3). -/
abbrev StallIdx := Fin 96

end Sys2Proof
end

