-- ==== Sys2Proof/Config.lean ====
section
/-! DEFINITION. What the manual fixes for every module (times that are not configurable, capacities) and the values it leaves
open (opaque: no proof can see them). The configurable items live in State, since the host writes them. -/

namespace Sys2Proof.Config

/-- The firmware level's major number, answered by IDENTIFY (R170); the manual gives no value: log entry 22. -/
opaque firmwareMajor : Byte

/-- The firmware level's minor number, answered by IDENTIFY (R170); the manual gives no value: log entry 22. -/
opaque firmwareMinor : Byte

/-- Seconds between two expiries of a zone's evaluation timer (R32). -/
def evaluationPeriod : Nat := 10

/-- Seconds of the gas-high latch's clear delay (R57, R58). -/
def clearDelaySeconds : Nat := 60

/-- Seconds of the clean-run time (R86). -/
def cleanRunSeconds : Nat := 600

/-- Seconds of the rundown limit (R87). -/
def rundownSeconds : Nat := 120

/-- Seconds of a changeover gate's travel (R106). -/
def gateTravelSeconds : Nat := 90

/-- Seconds of a request's cover timer (R117). -/
def coverSeconds : Nat := 60

/-- Seconds between the starts of two polling cycles (R121). -/
def pollCycleSeconds : Nat := 5

/-- Seconds of a head's hold timer (R122, R126). -/
def holdSeconds : Nat := 60

/-- Consecutive misses that take a VALID head to HOLDING (R125). -/
def missesToHold : Nat := 3

/-- Seconds of a contact input's confirmation time (R132). -/
def confirmSeconds : Nat := 1

/-- Seconds of the hearing timer (R140). -/
def hearingSeconds : Nat := 10

/-- Seconds of the state timer in AGREEING and in CHECKING (R141). -/
def answerSeconds : Nat := 2

/-- Seconds of the state timer in BACKOFF (R141). -/
def backoffSeconds : Nat := 5

/-- Tenths of a second of the supervision timer, 3.5 seconds (R142). -/
def supervisionTenths : Nat := 35

/-- Entries the hazard list holds at most (R149). -/
def hazardCapacity : Nat := 48

/-- Entries on one page of READ-HAZARDS (R169). -/
def hazardPage : Nat := 8

/-- The payload length a request or response carries at most (R160). -/
def maxPayload : Nat := 64

end Sys2Proof.Config
end

