-- ==== Sys2Proof/Syntax.lean ====
section
/-! DEFINITION. The commands and events the module takes: one constructor of `Instr` per row of spec/opcode_table.json, with the
row's operands. Host commands carry their request fields as the link sends them (R164: unsigned numbers, not yet checked);
events inside the module name the zone, channel, head or stall they belong to by its bounded index. -/

namespace Sys2Proof

/-- One of the two power feeds (section 4, R94). -/
inductive Feed where
  | a | b
  deriving DecidableEq, Repr

/-- A fan's instruction from its zone or the allocator: off, or on at a speed in percent with or without the forced mark (R79, R80). -/
inductive FanTarget where
  | off
  | on (speed : Nat) (marked : Bool)
  deriving DecidableEq, Repr

/-- A zone's damper request (R99, R100). `openForced` is an open request with the forced mark. -/
inductive DamperRequest where
  | noRequest | openPlain | openForced | close
  deriving DecidableEq, Repr

/-- The target of a changeover gate: a zone or closed (R106). -/
inductive GateTarget where
  | zone (z : Zone)
  | closed
  deriving DecidableEq, Repr

/-- The band a gate's position feedback lies in (section 5.2): a zone's band, the closed band, or neither. -/
inductive GateBand where
  | zone (z : Zone)
  | closed
  | between
  deriving DecidableEq, Repr

/-- The classes of a standby request that carry an amount, highest first (R110). -/
inductive FlowClass where
  | gasAlarm | failureCover | shortfall
  deriving DecidableEq, Repr

/-- A standby request's class and amount (R110): FIRE has the amount "all in reach", the others an amount in L/s. -/
inductive StandbyCall where
  | fire
  | flow (cls : FlowClass) (amount : Nat)
  deriving DecidableEq, Repr

/-- The kinds of condition, in the order of the kind table (8.1). -/
inductive HazardKind where
  | fire | fireInputFault | fireLinkLost | gasHigh | sensorLost | zoneBlind | batteryThermal | fanFailed
  | damperJammed | gateJammed | shortfall
  deriving DecidableEq, Repr

/-- The status a sensor head's reply carries (R122). -/
inductive ReplyStatus where
  | ok | warming | drift | fault
  deriving DecidableEq, Repr

/-- What a fire-service command frame asks for its zone (7.3, R145). -/
inductive FireServiceWord where
  | on | off | auto
  deriving DecidableEq, Repr

/-- A capability word of the fire panel link (7.3). The numbers are as received: their validity is judged by R139. -/
structure CapabilityWord where
  panelId : Nat
  zoneCount : Nat
  fireService : Bool
  resetWord : Bool
  accept : Bool
  deriving DecidableEq, Repr

/-- The roster's answer to a stall sum request (R24). -/
structure RosterAnswer where
  sum : Nat
  count : Nat
  thermal : Bool
  residue : Bool
  deriving DecidableEq, Repr

/-- How the read-back of a save ends (R174): equal to the copy; or different, the non-volatile copy then failing its check or
holding the image after all (the manual does not say which: log entry 26). -/
inductive ReadBack where
  | equal | differsDamaged | differsIntact
  deriving DecidableEq, Repr

/-- The stall map field a write names: item 40 or 41 (R3). -/
inductive StallMapField where
  | enabled | zone
  deriving DecidableEq, Repr

/-- Item 31 or 32 (R41). -/
inductive FloorCeilingField where
  | floor | ceiling
  deriving DecidableEq, Repr

/-- Items 13 to 16 (R57). -/
inductive GasLevelField where
  | coHigh | coClear | no2High | no2Clear
  deriving DecidableEq, Repr

/-- Items 50 to 52 (R78). -/
inductive PlacementField where
  | role | feed | ratedFlow
  deriving DecidableEq, Repr

/-- The commands and events of the module: one constructor per row of the table, in the table's order. -/
inductive Instr where
  | powerOn
  | resetLineRelease
  | depotClockMinute
  | frameSilenceTimeout
  | requestFrameDiscarded
  | unknownCommand (code : Nat)
  | badLength (code : Nat)
  | responseSent
  | broadcastSetClock (code : Nat) (payload : List Byte)
  | identify
  | readClock
  | setClock (minute : Nat)
  | arrive (label tag cls activity charger departure : Nat)
  | relocate (tag newLabel : Nat)
  | activity (label activity : Nat)
  | renew (label : Nat)
  | setDeparture (label departure : Nat)
  | depart (label : Nat)
  | readStall (label : Nat)
  | findTag (tag : Nat)
  | walkFirst (label : Nat)
  | walkNext
  | allowanceExpiry (stall : StallIdx)
  | stallSumRequest (zone : Zone)
  | rosterRestart
  | evaluationTimerExpiry (zone : Zone)
  | evaluationRequest (zone : Zone)
  | evaluationComplete (zone : Zone) (answer : RosterAnswer)
  | clearDelayRunOut (zone : Zone)
  | quietEntryTimerExpiry (zone : Zone)
  | pulseTimerExpiry (zone : Zone)
  | spaceTimerExpiry (zone : Zone)
  | zoneRestart (zone : Zone)
  | standbyClearedReport (zone : Zone)
  | fanTargets (zone : Zone) (targets : List (Chan × FanTarget))
  | standbyOffTarget (channel : Chan)
  | pathCheck (channel : Chan)
  | tachGateComplete (channel : Chan) (edges : Nat)
  | startWindowRunOut (channel : Chan)
  | settleTimeExpiry (channel : Chan)
  | cleanRunExpiry (channel : Chan)
  | rundownLimitExpiry (channel : Chan)
  | retryWaitExpiry (channel : Chan)
  | fanService (channel setting : Nat)
  | fanRestart
  | fanStateReport (channel : Chan)
  | damperRequest (zone : Zone) (request : DamperRequest)
  | endSwitchChange (zone : Zone) (openSwitch closedSwitch : Bool)
  | damperTravelTimeout (zone : Zone)
  | damperOpenReport (zone : Zone) (feed : Feed)
  | gateCommand (channel : Chan) (target : GateTarget)
  | gateFeedbackBandChange (channel : Chan) (band : GateBand)
  | gateTravelTimeout (channel : Chan)
  | gateAtReport (channel : Chan) (feed : Feed)
  | grantReport (channel : Chan) (feed : Feed)
  | standbyRequestRaise (zone : Zone) (call : StandbyCall)
  | standbyRequestChange (zone : Zone) (call : StandbyCall)
  | standbyRequestWithdraw (zone : Zone)
  | standbyAvailabilityReport (channel : Chan) (leftService : Bool)
  | gateJamReport (channel : Chan)
  | coverTimerExpiry (zone : Zone)
  | allocatorRestart
  | pollCycleStart
  | headPoll
  | headReply (address : Nat) (status : ReplyStatus) (rawCo rawNo2 : Int) (checkHolds : Bool)
  | replyWindowEnd
  | holdTimerExpiry (head : HeadAddr)
  | contactBandChange (zone : Zone) (ohms : Nat)
  | contactConfirmationExpiry (zone : Zone)
  | panelFrameDiscarded
  | capabilityWord (word : CapabilityWord)
  | statusFrame (flags : BitVec 8)
  | fireServiceCommand (zone : Nat) (word : FireServiceWord)
  | panelResetWord
  | hearingTimerExpiry
  | stateTimerExpiry
  | supervisionTimerExpiry
  | readLink
  | fireReset
  | conditionActiveReport (kind : HazardKind) (source : Nat)
  | conditionClearReport (kind : HazardKind) (source : Nat)
  | readHazards (page : Nat)
  | acknowledge (id : Nat)
  | acknowledgeAll
  | hazardRestart
  | readZone (zone : Nat)
  | readFan (channel : Nat)
  | readHead (address : Nat)
  | readDamper (kind number : Nat)
  | writeConfig (item index value : Nat)
  | windowBaseWrite (index value : Nat)
  | tailLengthWrite (index value : Nat)
  | stallMapWrite (field : StallMapField) (index value : Nat)
  | floorCeilingWrite (field : FloorCeilingField) (index value : Nat)
  | gasLevelWrite (field : GasLevelField) (index value : Nat)
  | adjacencyWrite (index value : Nat)
  | contactEnabledWrite (index value : Nat)
  | minimumSpeedWrite (index value : Nat)
  | channelPlacementWrite (field : PlacementField) (index value : Nat)
  | readConfig (item index : Nat)
  | saveConfig
  | saveComplete (readBack : ReadBack)
  | restart
  | supervisoryByteReceived (byte : Byte)
  | powerLoss
  deriving DecidableEq, Repr

end Sys2Proof
end

