-- ==== Sys2Proof/Machine/Commands.lean ====
section
/-! DEFINITION. The command table of the supervisory link (R164): the codes, the request lengths, and the source range of each
kind of condition (8.1). -/

namespace Sys2Proof.Machine

/-- The command table of R164: each command code with the exact payload length its request carries. -/
def commandTable : List (Nat × Nat) :=
  [(0x01, 0), (0x02, 0), (0x03, 2),
   (0x10, 9), (0x11, 4), (0x12, 3), (0x13, 2), (0x14, 4), (0x15, 2),
   (0x18, 2), (0x19, 2), (0x1A, 2), (0x1B, 0),
   (0x20, 1), (0x21, 1), (0x22, 1), (0x23, 2), (0x24, 0),
   (0x28, 1), (0x29, 2), (0x2A, 0), (0x30, 2),
   (0x38, 4), (0x39, 2), (0x3A, 0), (0x3E, 0), (0x3F, 0)]

/-- The request length R164 gives for a command code, or none for a code that is not in the table. -/
def requestLength (code : Nat) : Option Nat :=
  (commandTable.find? fun row => row.1 == code).map (·.2)

/-- How many sources a kind of condition has; they are numbered from 0 (8.1). -/
def sourceCount : HazardKind → Nat
  | .fire => 8
  | .fireInputFault => 8
  | .fireLinkLost => 1
  | .gasHigh => 8
  | .sensorLost => 32
  | .zoneBlind => 8
  | .batteryThermal => 96
  | .fanFailed => 16
  | .damperJammed => 8
  | .gateJammed => 16
  | .shortfall => 8

/-- The items of the configuration table (10.1) whose writes have a row of their own in the opcode table. -/
def itemHasOwnRow (item : Nat) : Bool :=
  [1, 2, 13, 14, 15, 16, 31, 32, 37, 38, 40, 41, 50, 51, 52, 55].contains item

end Sys2Proof.Machine
end

