-- ==== Sys2Proof/WellFormed.lean ====
section
/-! DEFINITION. Which commands are well formed: each operand lies in the range its field or its sender can give it. The
meanings are total on ill-formed commands too; this predicate says which of them the module can meet. -/

namespace Sys2Proof

/-- A value that a one-byte field can carry (R166). -/
def fitsByte (n : Nat) : Bool := n < 256

/-- A value that a two-byte field can carry (R166). -/
def fitsWord (n : Nat) : Bool := n < 65536

/-- The target of a fan carries a speed of 1 to 100 percent (R79, R80). -/
def FanTarget.wellFormed : FanTarget → Bool
  | .off => true
  | .on speed _ => 1 ≤ speed && speed ≤ 100

/-- The channels of one evaluation's targets stand in strictly ascending order (R179). -/
def ascending : List (Chan × FanTarget) → Bool
  | [] => true
  | [_] => true
  | p :: q :: rest => p.1 < q.1 && ascending (q :: rest)

/-- The amount of a request is a shortfall, at most 60000 (R168). -/
def StandbyCall.wellFormed : StandbyCall → Bool
  | .fire => true
  | .flow _ amount => 1 ≤ amount && amount ≤ 60000

/-- Each operand in the range its field or its sender can give it. -/
def Instr.wellFormed : Instr → Bool
  | .unknownCommand code => fitsByte code && (Machine.requestLength code).isNone
  | .badLength code => (Machine.requestLength code).isSome
  | .broadcastSetClock code payload => fitsByte code && payload.length ≤ Config.maxPayload
  | .setClock minute => fitsWord minute
  | .arrive label tag cls act charger departure =>
      fitsWord label && fitsWord tag && fitsByte cls && fitsByte act && fitsByte charger && fitsWord departure
  | .relocate tag label => fitsWord tag && fitsWord label
  | .activity label act => fitsWord label && fitsByte act
  | .renew label => fitsWord label
  | .setDeparture label departure => fitsWord label && fitsWord departure
  | .depart label => fitsWord label
  | .readStall label => fitsWord label
  | .findTag tag => fitsWord tag
  | .walkFirst label => fitsWord label
  | .evaluationComplete _ answer => answer.sum ≤ 768000 && answer.count ≤ 96
  | .fanTargets _ targets => ascending targets && targets.all (·.2.wellFormed)
  | .fanService channel setting => fitsByte channel && fitsByte setting
  | .standbyRequestRaise _ call => call.wellFormed
  | .standbyRequestChange _ call => call.wellFormed
  | .headReply address _ _ _ _ => fitsByte address
  | .capabilityWord word => fitsByte word.panelId && fitsByte word.zoneCount
  | .fireServiceCommand zone _ => zone < 8
  | .conditionActiveReport kind source => source < Machine.sourceCount kind
  | .conditionClearReport kind source => source < Machine.sourceCount kind
  | .readHazards page => fitsByte page
  | .acknowledge id => fitsWord id
  | .readZone zone => fitsByte zone
  | .readFan channel => fitsByte channel
  | .readHead address => fitsByte address
  | .readDamper kind number => fitsByte kind && fitsByte number
  | .writeConfig item index value =>
      fitsByte item && fitsByte index && fitsWord value && !Machine.itemHasOwnRow item
  | .windowBaseWrite index value => fitsByte index && fitsWord value
  | .tailLengthWrite index value => fitsByte index && fitsWord value
  | .stallMapWrite _ index value => fitsByte index && fitsWord value
  | .floorCeilingWrite _ index value => fitsByte index && fitsWord value
  | .gasLevelWrite _ index value => fitsByte index && fitsWord value
  | .adjacencyWrite index value => fitsByte index && fitsWord value
  | .contactEnabledWrite index value => fitsByte index && fitsWord value
  | .minimumSpeedWrite index value => fitsByte index && fitsWord value
  | .channelPlacementWrite _ index value => fitsByte index && fitsWord value
  | .readConfig item index => fitsByte item && fitsByte index
  | .powerOn | .resetLineRelease | .depotClockMinute | .frameSilenceTimeout | .requestFrameDiscarded
  | .responseSent | .identify | .readClock | .walkNext | .allowanceExpiry _ | .stallSumRequest _ | .rosterRestart
  | .evaluationTimerExpiry _ | .evaluationRequest _ | .clearDelayRunOut _ | .quietEntryTimerExpiry _
  | .pulseTimerExpiry _ | .spaceTimerExpiry _ | .zoneRestart _ | .standbyClearedReport _ | .standbyOffTarget _
  | .pathCheck _ | .tachGateComplete _ _ | .startWindowRunOut _ | .settleTimeExpiry _ | .cleanRunExpiry _
  | .rundownLimitExpiry _ | .retryWaitExpiry _ | .fanRestart | .fanStateReport _ | .damperRequest _ _
  | .endSwitchChange _ _ _ | .damperTravelTimeout _ | .damperOpenReport _ _ | .gateCommand _ _
  | .gateFeedbackBandChange _ _ | .gateTravelTimeout _ | .gateAtReport _ _ | .grantReport _ _
  | .standbyRequestWithdraw _ | .standbyAvailabilityReport _ _ | .gateJamReport _ | .coverTimerExpiry _
  | .allocatorRestart | .pollCycleStart | .headPoll | .replyWindowEnd | .holdTimerExpiry _ | .contactBandChange _ _
  | .contactConfirmationExpiry _ | .panelFrameDiscarded | .statusFrame _ | .panelResetWord | .hearingTimerExpiry
  | .stateTimerExpiry | .supervisionTimerExpiry | .readLink | .fireReset | .acknowledgeAll | .hazardRestart
  | .saveConfig | .saveComplete _ | .restart | .supervisoryByteReceived _ | .powerLoss => true

end Sys2Proof
end

