-- ==== Sys2Proof/Decode.lean ====
section
/-! DEFINITION. The command a table word spells. The opcode table of this block gives no row a bit (every row's `fields` is empty
and none has `fixed`), so no word spells a command. The bytes of the supervisory link are read by Machine/Port.lean. -/

namespace Sys2Proof

/-- No row of spec/opcode_table.json gives bits: no word spells a command. -/
def decodeTableWord (_nbits _w : Nat) : Option Instr := none

end Sys2Proof
end

