-- ==== Sys2Proof/Machine/State.lean ====
section
/-! DEFINITION. The whole state of the module, block by block (section 2.2), as plain data; the reasons a step can stop; and the
state after reset. INVENTORY.md lists every field with the rule that names it. -/

namespace Sys2Proof.Machine

/-- The drive types of a vehicle (section 4). -/
inductive VehicleClass where
  | diesel | hybrid | gas | electric
  deriving DecidableEq, Repr

/-- What a vehicle is doing (1.3). -/
inductive Activity where
  | parked | engineRun | warmUp | charging | thermalWatch
  deriving DecidableEq, Repr

/-- An occupant record (1.3, R8, R9). -/
structure Occupant where
  tag : Nat
  cls : VehicleClass
  activity : Activity
  since : Nat
  allowance : Option Nat
  charger : Option Nat
  departure : Option Nat
  lapsed : Bool
  deriving DecidableEq, Repr

/-- A stall entry: its residue and its occupant record, if any (R4). -/
structure StallEntry where
  level : Nat
  steps : Nat
  occupant : Option Occupant
  deriving DecidableEq, Repr

/-- The Stall Roster's runtime state (R4, R8, R28). -/
structure Roster where
  stalls : Vector StallEntry 96
  cursor : StallIdx
  deriving DecidableEq, Repr

/-- The zone modes (R52). -/
inductive ZoneMode where
  | manualOn | manualOff | fireExtract | smokeHold | gasAlarm | thermal | normal | quiet
  deriving DecidableEq, Repr

/-- How a zone's gas term was found (R31). -/
inductive GasSource where
  | readings | floorTerm | noHeads
  deriving DecidableEq, Repr

/-- The clear delay of the gas-high latch (R54); `idle` is the manual's NONE. -/
inductive ClearDelay where
  | idle
  | running (seconds : Nat)
  | runOut
  deriving DecidableEq, Repr

/-- The quiet phase with the seconds its timer has left (R54, R64). -/
inductive QuietPhase where
  | out
  | delay (seconds : Nat)
  | due
  | pulse (seconds : Nat)
  | space (seconds : Nat)
  deriving DecidableEq, Repr

/-- The command of the fire service in force for a zone (R145). -/
inductive FireCommand where
  | on | off
  deriving DecidableEq, Repr

/-- The evaluation state of a zone (R33). -/
inductive EvalState where
  | idle | gathering
  deriving DecidableEq, Repr

/-- A Zone Unit: the values of R31 and R54, its timers (R32), and whether the answer outstanding is to be discarded (R35). -/
structure ZoneUnit where
  mode : ZoneMode
  baseFlow : Nat
  stallSum : Nat
  anticipationCount : Nat
  anticipation : Nat
  co : Option Nat
  no2 : Option Nat
  gasSource : Option GasSource
  gasTerm : Nat
  rawDemand : Nat
  clampedDemand : Nat
  demand : Nat
  stageCount : Nat
  speed : Option Nat
  shortfall : Nat
  request : Option StandbyCall
  evalState : EvalState
  again : Bool
  abandoned : Bool
  evalTimer : Nat
  gasHigh : Bool
  clearDelay : ClearDelay
  quiet : QuietPhase
  latchSeen : Bool
  commandSeen : Option FireCommand
  adjacentSeen : BitVec 8
  thermalSeen : Bool
  deriving DecidableEq, Repr

/-- The fan states (R79). -/
inductive FanState where
  | off | queued | starting | running | stopping | retryWait | lockedOut | failed | service
  deriving DecidableEq, Repr

/-- The two ways an attempt fails (R79, R88). -/
inductive FailKind where
  | startFailed | speedLost
  deriving DecidableEq, Repr

/-- Why a fan is in STOPPING (R79). -/
inductive StopReason where
  | commanded
  | failure (kind : FailKind)
  deriving DecidableEq, Repr

/-- The timer of a fan that is running, with its seconds left (R79). -/
inductive FanTimer where
  | startWindow (seconds : Nat)
  | cleanRun (seconds : Nat)
  | rundown (seconds : Nat)
  | retryWait (seconds : Nat)
  deriving DecidableEq, Repr

/-- A fan channel record (R79), with its FAN-FAILED condition (R91) and the start window it took at its last entry into STARTING, which a write
does not change until the next (R77, R86, log entry 41). -/
structure FanRecord where
  state : FanState
  target : FanTarget
  runOutput : Bool
  commanded : Nat
  measured : Nat
  goodGates : Nat
  lowGates : Nat
  stopReason : StopReason
  lastFailure : Option FailKind
  retryCount : Nat
  timer : Option FanTimer
  settle : Option Nat
  window : Nat
  failedCondition : Bool
  deriving DecidableEq, Repr

/-- A feed's Start Queue: the queued fans, head first, and the holder of the permit (R94, R95). -/
structure StartQueue where
  fans : List Chan
  permit : Option Chan
  deriving DecidableEq, Repr

/-- The states of a zone damper (R99). -/
inductive DamperState where
  | closed | opening | opened | closing | jammed
  deriving DecidableEq, Repr

/-- A zone damper record (R99), with its DAMPER-JAMMED condition (R104). The switch reading is read from the pins. -/
structure DamperRecord where
  state : DamperState
  request : DamperRequest
  closePending : Bool
  blocking : List Chan
  timer : Option Nat
  jamCondition : Bool
  deriving DecidableEq, Repr

/-- The states of a changeover gate; AT carries its position (R106). -/
inductive GateState where
  | closed
  | travelling
  | atZone (z : Zone)
  | jammed
  deriving DecidableEq, Repr

/-- A changeover gate record (R106): whether it is in use, its state, its stored target, whether that target is pending, the band
on its command output, its travel timer, its GATE-JAMMED condition (R108), the fan state its last state report gave, and whether
a path check has been answered yes since that report (R107). -/
structure GateRecord where
  inUse : Bool
  state : GateState
  target : GateTarget
  pending : Bool
  output : GateTarget
  timer : Option Nat
  jamCondition : Bool
  lastReport : FanState
  answered : Bool
  deriving DecidableEq, Repr

/-- An entry of the request list: the zone, its call, and its cover timer (R110, R117). -/
structure StandbyEntry where
  zone : Zone
  call : StandbyCall
  cover : Option Nat
  deriving DecidableEq, Repr

/-- The Standby Allocator: the request list oldest first (R110), the grant of each channel (R111), and the SHORTFALL condition
of each zone (R117). -/
structure Allocator where
  requests : List StandbyEntry
  grants : Vector (Option Zone) 16
  shortfall : Vector Bool 8
  deriving DecidableEq, Repr

/-- The states of a sensor head (R120). -/
inductive HeadState where
  | waiting | valid | holding | lost
  deriving DecidableEq, Repr

/-- A sensor head record (R120). `lastStatus = none` is NO-REPLY. -/
structure HeadRecord where
  zone : Option Zone
  state : HeadState
  co : Option Nat
  no2 : Option Nat
  rawCo : Option Nat
  rawNo2 : Option Nat
  lastStatus : Option ReplyStatus
  drift : Bool
  misses : Nat
  hold : Option Nat
  lastGood : Option Nat
  deriving DecidableEq, Repr

/-- The Sensor Line Controller: the head records (R120), the ZONE-BLIND conditions (R131), the heads this cycle has still to poll,
the head whose reply window is open, and the seconds to the next cycle (R121). -/
structure SensorLine where
  heads : Vector HeadRecord 32
  zoneBlind : Vector Bool 8
  due : List HeadAddr
  window : Option HeadAddr
  cycleTimer : Nat
  deriving DecidableEq, Repr

/-- The states of a contact input (R133). -/
inductive ContactState where
  | disabled | normal | alarm | lineFault
  deriving DecidableEq, Repr

/-- A contact input: its state and the seconds left of its confirmation time, if that runs (R132, R133). -/
structure ContactInput where
  state : ContactState
  confirm : Option Nat
  deriving DecidableEq, Repr

/-- The states of the fire panel link (R140). -/
inductive LinkState where
  | linkDown | hearing | agreeing | checking | linked | backoff
  deriving DecidableEq, Repr

/-- The heard run: a capability word and how often it was heard (R140). -/
structure HeardRun where
  word : CapabilityWord
  count : Nat
  deriving DecidableEq, Repr

/-- The Fire Interface (R133, R135, R140, R143, R145). The supervision timer is held in tenths of a second; `sentWord` is the
capability word the module last sent on the panel link (R141). -/
structure FireInterface where
  contacts : Vector ContactInput 8
  latches : Vector Bool 8
  commands : Vector (Option FireCommand) 8
  link : LinkState
  heard : Option HeardRun
  hearingTimer : Option Nat
  stateTimer : Option Nat
  supervision : Option Nat
  capability : Option CapabilityWord
  linkLost : Bool
  lostCondition : Bool
  sentWord : Option CapabilityWord
  deriving DecidableEq, Repr

/-- The states of a hazard entry (R149). -/
inductive HazardState where
  | activeUnack | activeAck | clearedUnack
  deriving DecidableEq, Repr

/-- An entry of the hazard list (R149). -/
structure HazardEntry where
  id : Nat
  kind : HazardKind
  source : Nat
  state : HazardState
  minute : Nat
  deriving DecidableEq, Repr

/-- The Hazard List: its entries oldest first, the next id, UNLISTED and the attention output (R149, R156). -/
structure HazardList where
  entries : List HazardEntry
  nextId : Nat
  unlisted : Bool
  attention : Bool
  deriving DecidableEq, Repr

/-- The status codes of the supervisory link (R165). -/
inductive Status where
  | done | doneClamped
  | stallOutOfWindow | stallDisabled | stallOccupied | stallVacant
  | badTag | tagInUse | tagUnknown
  | classMismatch | badTransition | notRunning | fieldRange | endOfRoster
  | hazardUnknown | notNow | busy | unknownCommand | badLength
  deriving DecidableEq, Repr

/-- A response: the code of the request answered, the status and the payload (R160). -/
structure Response where
  code : Nat
  status : Status
  payload : List Byte
  deriving DecidableEq, Repr

/-- The states of the Supervisory Link Port (R161). -/
inductive PortState where
  | listening | receiving | answering
  deriving DecidableEq, Repr

/-- The Supervisory Link Port: its state, its receive buffer, the response under construction (kept after it has left until the
next is built), and the address and baud strap in force (R159, R161). -/
structure LinkPort where
  state : PortState
  buffer : List Byte
  response : Option Response
  address : Nat
  fastBaud : Bool
  deriving DecidableEq, Repr

/-- The parking policies (R116). -/
inductive ParkingPolicy where
  | last | home | closed
  deriving DecidableEq, Repr

/-- The role of a fan channel (R77). -/
inductive Role where
  | unused
  | zone (z : Zone)
  | standby (reach : BitVec 8)
  deriving DecidableEq, Repr

/-- The exhaustion actions (R77). -/
inductive ExhaustAction where
  | lockOut | persist
  deriving DecidableEq, Repr

/-- A stall map entry (R3). -/
structure StallCfg where
  enabled : Bool
  zone : Zone
  deriving DecidableEq, Repr

/-- The items configured for each zone (R41, R42, R63, R71, R99, R133). The quiet-entry delay is in minutes. -/
structure ZoneCfg where
  baseFlow : Nat
  floor : Nat
  ceiling : Nat
  thermalFloor : Nat
  quietEntry : Nat
  pulse : Nat
  space : Nat
  adjacency : BitVec 8
  contactEnabled : Bool
  damperTimeout : Nat
  deriving DecidableEq, Repr

/-- The items configured for each fan channel (R77, R116). -/
structure ChanCfg where
  role : Role
  feed : Feed
  ratedFlow : Nat
  ratedRpm : Nat
  pulses : Nat
  minSpeed : Nat
  startWindow : Nat
  retryWait : Nat
  retryLimit : Nat
  action : ExhaustAction
  homeZone : Zone
  deriving DecidableEq, Repr

/-- The working configuration: every item of the table of 10.1. A weight's place is class code × 5 + activity code; the places of
activities a class cannot hold are no items and hold 0. -/
structure Cfg where
  windowBase : Nat
  tail : Nat
  engineRun : Nat
  warmUp : Nat
  anticipationWeight : Nat
  anticipationLead : Nat
  coStart : Nat
  coFactor : Nat
  no2Start : Nat
  no2Factor : Nat
  gasCeiling : Nat
  floorTerm : Nat
  coHigh : Nat
  coClear : Nat
  no2High : Nat
  no2Clear : Nat
  parking : ParkingPolicy
  weights : Vector Nat 20
  zones : Vector ZoneCfg 8
  stalls : Vector StallCfg 96
  heads : Vector (Option Zone) 32
  channels : Vector ChanCfg 16
  deriving DecidableEq, Repr

/-- The non-volatile copy (R174, R175): blank, failing its check, or an image of a configuration. -/
inductive NvCopy where
  | blank
  | unreadable
  | image (cfg : Cfg)
  deriving DecidableEq, Repr

/-- The last save result (R174). -/
inductive SaveResult where
  | none | done | failed
  deriving DecidableEq, Repr

/-- The Configuration Store: the working configuration, the non-volatile copy, the copy being saved (present exactly in SAVING), the
last save result, the defaulted flag, and the depot clock (R174 to R176). -/
structure ConfigStore where
  cfg : Cfg
  nv : NvCopy
  saving : Option Cfg
  lastSave : SaveResult
  defaulted : Bool
  minute : Nat
  seconds : Nat
  clockSet : Bool
  deriving DecidableEq, Repr

/-- The inputs as they read now: the straps (R159), each damper's two end switches, closed or not (R99), each gate's feedback band
(R106), and each contact input's loop resistance in ohms (R132). -/
structure Pins where
  addressSwitches : Nat
  fastBaudStrap : Bool
  openSwitch : Vector Bool 8
  closedSwitch : Vector Bool 8
  feedback : Vector GateBand 16
  loopOhms : Vector Nat 8
  deriving DecidableEq, Repr

/-- The module. `inFlight` holds the reports and requests its blocks have sent to one another and not yet taken (section 5.5), oldest
first; `pending` holds the commands waiting to be taken, first in first out. -/
structure State where
  powered : Bool
  roster : Roster
  zones : Vector ZoneUnit 8
  fans : Vector FanRecord 16
  queueA : StartQueue
  queueB : StartQueue
  dampers : Vector DamperRecord 8
  gates : Vector GateRecord 16
  alloc : Allocator
  sensors : SensorLine
  fire : FireInterface
  hazards : HazardList
  port : LinkPort
  store : ConfigStore
  pins : Pins
  inFlight : List Instr
  pending : List Instr
  deriving DecidableEq, Repr

/-- The reasons a step can stop with a fault. There are none: the manual gives the module no event that stops it other than the
loss of its supply, and that is an event of its own (R174), after which the module waits for power-on. -/
inductive Fault where
  deriving DecidableEq, Repr

/-- The reasons a step is refused. -/
inductive Refusal where
  /-- Raised by `exec` alone, for a row of the opcode table that has no meaning in the model yet. Safe: the machine stops. No arm
  answers with it now. -/
  | notModelled (mnemonic : String)
  deriving DecidableEq, Repr

/-- The outcome of a command. -/
abbrev Result := Host.Outcome State Fault Refusal

/-! ### The state after reset -/

/-- The factory weights of R36, placed by class code × 5 + activity code. -/
def factoryWeights : Vector Nat 20 :=
  #v[0, 900, 1400, 0, 0,  0, 500, 800, 0, 0,  0, 600, 900, 0, 0,  0, 0, 0, 150, 2500]

/-- The factory adjacency of zone z: z - 1 and z + 1 where these exist (R71). -/
def factoryAdjacency (z : Zone) : BitVec 8 :=
  #v[0b00000010#8, 0b00000101#8, 0b00001010#8, 0b00010100#8, 0b00101000#8, 0b01010000#8, 0b10100000#8, 0b01000000#8][z]

/-- The factory defaults of a zone's items (10.1). -/
def ZoneCfg.factory (z : Zone) : ZoneCfg :=
  { baseFlow := 1500, floor := 2000, ceiling := 16000, thermalFloor := 8000, quietEntry := 30, pulse := 4, space := 24,
    adjacency := factoryAdjacency z, contactEnabled := true, damperTimeout := 45 }

/-- The factory defaults of a channel's items (R77). -/
def ChanCfg.factory (c : Chan) : ChanCfg :=
  { role := .unused, feed := if c.val < 8 then .a else .b, ratedFlow := 3500, ratedRpm := 1450, pulses := 2, minSpeed := 25,
    startWindow := 20, retryWait := 30, retryLimit := 2, action := .lockOut, homeZone := 0 }

/-- The factory stall map: every stall enabled, stall i in zone i / 12 (R3). -/
def StallCfg.factory (i : StallIdx) : StallCfg :=
  { enabled := true, zone := ⟨i.val / 12, by omega⟩ }

/-- The factory defaults of the table of 10.1. -/
def Cfg.factory : Cfg :=
  { windowBase := 0, tail := 36, engineRun := 15, warmUp := 20, anticipationWeight := 300, anticipationLead := 10,
    coStart := 25, coFactor := 120, no2Start := 10, no2Factor := 80, gasCeiling := 12000, floorTerm := 4000,
    coHigh := 100, coClear := 60, no2High := 30, no2Clear := 20, parking := .last, weights := factoryWeights,
    zones := Vector.ofFn ZoneCfg.factory, stalls := Vector.ofFn StallCfg.factory, heads := Vector.replicate 32 none,
    channels := Vector.ofFn ChanCfg.factory }

/-- A stall entry after power-on and RESTART (R4). -/
def StallEntry.empty : StallEntry := { level := 0, steps := 0, occupant := none }

/-- The roster after power-on and RESTART (R30). -/
def Roster.initial : Roster := { stalls := Vector.replicate 96 StallEntry.empty, cursor := 0 }

/-- A Zone Unit after power-on (R31, R54): its first evaluation has begun, so it is GATHERING (R32), and its quiet phase is DELAY with
the zone's full quiet-entry delay. -/
def ZoneUnit.initial (quietEntryMinutes : Nat) : ZoneUnit :=
  { mode := .normal, baseFlow := 0, stallSum := 0, anticipationCount := 0, anticipation := 0, co := none, no2 := none,
    gasSource := none, gasTerm := 0, rawDemand := 0, clampedDemand := 0, demand := 0, stageCount := 0, speed := none,
    shortfall := 0, request := none, evalState := .gathering, again := false, abandoned := false,
    evalTimer := Config.evaluationPeriod, gasHigh := false, clearDelay := .idle, quiet := .delay (60 * quietEntryMinutes),
    latchSeen := false, commandSeen := none, adjacentSeen := 0, thermalSeen := false }

/-- A fan record after power-on (R79); its start window is the default of R77 until the fan first enters STARTING (log entry 41). -/
def FanRecord.initial : FanRecord :=
  { state := .off, target := .off, runOutput := false, commanded := 0, measured := 0, goodGates := 0, lowGates := 0,
    stopReason := .commanded, lastFailure := none, retryCount := 0, timer := none, settle := none, window := 20,
    failedCondition := false }

/-- A Start Queue after power-on (R98). -/
def StartQueue.initial : StartQueue := { fans := [], permit := none }

/-- A damper record at rest in a state, with nothing asked of it (R99). -/
def DamperRecord.resting (state : DamperState) : DamperRecord :=
  { state := state, request := .noRequest, closePending := false, blocking := [], timer := none, jamCondition := false }

/-- A gate that is not in use (R106). -/
def GateRecord.unused : GateRecord :=
  { inUse := false, state := .closed, target := .closed, pending := false, output := .closed, timer := none,
    jamCondition := false, lastReport := .off, answered := false }

/-- The allocator after power-on (R118). -/
def Allocator.initial : Allocator :=
  { requests := [], grants := Vector.replicate 16 none, shortfall := Vector.replicate 8 false }

/-- A head record after power-on, with the zone of the loaded configuration in force (R120). -/
def HeadRecord.initial (zone : Option Zone) : HeadRecord :=
  { zone := zone, state := .waiting, co := none, no2 := none, rawCo := none, rawNo2 := none, lastStatus := none,
    drift := false, misses := 0, hold := none, lastGood := none }

/-- A contact input in a state, with no confirmation running (R147). -/
def ContactInput.resting (state : ContactState) : ContactInput := { state := state, confirm := none }

/-- The hazard list after power-on (R158). -/
def HazardList.initial : HazardList := { entries := [], nextId := 1, unlisted := false, attention := false }

/-- The pins as State.reset reads them: log entry 7. -/
def Pins.atReset : Pins :=
  { addressSwitches := 4, fastBaudStrap := false, openSwitch := Vector.replicate 8 false,
    closedSwitch := Vector.replicate 8 true, feedback := Vector.replicate 16 .closed, loopOhms := Vector.replicate 8 4700 }

/-- The module right after power-on (R177) with a blank non-volatile copy (R175) and the pins of log entry 7: factory
defaults, every block in its starting state, and every zone's first stall sum request on its way (R32). -/
def State.reset : State :=
  { powered := true
    roster := Roster.initial
    zones := Vector.replicate 8 (ZoneUnit.initial 30)
    fans := Vector.replicate 16 FanRecord.initial
    queueA := StartQueue.initial
    queueB := StartQueue.initial
    dampers := Vector.replicate 8 (DamperRecord.resting .closed)
    gates := Vector.replicate 16 GateRecord.unused
    alloc := Allocator.initial
    sensors :=
      { heads := Vector.replicate 32 (HeadRecord.initial none), zoneBlind := Vector.replicate 8 false, due := [], window := none,
        cycleTimer := Config.pollCycleSeconds }
    fire :=
      { contacts := Vector.replicate 8 (ContactInput.resting .normal), latches := Vector.replicate 8 false,
        commands := Vector.replicate 8 none, link := .hearing, heard := none, hearingTimer := none, stateTimer := none,
        supervision := none, capability := none, linkLost := false, lostCondition := false, sentWord := none }
    hazards := HazardList.initial
    port := { state := .listening, buffer := [], response := none, address := 4, fastBaud := false }
    store :=
      { cfg := Cfg.factory, nv := .blank, saving := none, lastSave := .none, defaulted := true, minute := 0, seconds := 0,
        clockSet := false }
    pins := Pins.atReset
    inFlight := [.stallSumRequest 0, .stallSumRequest 1, .stallSumRequest 2, .stallSumRequest 3, .stallSumRequest 4,
      .stallSumRequest 5, .stallSumRequest 6, .stallSumRequest 7]
    pending := [] }

end Sys2Proof.Machine
end

