-- ==== Sys2Proof/Machine/Ops.lean ====
section
/-! DEFINITION. The named operations every block's meanings are built from: arithmetic the manual states (rounding, clamping), the
setters of each block's records, the sending and taking of reports (section 5.5), the request and answer of the supervisory
link (R161, R162), and the evaluation event of a zone (R33). -/

namespace Sys2Proof.Machine

/-! ### Arithmetic -/

/-- Division rounded up (R47, R51). -/
def ceilDiv (n d : Nat) : Nat := (n + d - 1) / d

/-- The nearest value within a range that includes both ends (5.4). -/
def clampTo (lo hi v : Nat) : Nat := min hi (max lo v)

/-- The sum of a list of flows. -/
def total (l : List Nat) : Nat := l.foldl (· + ·) 0

/-- The largest of a list of readings, or none for an empty list (R38). -/
def largest (l : List Nat) : Option Nat := l.foldl (fun m v => some (max (m.getD 0) v)) none

/-- All zones, ascending. -/
def allZones : List Zone := List.finRange 8

/-- All fan channels, ascending. -/
def allChans : List Chan := List.finRange 16

/-- All head addresses, ascending. -/
def allHeads : List HeadAddr := List.finRange 32

/-- All stall indices, ascending. -/
def allStalls : List StallIdx := List.finRange 96

/-- The two power feeds. -/
def bothFeeds : List Feed := [.a, .b]

/-! ### Setters -/

/-- Replace the Stall Roster's state. -/
def State.setRoster (s : State) (r : Roster) : State := { s with roster := r }

/-- Replace one stall entry. -/
def State.setStall (s : State) (i : StallIdx) (e : StallEntry) : State :=
  { s with roster := { s.roster with stalls := s.roster.stalls.set i e } }

/-- Replace one Zone Unit. -/
def State.setZone (s : State) (z : Zone) (u : ZoneUnit) : State := { s with zones := s.zones.set z u }

/-- Replace one fan record. -/
def State.setFan (s : State) (c : Chan) (f : FanRecord) : State := { s with fans := s.fans.set c f }

/-- A feed's Start Queue. -/
def State.queue (s : State) : Feed → StartQueue
  | .a => s.queueA
  | .b => s.queueB

/-- Replace a feed's Start Queue. -/
def State.setQueue (s : State) (f : Feed) (q : StartQueue) : State :=
  match f with
  | .a => { s with queueA := q }
  | .b => { s with queueB := q }

/-- Replace one damper record. -/
def State.setDamper (s : State) (z : Zone) (d : DamperRecord) : State := { s with dampers := s.dampers.set z d }

/-- Replace one gate record. -/
def State.setGate (s : State) (c : Chan) (g : GateRecord) : State := { s with gates := s.gates.set c g }

/-- Replace the allocator's state. -/
def State.setAlloc (s : State) (a : Allocator) : State := { s with alloc := a }

/-- Replace the Sensor Line Controller's state. -/
def State.setSensors (s : State) (l : SensorLine) : State := { s with sensors := l }

/-- Replace one head record. -/
def State.setHead (s : State) (h : HeadAddr) (r : HeadRecord) : State :=
  { s with sensors := { s.sensors with heads := s.sensors.heads.set h r } }

/-- Replace the Fire Interface's state. -/
def State.setFire (s : State) (f : FireInterface) : State := { s with fire := f }

/-- Replace the Hazard List's state. -/
def State.setHazards (s : State) (h : HazardList) : State := { s with hazards := h }

/-- Replace the port's state. -/
def State.setPort (s : State) (p : LinkPort) : State := { s with port := p }

/-- Replace the Configuration Store's state. -/
def State.setStore (s : State) (c : ConfigStore) : State := { s with store := c }

/-- Replace the working configuration. -/
def State.setCfg (s : State) (c : Cfg) : State := { s with store := { s.store with cfg := c } }

/-- Replace the pins. -/
def State.setPins (s : State) (p : Pins) : State := { s with pins := p }

/-- The working configuration. -/
def State.cfg (s : State) : Cfg := s.store.cfg

/-- A channel's configuration. -/
def State.chan (s : State) (c : Chan) : ChanCfg := s.store.cfg.channels[c]

/-- A zone's configuration. -/
def State.zoneCfg (s : State) (z : Zone) : ZoneCfg := s.store.cfg.zones[z]

/-! ### Sending and taking -/

/-- Send reports or requests to other blocks: each is a separate event, taken later (5.5). -/
def State.emit (s : State) (l : List Instr) : State := { s with inFlight := s.inFlight ++ l }

/-- Take an event: if it was sent by a block of the module, it is no longer on its way (log entry 2). -/
def State.taken (s : State) (c : Instr) : State := { s with inFlight := s.inFlight.erase c }

/-- An event at a running module: it is taken and has its effect. A module without its supply, or held in reset, does nothing
(R174, log entry 9). -/
def onEvent (c : Instr) (s : State) (f : State → State) : Result :=
  .next (if s.powered then f (s.taken c) else s.taken c)

/-- Report a change of a condition to the Hazard List (R148). -/
def State.report (s : State) (active : Bool) (kind : HazardKind) (source : Nat) : State :=
  s.emit [if active then .conditionActiveReport kind source else .conditionClearReport kind source]

/-- Report a condition's change, if it changed. -/
def State.reportChange (s : State) (before after : Bool) (kind : HazardKind) (source : Nat) : State :=
  if before = after then s else s.report after kind source

/-- An evaluation event at a zone (R33): an IDLE zone begins an evaluation by sending its stall sum request; a GATHERING zone sets its
again flag. -/
def evaluationEvent (z : Zone) (s : State) : State :=
  match s.zones[z].evalState with
  | .idle => (s.setZone z { s.zones[z] with evalState := .gathering }).emit [.stallSumRequest z]
  | .gathering => s.setZone z { s.zones[z] with again := true }

/-! ### Requests on the supervisory link -/

/-- The port can accept a request addressed to the module: it is not ANSWERING (R161), and the module has an address (R159). -/
def State.canAccept (s : State) : Bool := s.port.state != .answering && s.port.address != 0

/-- The port hands over a response (R162): it is ANSWERING until the last byte has left, an event of its own. -/
def State.respond (s : State) (r : Response) : State :=
  (s.setPort { s.port with state := .answering, buffer := [], response := some r }).emit [.responseSent]

/-- A frame that the port does not accept is dropped: in ANSWERING its bytes are discarded; otherwise the port returns to LISTENING
(R161). -/
def State.dropFrame (s : State) : State :=
  match s.port.state with
  | .answering => s
  | _ => s.setPort { s.port with state := .listening, buffer := [] }

/-- A complete, well-checked request with a command code (R161, R162): if the port can accept it, its owner carries it out as one event
and the response is built from the state after it (R167); if not, it is dropped. -/
def onRequest (c : Instr) (code : Nat) (s : State) (f : State → State × Status × List Byte) : Result :=
  onEvent c s fun s =>
    if s.canAccept then
      let (t, status, payload) := f s
      t.respond { code := code, status := status, payload := payload }
    else s.dropFrame

/-- A refused command changes no state and has an empty payload (R165). -/
def refuse (s : State) (status : Status) : State × Status × List Byte := (s, status, [])

/-- A command answered DONE. -/
def done (s : State) (payload : List Byte) : State × Status × List Byte := (s, .done, payload)

/-- The first check that fails gives the answer (R10, R162). -/
def firstFault : List (Bool × Status) → Option Status
  | [] => none
  | (true, status) :: _ => some status
  | (false, _) :: rest => firstFault rest

end Sys2Proof.Machine
end

