-- ==== Sys2Proof/Machine/Operands.lean ====
section
/-! DEFINITION. The operand forms of the supervisory link: stall labels, class and activity codes, the items of the configuration
table with their indices, and the byte forms of payload fields (R166) and frames (R160). -/

namespace Sys2Proof.Machine

/-! ### Stall labels -/

/-- The stall index a label names: the label less the window base, when the label lies in the window (R1). -/
def stallOfLabel (cfg : Cfg) (label : Nat) : Option StallIdx :=
  if cfg.windowBase ≤ label then
    if h : label - cfg.windowBase < 96 then some ⟨label - cfg.windowBase, h⟩ else none
  else none

/-- The label of a stall index: the window base plus the index (section 5.3). -/
def labelOfStall (cfg : Cfg) (i : StallIdx) : Nat := cfg.windowBase + i.val

/-! ### Classes and activities -/

/-- The class a code names (R171). -/
def classOfCode : Nat → Option VehicleClass
  | 0 => some .diesel
  | 1 => some .hybrid
  | 2 => some .gas
  | 3 => some .electric
  | _ => none

/-- The code of a class (R171). -/
def VehicleClass.code : VehicleClass → Nat
  | .diesel => 0
  | .hybrid => 1
  | .gas => 2
  | .electric => 3

/-- The activity a code names (R171). -/
def activityOfCode : Nat → Option Activity
  | 0 => some .parked
  | 1 => some .engineRun
  | 2 => some .warmUp
  | 3 => some .charging
  | 4 => some .thermalWatch
  | _ => none

/-- The code of an activity (R171). -/
def Activity.code : Activity → Nat
  | .parked => 0
  | .engineRun => 1
  | .warmUp => 2
  | .charging => 3
  | .thermalWatch => 4

/-- The activities a class may hold (R12). -/
def mayHold : VehicleClass → Activity → Bool
  | .electric, a => a == .parked || a == .charging || a == .thermalWatch
  | _, a => a == .parked || a == .engineRun || a == .warmUp

/-- The activities in which an engine runs and an allowance is credited (R14). -/
def Activity.isRunning : Activity → Bool
  | .engineRun | .warmUp => true
  | _ => false

/-- The activities that leave a residue when a record leaves them (R5). -/
def Activity.leavesResidue : Activity → Bool
  | .engineRun | .warmUp | .thermalWatch => true
  | _ => false

/-- The place of a weight in the weight table: class code × 5 + activity code (10.1, item 20). -/
def weightPlace (c : VehicleClass) (a : Activity) : Fin 20 :=
  ⟨c.code * 5 + a.code, by cases c <;> cases a <;> decide⟩

/-- The weight of a class in an activity (R36). -/
def weightOf (cfg : Cfg) (c : VehicleClass) (a : Activity) : Nat := cfg.weights[weightPlace c a]

/-- A tag that names no vehicle (R10, step 2). -/
def badTag (tag : Nat) : Bool := tag == 0 || tag ≥ 65535

/-- The value a departure field gives: absent for FFFFh (R171). -/
def departureOf (raw : Nat) : Option Nat := if raw = 65535 then none else some raw

/-- A departure field that names no minute (R10, step 3). -/
def badDeparture (raw : Nat) : Bool := raw != 65535 && raw ≥ 1440

/-- The value a charger circuit field gives: absent for FFh (R171). -/
def chargerOf (raw : Nat) : Option Nat := if raw = 255 then none else some raw

/-- A charger field that names no circuit (R10, step 3). -/
def badCharger (raw : Nat) : Bool := raw != 255 && !(1 ≤ raw && raw ≤ 48)

/-! ### Bounded indices from request fields -/

/-- The zone a field names, if it names one. -/
def zoneOf (n : Nat) : Option Zone := if h : n < 8 then some ⟨n, h⟩ else none

/-- The channel a field names, if it names one. -/
def chanOf (n : Nat) : Option Chan := if h : n < 16 then some ⟨n, h⟩ else none

/-- The head address a field names, if it names one. -/
def headOf (n : Nat) : Option HeadAddr := if h : n < 32 then some ⟨n, h⟩ else none

/-- The stall index a field names, if it names one. -/
def stallOf (n : Nat) : Option StallIdx := if h : n < 96 then some ⟨n, h⟩ else none

/-- The zone a configuration value names, a number above 7 clamped to 7 (R3, R71, R77, R116, R119). -/
def clampZone (n : Nat) : Zone := ⟨min n 7, by omega⟩

/-! ### Payload fields -/

/-- A number sent in a width of whole bytes, most significant byte first (R160). -/
def bytesOf : Nat → Nat → List Byte
  | 0, _ => []
  | w + 1, n => BitVec.ofNat 8 (n / 256 ^ w) :: bytesOf w n

/-- A field that may be absent: absent is all ones in its width (R166). -/
def field (w : Nat) : Option Nat → List Byte
  | some n => bytesOf w n
  | none => List.replicate w 0xFF#8

/-- A yes or no field: one byte, 1 for yes (R166). -/
def flag (b : Bool) : List Byte := bytesOf 1 (if b then 1 else 0)

/-- The number that bytes received most significant first stand for (R160). -/
def numberOf (l : List Byte) : Nat := l.foldl (fun n b => 256 * n + b.toNat) 0

/-- A set of channels as a mask with the lowest bit for member 0 (R166). -/
def maskOf (l : List Chan) : Nat := total (l.map fun c => 2 ^ c.val)

/-! ### The check sequence -/

/-- One bit of the CRC-16 with polynomial 1021h, most significant bit first (R160). -/
def crcBit (crc : BitVec 16) : BitVec 16 :=
  if crc.msb then (crc <<< 1) ^^^ 0x1021#16 else crc <<< 1

/-- One byte of the CRC-16 (R160). -/
def crcByte (crc : BitVec 16) (b : Byte) : BitVec 16 :=
  let x := crc ^^^ (b.zeroExtend 16 <<< 8)
  crcBit (crcBit (crcBit (crcBit (crcBit (crcBit (crcBit (crcBit x)))))))

/-- The check sequence over a list of bytes: initial value FFFFh, the result not inverted (R160). -/
def crc16 (l : List Byte) : BitVec 16 := l.foldl crcByte 0xFFFF#16

/-- The code of a status (R165). -/
def Status.code : Status → Nat
  | .done => 0x00
  | .doneClamped => 0x01
  | .stallOutOfWindow => 0x10
  | .stallDisabled => 0x11
  | .stallOccupied => 0x12
  | .stallVacant => 0x13
  | .badTag => 0x20
  | .tagInUse => 0x21
  | .tagUnknown => 0x22
  | .classMismatch => 0x30
  | .badTransition => 0x31
  | .notRunning => 0x32
  | .fieldRange => 0x33
  | .endOfRoster => 0x34
  | .hazardUnknown => 0x40
  | .notNow => 0x41
  | .busy => 0x42
  | .unknownCommand => 0x43
  | .badLength => 0x44

/-- The bytes of a response frame (R160): start byte, address, code, status, payload length, payload, check sequence. -/
def responseFrame (address : Nat) (r : Response) : List Byte :=
  let body := bytesOf 1 address ++ bytesOf 1 r.code ++ bytesOf 1 r.status.code ++ bytesOf 1 r.payload.length ++ r.payload
  0x3E#8 :: body ++ bytesOf 2 (crc16 body).toNat

/-! ### The configuration items -/

/-- An item of the configuration table with its index resolved (10.1). -/
inductive CfgItem where
  | windowBase | tail | engineRun | warmUp | anticipationWeight | anticipationLead
  | coStart | coFactor | no2Start | no2Factor | gasCeiling | floorTerm
  | level (field : GasLevelField)
  | parking
  | weight (cls : VehicleClass) (activity : Activity)
  | baseFlow (z : Zone)
  | floorCeiling (field : FloorCeilingField) (z : Zone)
  | thermalFloor (z : Zone) | quietEntry (z : Zone) | pulse (z : Zone) | space (z : Zone)
  | adjacency (z : Zone) | contactEnabled (z : Zone) | damperTimeout (z : Zone)
  | stall (field : StallMapField) (i : StallIdx)
  | headZone (h : HeadAddr)
  | placement (field : PlacementField) (c : Chan)
  | ratedRpm (c : Chan) | pulses (c : Chan) | minSpeed (c : Chan) | startWindow (c : Chan) | retryWait (c : Chan)
  | retryLimit (c : Chan) | action (c : Chan) | homeZone (c : Chan)
  | saveState | lastSave
  deriving DecidableEq, Repr

/-- A module-wide item has index 0 (10.1). -/
def atIndexZero (index : Nat) (i : CfgItem) : Option CfgItem := if index = 0 then some i else none

/-- The weight a weight index names: class code × 5 + activity code, for an activity its class may hold (10.1, R172). -/
def weightItem (index : Nat) : Option CfgItem := do
  let c ← classOfCode (index / 5)
  let a ← activityOfCode (index % 5)
  if mayHold c a then some (.weight c a) else none

/-- The item an item number and index name, or none where they name nothing (R172). -/
def itemOf (item index : Nat) : Option CfgItem :=
  match item with
  | 1 => atIndexZero index .windowBase
  | 2 => atIndexZero index .tail
  | 3 => atIndexZero index .engineRun
  | 4 => atIndexZero index .warmUp
  | 5 => atIndexZero index .anticipationWeight
  | 6 => atIndexZero index .anticipationLead
  | 7 => atIndexZero index .coStart
  | 8 => atIndexZero index .coFactor
  | 9 => atIndexZero index .no2Start
  | 10 => atIndexZero index .no2Factor
  | 11 => atIndexZero index .gasCeiling
  | 12 => atIndexZero index .floorTerm
  | 13 => atIndexZero index (.level .coHigh)
  | 14 => atIndexZero index (.level .coClear)
  | 15 => atIndexZero index (.level .no2High)
  | 16 => atIndexZero index (.level .no2Clear)
  | 17 => atIndexZero index .parking
  | 20 => weightItem index
  | 30 => (zoneOf index).map .baseFlow
  | 31 => (zoneOf index).map (.floorCeiling .floor)
  | 32 => (zoneOf index).map (.floorCeiling .ceiling)
  | 33 => (zoneOf index).map .thermalFloor
  | 34 => (zoneOf index).map .quietEntry
  | 35 => (zoneOf index).map .pulse
  | 36 => (zoneOf index).map .space
  | 37 => (zoneOf index).map .adjacency
  | 38 => (zoneOf index).map .contactEnabled
  | 39 => (zoneOf index).map .damperTimeout
  | 40 => (stallOf index).map (.stall .enabled)
  | 41 => (stallOf index).map (.stall .zone)
  | 45 => (headOf index).map .headZone
  | 50 => (chanOf index).map (.placement .role)
  | 51 => (chanOf index).map (.placement .feed)
  | 52 => (chanOf index).map (.placement .ratedFlow)
  | 53 => (chanOf index).map .ratedRpm
  | 54 => (chanOf index).map .pulses
  | 55 => (chanOf index).map .minSpeed
  | 56 => (chanOf index).map .startWindow
  | 57 => (chanOf index).map .retryWait
  | 58 => (chanOf index).map .retryLimit
  | 59 => (chanOf index).map .action
  | 60 => (chanOf index).map .homeZone
  | 70 => atIndexZero index .saveState
  | 71 => atIndexZero index .lastSave
  | _ => none

/-- The item number of a stall map field (10.1). -/
def stallMapItem : StallMapField → Nat
  | .enabled => 40
  | .zone => 41

/-- The item number of a floor or ceiling (10.1). -/
def floorCeilingItem : FloorCeilingField → Nat
  | .floor => 31
  | .ceiling => 32

/-- The item number of a gas level (10.1). -/
def gasLevelItem : GasLevelField → Nat
  | .coHigh => 13
  | .coClear => 14
  | .no2High => 15
  | .no2Clear => 16

/-- The item number of a placement item (10.1). -/
def placementItem : PlacementField → Nat
  | .role => 50
  | .feed => 51
  | .ratedFlow => 52

/-- The value a role is read as: its kind in the high byte, its zone or reach mask in the low byte (10.1, item 50). -/
def roleValue : Role → Nat
  | .unused => 0
  | .zone z => 256 + z.val
  | .standby reach => 512 + reach.toNat

/-- The value of an item in the working configuration, as READ-CONFIG answers it (R173); a head zone of none is FFFFh. -/
def itemValue (st : ConfigStore) : CfgItem → Nat
  | .windowBase => st.cfg.windowBase
  | .tail => st.cfg.tail
  | .engineRun => st.cfg.engineRun
  | .warmUp => st.cfg.warmUp
  | .anticipationWeight => st.cfg.anticipationWeight
  | .anticipationLead => st.cfg.anticipationLead
  | .coStart => st.cfg.coStart
  | .coFactor => st.cfg.coFactor
  | .no2Start => st.cfg.no2Start
  | .no2Factor => st.cfg.no2Factor
  | .gasCeiling => st.cfg.gasCeiling
  | .floorTerm => st.cfg.floorTerm
  | .level .coHigh => st.cfg.coHigh
  | .level .coClear => st.cfg.coClear
  | .level .no2High => st.cfg.no2High
  | .level .no2Clear => st.cfg.no2Clear
  | .parking => match st.cfg.parking with | .last => 0 | .home => 1 | .closed => 2
  | .weight c a => weightOf st.cfg c a
  | .baseFlow z => st.cfg.zones[z].baseFlow
  | .floorCeiling .floor z => st.cfg.zones[z].floor
  | .floorCeiling .ceiling z => st.cfg.zones[z].ceiling
  | .thermalFloor z => st.cfg.zones[z].thermalFloor
  | .quietEntry z => st.cfg.zones[z].quietEntry
  | .pulse z => st.cfg.zones[z].pulse
  | .space z => st.cfg.zones[z].space
  | .adjacency z => st.cfg.zones[z].adjacency.toNat
  | .contactEnabled z => if st.cfg.zones[z].contactEnabled then 1 else 0
  | .damperTimeout z => st.cfg.zones[z].damperTimeout
  | .stall .enabled i => if st.cfg.stalls[i].enabled then 1 else 0
  | .stall .zone i => st.cfg.stalls[i].zone.val
  | .headZone h => match st.cfg.heads[h] with | some z => z.val | none => 65535
  | .placement .role c => roleValue st.cfg.channels[c].role
  | .placement .feed c => match st.cfg.channels[c].feed with | .a => 0 | .b => 1
  | .placement .ratedFlow c => st.cfg.channels[c].ratedFlow
  | .ratedRpm c => st.cfg.channels[c].ratedRpm
  | .pulses c => st.cfg.channels[c].pulses
  | .minSpeed c => st.cfg.channels[c].minSpeed
  | .startWindow c => st.cfg.channels[c].startWindow
  | .retryWait c => st.cfg.channels[c].retryWait
  | .retryLimit c => st.cfg.channels[c].retryLimit
  | .action c => match st.cfg.channels[c].action with | .lockOut => 0 | .persist => 1
  | .homeZone c => st.cfg.channels[c].homeZone.val
  | .saveState => if st.saving.isSome then 1 else 0
  | .lastSave => match st.lastSave with | .none => 0 | .done => 1 | .failed => 2

end Sys2Proof.Machine
end

