-- ==== Sys2Proof/Machine/Flags.lean ====
section
/-! DEFINITION. The one-bit facts the blocks compute from their state: which conditions are active at their owners (8.1), when a fan is
available (R43), when a head counts (R38), and when the attention output is asserted (R156). -/

namespace Sys2Proof

/-- A target carries the forced mark (R68, R80). -/
def FanTarget.marked : FanTarget → Bool
  | .on _ m => m
  | .off => false

/-- A target is an on target (R79). -/
def FanTarget.isOn : FanTarget → Bool
  | .on _ _ => true
  | .off => false

/-- A kind's order number, its code on the link (8.1, R166). -/
def HazardKind.order : HazardKind → Nat
  | .fire => 1
  | .fireInputFault => 2
  | .fireLinkLost => 3
  | .gasHigh => 4
  | .sensorLost => 5
  | .zoneBlind => 6
  | .batteryThermal => 7
  | .fanFailed => 8
  | .damperJammed => 9
  | .gateJammed => 10
  | .shortfall => 11

end Sys2Proof

namespace Sys2Proof.Machine

/-- A fan in a state is available: not FAILED, SERVICE or LOCKED-OUT (R43). -/
def FanState.available : FanState → Bool
  | .failed | .service | .lockedOut => false
  | _ => true

/-- A fan in a state discharges with its run output on: STARTING or RUNNING (R79). -/
def FanState.turning : FanState → Bool
  | .starting | .running => true
  | _ => false

/-- A gate may move while its fan is in a state: OFF, QUEUED, RETRY-WAIT, LOCKED-OUT or FAILED (R107). -/
def FanState.letsGateMove : FanState → Bool
  | .off | .queued | .retryWait | .lockedOut | .failed => true
  | _ => false

/-- A head in a state counts toward its zone's values: VALID or HOLDING (R38). -/
def HeadState.counts : HeadState → Bool
  | .valid | .holding => true
  | _ => false

/-- An occupant record is in THERMAL-WATCH (R23). -/
def StallEntry.inThermalWatch (e : StallEntry) : Bool :=
  match e.occupant with
  | some o => o.activity == .thermalWatch
  | none => false

/-- A zone mode that refuses a RESTART (R178). -/
def ZoneMode.refusesRestart : ZoneMode → Bool
  | .fireExtract | .smokeHold | .manualOn | .manualOff => true
  | _ => false

/-- The SENSOR-LOST condition of a head: active while it is LOST (R130). -/
def HeadRecord.lost (h : HeadRecord) : Bool := h.state == .lost

/-- A zone is blind: it has a head in force and every head in force is LOST (R131). -/
def blind (heads : Vector HeadRecord 32) (z : Zone) : Bool :=
  let own := allHeads.filter fun h => heads[h].zone == some z
  !own.isEmpty && own.all fun h => heads[h].lost

/-- The condition named by a kind and a source, as its owner holds it (R148). A source outside the kind's range names no condition. -/
def conditionActive (s : State) (kind : HazardKind) (source : Nat) : Bool :=
  match kind with
  | .fire => match zoneOf source with | some z => s.fire.latches[z] | none => false
  | .fireInputFault => match zoneOf source with | some z => s.fire.contacts[z].state == .lineFault | none => false
  | .fireLinkLost => source == 0 && s.fire.lostCondition
  | .gasHigh => match zoneOf source with | some z => s.zones[z].gasHigh | none => false
  | .sensorLost => match headOf source with | some h => s.sensors.heads[h].lost | none => false
  | .zoneBlind => match zoneOf source with | some z => s.sensors.zoneBlind[z] | none => false
  | .batteryThermal => match stallOf source with | some i => s.roster.stalls[i].inThermalWatch | none => false
  | .fanFailed => match chanOf source with | some c => s.fans[c].failedCondition | none => false
  | .damperJammed => match zoneOf source with | some z => s.dampers[z].jamCondition | none => false
  | .gateJammed => match chanOf source with | some c => s.gates[c].jamCondition | none => false
  | .shortfall => match zoneOf source with | some z => s.alloc.shortfall[z] | none => false

/-- The kinds in the order of the kind table (8.1). -/
def kindOrder : List HazardKind :=
  [.fire, .fireInputFault, .fireLinkLost, .gasHigh, .sensorLost, .zoneBlind, .batteryThermal, .fanFailed, .damperJammed,
   .gateJammed, .shortfall]

/-- Every active condition, in the order of the kind table and within a kind by ascending source (R155). -/
def activeConditions (s : State) : List (HazardKind × Nat) :=
  kindOrder.flatMap fun k =>
    ((List.range (sourceCount k)).filter fun n => conditionActive s k n).map fun n => (k, n)

/-- The attention output is asserted exactly when an entry is unacknowledged or UNLISTED is set (R156). -/
def attentionDue (entries : List HazardEntry) (unlisted : Bool) : Bool :=
  unlisted || entries.any fun e => e.state != .activeAck

end Sys2Proof.Machine
end

