-- ==== Sys2Proof/Machine/Alloc.lean ====
section
/-! DEFINITION. The Standby Allocator (5.3): the request list, the allocation run, and what it sends for each grant that changes. -/

namespace Sys2Proof.Machine

/-- The grants of the channels, as a run works on them (R111). -/
abbrev Grants := Vector (Option Zone) 16

/-- Class order, highest first: FIRE 0, GAS-ALARM 1, FAILURE-COVER 2, SHORTFALL 3 (R110, R166). -/
def classRank : StandbyCall → Nat
  | .fire => 0
  | .flow .gasAlarm _ => 1
  | .flow .failureCover _ => 2
  | .flow .shortfall _ => 3

/-- A channel's standby fan reaches a zone (R77). -/
def reachesZone (s : State) (c : Chan) (z : Zone) : Bool :=
  match (s.chan c).role with
  | .standby reach => reach.getLsbD z.val
  | _ => false

/-- A channel holds a standby fan. -/
def isStandby (s : State) (c : Chan) : Bool :=
  match (s.chan c).role with
  | .standby _ => true
  | _ => false

/-- A standby fan is usable: available, and its gate not JAMMED (R111). -/
def usable (s : State) (c : Chan) : Bool :=
  isStandby s c && s.fans[c].state.available && s.gates[c].state != .jammed

/-- The request of a zone in the list, if it has one (R110). -/
def requestOf (rs : List StandbyEntry) (z : Zone) : Option StandbyEntry := rs.find? fun e => e.zone == z

/-- The fans granted to a zone, in ascending channel number (R111). -/
def heldBy (g : Grants) (z : Zone) : List Chan := allChans.filter fun c => g[c] == some z

/-- The sum of the rated flows of the fans granted to a zone (R111). -/
def heldFlow (s : State) (g : Grants) (z : Zone) : Nat := total ((heldBy g z).map fun c => (s.chan c).ratedFlow)

/-- A request is covered when the fans granted to it sum to at least its amount; a FIRE request never is (R111). -/
def covered (s : State) (g : Grants) (e : StandbyEntry) : Bool :=
  match e.call with
  | .fire => false
  | .flow _ amount => amount ≤ heldFlow s g e.zone

/-- The first step's ends: grants whose fan is no longer usable, and grants to zones with no request (R112, 1 and 2). A grant to a zone
that a write of the role has since taken out of the fan's reach ends with them, by the law of R111 (log entry 37). -/
def endDeadGrants (s : State) (rs : List StandbyEntry) (g : Grants) : Grants :=
  Vector.ofFn fun c : Chan =>
    match g[c] with
    | some z => if usable s c && reachesZone s c z && (requestOf rs z).isSome then some z else none
    | none => none

/-- A fan is released when the request stays covered without it (R112, 3). -/
def releaseIfSurplus (s : State) (e : StandbyEntry) (g : Grants) (c : Chan) : Grants :=
  if covered s (g.set c none) e then g.set c none else g

/-- A request's surplus fans are released, looked at in descending channel number (R112, 3). -/
def releaseSurplus (s : State) (g : Grants) (e : StandbyEntry) : Grants :=
  (heldBy g e.zone).reverse.foldl (releaseIfSurplus s e) g

/-- The free fans in a zone's reach: usable and ungranted (R111). -/
def freeFor (s : State) (g : Grants) (z : Zone) : List Chan :=
  allChans.filter fun c => usable s c && g[c] == none && reachesZone s c z

/-- Of some fans, the lowest-numbered whose gate is AT a zone, or else the lowest-numbered (R113, R114). -/
def preferAt (s : State) (z : Zone) (l : List Chan) : Option Chan :=
  match l.find? fun c => s.gates[c].state == .atZone z with
  | some c => some c
  | none => l.head?

/-- The fans in a zone's reach that a holder's request has been granted (R113). -/
def takeable (s : State) (g : Grants) (z : Zone) (holder : Zone) : List Chan :=
  (heldBy g holder).filter fun c => reachesZone s c z

/-- The fan preempted for a zone from holders of some classes, given lowest first: the holder is of the lowest class that holds a fan in the
zone's reach, and the youngest of that class (R113, R114). -/
def preemptFrom (s : State) (rs : List StandbyEntry) (g : Grants) (z : Zone) : List Nat → Option Chan
  | [] => none
  | rank :: higher =>
    match rs.reverse.find? fun e => classRank e.call == rank && !(takeable s g z e.zone).isEmpty with
    | some holder => preferAt s z (takeable s g z holder.zone)
    | none => preemptFrom s rs g z higher

/-- The fan a FIRE request takes in a round: a free one, or one held by a lower class (R113). -/
def fireTake (s : State) (rs : List StandbyEntry) (g : Grants) (z : Zone) : Option Chan :=
  match preferAt s z (freeFor s g z) with
  | some c => some c
  | none => preemptFrom s rs g z [3, 2, 1]

/-- One round over the FIRE requests in list order, with whether any took a fan (R113). -/
def fireRound (s : State) (rs : List StandbyEntry) : List StandbyEntry → Grants → Grants × Bool
  | [], g => (g, false)
  | e :: rest, g =>
    match fireTake s rs g e.zone with
    | some c => ((fireRound s rs rest (g.set c (some e.zone))).1, true)
    | none => fireRound s rs rest g

/-- The rounds go on until one in which no FIRE request takes a fan; each round before it takes one of the sixteen (R113). -/
def fireRounds (s : State) (rs : List StandbyEntry) : Nat → Grants → Grants
  | 0, g => g
  | n + 1, g =>
    let r := fireRound s rs (rs.filter fun e => e.call == .fire) g
    if r.2 then fireRounds s rs n r.1 else r.1

/-- The fan a request of another class takes next: a free one, or for GAS-ALARM one held by FAILURE-COVER or SHORTFALL (R114). -/
def flowTake (s : State) (rs : List StandbyEntry) (g : Grants) (e : StandbyEntry) : Option Chan :=
  match preferAt s e.zone (freeFor s g e.zone) with
  | some c => some c
  | none => if classRank e.call = 1 then preemptFrom s rs g e.zone [3, 2] else none

/-- A request takes fans until it is covered or nothing more can be taken; each one it takes is another of the sixteen (R114). -/
def serveFlow (s : State) (rs : List StandbyEntry) (e : StandbyEntry) : Nat → Grants → Grants
  | 0, g => g
  | n + 1, g =>
    if covered s g e then g
    else
      match flowTake s rs g e with
      | some c => serveFlow s rs e n (g.set c (some e.zone))
      | none => g

/-- The requests of a class in list order (R114). -/
def ofRank (rs : List StandbyEntry) (rank : Nat) : List StandbyEntry := rs.filter fun e => classRank e.call == rank

/-- The grants an allocation run decides, in the steps of R112 to R114. -/
def decideGrants (s : State) (rs : List StandbyEntry) (g : Grants) : Grants :=
  let g := endDeadGrants s rs g
  let g := rs.foldl (releaseSurplus s) g
  let g := fireRounds s rs 17 g
  (ofRank rs 1 ++ ofRank rs 2 ++ ofRank rs 3).foldl (fun g e => serveFlow s rs e 17 g) g

/-- The gate command that parks a fan whose grant ends, if the policy gives one (R116). -/
def parkTarget (s : State) (c : Chan) : Option GateTarget :=
  match s.cfg.parking with
  | .last => if s.gates[c].state = .jammed then some s.gates[c].target else none
  | .home => some (if reachesZone s c (s.chan c).homeZone then .zone (s.chan c).homeZone else .closed)
  | .closed => some .closed

/-- The parking command as an event (R116). -/
def parking (s : State) (c : Chan) : List Instr := (parkTarget s c).toList.map (.gateCommand c)

/-- A grant made, changed or ended, reported to both Start Queues (R115). -/
def grantReports (c : Chan) : List Instr := bothFeeds.map (.grantReport c)

/-- The actions for one fan's difference (R115). -/
def grantActions (s : State) (c : Chan) (before after : Option Zone) : List Instr :=
  match before, after with
  | none, none => []
  | none, some z => [.gateCommand c (.zone z)] ++ grantReports c ++ [.evaluationRequest z]
  | some z, none => [.standbyOffTarget c] ++ parking s c ++ grantReports c ++ [.evaluationRequest z]
  | some y, some z =>
    if y = z then []
    else [.standbyOffTarget c, .gateCommand c (.zone z)] ++ grantReports c ++ [.evaluationRequest y, .evaluationRequest z]

/-- The differences of a run, carried out fan by fan (R115). -/
def differences (s : State) (before after : Grants) : List Instr :=
  allChans.flatMap fun c => grantActions s c before[c] after[c]

/-- A request's cover timer after a run: stopped for a covered or FIRE request, started if not running for any other (R117). -/
def coverAfter (s : State) (g : Grants) (e : StandbyEntry) : StandbyEntry :=
  match e.call with
  | .fire => { e with cover := none }
  | .flow _ _ =>
    if covered s g e then { e with cover := none }
    else { e with cover := some (e.cover.getD Config.coverSeconds) }

/-- A zone's SHORTFALL condition after a run: it clears when the zone has no request, a FIRE request, or a covered one (R117). -/
def shortfallAfter (s : State) (rs : List StandbyEntry) (g : Grants) (before : Bool) (z : Zone) : Bool :=
  match requestOf rs z with
  | none => false
  | some e => before && e.call != .fire && !covered s g e

/-- The clear reports of the SHORTFALL conditions that a new set of conditions ends (R117). -/
def shortfallClears (before after : Vector Bool 8) : List Instr :=
  (allZones.filter fun z => before[z] && !after[z]).map fun z => .conditionClearReport .shortfall z.val

/-- An allocation run on a request list: the new grants, their differences, and the cover timers and conditions (R112 to R117). -/
def runOn (s : State) (rs : List StandbyEntry) : State :=
  let g := decideGrants s rs s.alloc.grants
  let conditions := Vector.ofFn fun z : Zone => shortfallAfter s rs g s.alloc.shortfall[z] z
  (s.setAlloc { requests := rs.map (coverAfter s g), grants := g, shortfall := conditions }).emit
    (differences s s.alloc.grants g ++ shortfallClears s.alloc.shortfall conditions)

/-- An allocation run (R112). -/
def allocationRun (s : State) : State := runOn s s.alloc.requests

/-- The place a new call takes in the list: a change of amount keeps its place, a change of class moves to the young end, and a zone with no
request is appended there (R110). -/
def placeCall (rs : List StandbyEntry) (z : Zone) (call : StandbyCall) : List StandbyEntry :=
  match requestOf rs z with
  | none => rs ++ [{ zone := z, call := call, cover := none }]
  | some e =>
    if classRank e.call = classRank call then rs.map fun d => if d.zone = z then { d with call := call } else d
    else (rs.filter fun d => d.zone != z) ++ [{ e with call := call }]

/-- STANDBY_REQUEST_RAISE: a zone that has a request in the list replaces it, as a change (R110). -/
def execStandbyRequestRaise (z : Zone) (call : StandbyCall) (s : State) : Result :=
  onEvent (.standbyRequestRaise z call) s fun s => runOn s (placeCall s.alloc.requests z call)

/-- STANDBY_REQUEST_CHANGE (R110, log entry 20). -/
def execStandbyRequestChange (z : Zone) (call : StandbyCall) (s : State) : Result :=
  onEvent (.standbyRequestChange z call) s fun s => runOn s (placeCall s.alloc.requests z call)

/-- STANDBY_REQUEST_WITHDRAW (R110). -/
def execStandbyRequestWithdraw (z : Zone) (s : State) : Result :=
  onEvent (.standbyRequestWithdraw z) s fun s => runOn s (s.alloc.requests.filter fun e => e.zone != z)

/-- The gate of an ungranted fan that left SERVICE with its gate JAMMED is sent its park position (R116). -/
def proveGate (s : State) (c : Chan) (leftService : Bool) : List Instr :=
  if leftService && s.gates[c].state == .jammed && s.alloc.grants[c] == none then parking s c else []

/-- STANDBY_AVAILABILITY_REPORT: an allocation run, and the proof of a jammed gate after service (R112, R116). -/
def execStandbyAvailabilityReport (c : Chan) (leftService : Bool) (s : State) : Result :=
  onEvent (.standbyAvailabilityReport c leftService) s fun s =>
    let t := allocationRun s
    t.emit (proveGate t c leftService)

/-- GATE_JAM_REPORT: an allocation run (R112). -/
def execGateJamReport (c : Chan) (s : State) : Result :=
  onEvent (.gateJamReport c) s allocationRun

/-- COVER_TIMER_EXPIRY: the timer stops and the zone's SHORTFALL condition becomes active (R117). -/
def execCoverTimerExpiry (z : Zone) (s : State) : Result :=
  onEvent (.coverTimerExpiry z) s fun s =>
    match (requestOf s.alloc.requests z).bind (·.cover) with
    | none => s
    | some _ =>
      let rs := s.alloc.requests.map fun e => if e.zone = z then { e with cover := none } else e
      (s.setAlloc { s.alloc with requests := rs, shortfall := s.alloc.shortfall.set z true }).reportChange
        s.alloc.shortfall[z] true .shortfall z.val

/-- The off targets, parking commands and reports of the grants a RESTART ends (R118). -/
def restartActions (s : State) : List Instr :=
  allChans.flatMap fun c =>
    match s.alloc.grants[c] with
    | some _ => [.standbyOffTarget c] ++ parking s c ++ grantReports c
    | none => []

/-- ALLOCATOR_RESTART: the list is emptied, every grant and SHORTFALL condition ends, and every zone is sent a cleared report (R118). -/
def execAllocatorRestart (s : State) : Result :=
  onEvent .allocatorRestart s fun s =>
    (s.setAlloc Allocator.initial).emit
      (restartActions s ++ shortfallClears s.alloc.shortfall Allocator.initial.shortfall ++
        allZones.map .standbyClearedReport)

end Sys2Proof.Machine
end

