-- ==== Sys2Proof/Machine/Fan.lean ====
section
/-! DEFINITION. The Fan Channel Controller and the Start Queues (chapter 4): targets, starting, running, stopping, failure and retry,
service, and the permits of the two feeds. -/

namespace Sys2Proof.Machine

/-! ### Reports -/

/-- The availability report of a fan: an evaluation request to its zone, a report to the allocator, or nothing, by its role (R93). The
allocator's report says whether the fan left SERVICE, since R116 acts on that (log entry 21). -/
def availabilityReport (s : State) (c : Chan) (leftService : Bool) : List Instr :=
  match (s.chan c).role with
  | .zone z => [.evaluationRequest z]
  | .standby _ => [.standbyAvailabilityReport c leftService]
  | .unused => []

/-- A change of state is an availability change when the fan enters, leaves or moves between FAILED, SERVICE and LOCKED-OUT (R93). -/
def availabilityChanged (before after : FanState) : Bool :=
  before != after && (!before.available || !after.available)

/-- Replace a fan's record and send the reports its change of state brings: the state report to the Damper Controller and, where the
availability changed, the availability report (R93). -/
def changeFan (s : State) (c : Chan) (f : FanRecord) : State :=
  let before := s.fans[c].state
  (s.setFan c f).emit
    ((if before = f.state then [] else [.fanStateReport c]) ++
     (if availabilityChanged before f.state then availabilityReport s c (before == .service) else []))

/-! ### The start queues -/

/-- The feed of a fan, in force when it joins its queue (R77, R94). -/
def feedOf (s : State) (c : Chan) : Feed := (s.chan c).feed

/-- The stored target of a fan carries the forced mark. -/
def isMarked (s : State) (c : Chan) : Bool := s.fans[c].target.marked

/-- The insertion rule: a marked fan goes directly behind the last marked fan, or to the head if there is none; any other fan goes to
the tail (R94). -/
def insertFan (s : State) (c : Chan) (q : List Chan) : List Chan :=
  if isMarked s c then
    let behind := (q.reverse.takeWhile fun d => !isMarked s d).reverse
    let front := (q.reverse.dropWhile fun d => !isMarked s d).reverse
    front ++ [c] ++ behind
  else q ++ [c]

/-- A fan whose record is already QUEUED takes its place in its feed's queue (R94). -/
def placeInQueue (s : State) (c : Chan) : State :=
  let q := s.queue (feedOf s c)
  s.setQueue (feedOf s c) { q with fans := insertFan s c (q.fans.filter (· != c)) }

/-- A fan leaves its feed's queue (R94). -/
def leaveQueue (s : State) (c : Chan) : State :=
  let q := s.queue (feedOf s c)
  s.setQueue (feedOf s c) { q with fans := q.fans.filter (· != c) }

/-- A fan becomes QUEUED with the record given and joins its feed's queue (R94). -/
def joinQueue (s : State) (c : Chan) (f : FanRecord) : State :=
  placeInQueue (changeFan s c { f with state := .queued, timer := none }) c

/-- The holder of a feed's permit releases it (R96). -/
def releasePermit (s : State) (c : Chan) : State :=
  let q := s.queue (feedOf s c)
  if q.permit = some c then s.setQueue (feedOf s c) { q with permit := none } else s

/-- The speed a fan applies for its stored target (R80). -/
def appliedSpeed (s : State) (c : Chan) (t : FanTarget) : Nat :=
  match t with
  | .on speed _ => min (max speed (s.chan c).minSpeed) 100
  | .off => 0

/-- A fan's path is open (R95, R102, R107): an own fan's while its zone's damper is OPEN, a standby fan's while it is granted to a zone
and its gate is AT that zone with no target pending. -/
def pathOpen (s : State) (c : Chan) : Bool :=
  match (s.chan c).role with
  | .zone z => s.dampers[z].state == .opened
  | .standby _ =>
    match s.alloc.grants[c] with
    | some z => s.gates[c].state == .atZone z && !s.gates[c].pending
    | none => false
  | .unused => false

/-- A path check answered yes is recorded at the damper or gate in the same action (R102, R107). -/
def recordAnswer (s : State) (c : Chan) : State :=
  match (s.chan c).role with
  | .zone z => s.setDamper z { s.dampers[z] with blocking := s.dampers[z].blocking.insert c }
  | .standby _ => s.setGate c { s.gates[c] with answered := true }
  | .unused => s

/-- A fan takes its feed's permit and becomes STARTING: run output on, speed applied, good-gate count 0, start window started with the
item as it stands, which is in force until the next entry into STARTING (R77, R84, log entry 41). -/
def startFan (s : State) (c : Chan) : State :=
  let f := s.fans[c]
  let t := leaveQueue (recordAnswer s c) c
  let q := t.queue (feedOf t c)
  changeFan (t.setQueue (feedOf t c) { q with permit := some c }) c
    { f with
      state := .starting, runOutput := true, commanded := appliedSpeed s c f.target, goodGates := 0,
      timer := some (.startWindow (s.chan c).startWindow), window := (s.chan c).startWindow }

/-- The examination of a feed's queue: while the permit is free, the first queued fan whose path is open takes it (R95). -/
def examine (s : State) (f : Feed) : State :=
  match (s.queue f).permit with
  | some _ => s
  | none =>
    match (s.queue f).fans.find? fun c => pathOpen s c with
    | some c => startFan s c
    | none => s

/-! ### Stopping and failing -/

/-- A fan's run output turns off and it becomes STOPPING for a reason, with the rundown limit started; its start window, clean-run time
and settle time stop (R85, R86, R87). -/
def stopFan (s : State) (c : Chan) (reason : StopReason) (f : FanRecord) : State :=
  changeFan s c
    { f with
      state := .stopping, runOutput := false, commanded := 0, stopReason := reason,
      timer := some (.rundown Config.rundownSeconds), settle := none }

/-- The action in force at a decision: PERSIST while the stored target carries the forced mark, else the configured one (R88). -/
def effectiveAction (s : State) (c : Chan) (t : FanTarget) : ExhaustAction :=
  if t.marked then .persist else (s.chan c).action

/-- LOCKED-OUT after a failed start, FAILED after a lost speed (R88, R90). -/
def exhaustedState : Option FailKind → FanState
  | some .speedLost => .failed
  | _ => .lockedOut

/-- The decision after a failed attempt (R88). -/
def attemptFailed (s : State) (c : Chan) (kind : FailKind) : State :=
  let f := s.fans[c]
  let count := min 255 (f.retryCount + 1)
  let limit := (s.chan c).retryLimit
  let next : FanState :=
    if limit ≤ count && effectiveAction s c f.target == .lockOut then exhaustedState (some kind)
    else if f.target.isOn then .retryWait else .off
  let reached := f.failedCondition || count == limit
  let t := changeFan s c
    { f with
      state := next, retryCount := count, lastFailure := some kind, failedCondition := reached,
      timer := if next = .retryWait then some (.retryWait (s.chan c).retryWait) else none }
  t.reportChange f.failedCondition reached .fanFailed c.val

/-- The rundown ends (R87): a commanded stop makes the fan OFF, and with an on target stored it joins its queue at once; any other stop
is a failed attempt (R88). -/
def endRundown (s : State) (c : Chan) : State :=
  let f := s.fans[c]
  match f.stopReason with
  | .commanded =>
    let t := changeFan s c { f with state := .off, timer := none }
    if f.target.isOn then joinQueue t c t.fans[c] else t
  | .failure kind => attemptFailed s c kind

/-- A rundown's end as an event of its own: when it brings the fan into its queue, the queue examines its fans (R82, R95). -/
def finishRundown (s : State) (c : Chan) : State :=
  let t := endRundown s c
  if t.fans[c].state = .queued then examine t (feedOf t c) else t

/-! ### Targets -/

/-- The exhaustion decision made again when a QUEUED or RETRY-WAIT fan loses the forced mark (R90). -/
def exhausted (s : State) (c : Chan) : Bool :=
  decide ((s.chan c).retryLimit ≤ s.fans[c].retryCount) && (s.chan c).action == .lockOut

/-- A QUEUED or RETRY-WAIT fan leaves its queue or stops its wait for LOCKED-OUT or FAILED, with the new target stored (R90). -/
def lockOut (s : State) (c : Chan) (t : FanTarget) : State :=
  let f := s.fans[c]
  changeFan (leaveQueue s c) c { f with state := exhaustedState f.lastFailure, target := t, timer := none }

/-- A new on target at a fan whose run output is on: it applies its speed, and in RUNNING a higher speed sets the low-gate count to 0 and
starts the settle time, with the start window in force since the fan entered STARTING (R77, R80, R84, R86, log entry 41). -/
def applyTarget (s : State) (c : Chan) (t : FanTarget) : State :=
  let f := s.fans[c]
  let speed := appliedSpeed s c t
  if f.state = .running ∧ f.commanded < speed then
    s.setFan c { f with target := t, commanded := speed, lowGates := 0, settle := some f.window }
  else s.setFan c { f with target := t, commanded := speed }

/-- A target that differs from the stored one is taken by the rule of the fan's state (R82 to R90). The flag says whether the fan's queue
gained a fan, had a fan moved forward or had its permit released, and so is to be examined (R95, R179). The forced mark clears a standby fan from
LOCKED-OUT or FAILED as it does an own fan, where its grant still stands: that is the model's choice (R89, R111, log entry 49). -/
def takeByState (s : State) (c : Chan) (t : FanTarget) : State × Bool :=
  let f := s.fans[c]
  let stored := s.setFan c { f with target := t }
  let gains := t.marked && !f.target.marked
  let loses := f.target.marked && !t.marked
  match f.state with
  | .service => (s, false)
  | .off => if t.isOn then (joinQueue s c { f with target := t }, true) else (stored, false)
  | .queued =>
    if loses && exhausted s c then (lockOut s c t, false)
    else if !t.isOn then (changeFan (leaveQueue s c) c { f with state := .off, target := t }, false)
    else if gains then (placeInQueue stored c, true)
    else (stored, false)
  | .starting =>
    if t.isOn then (applyTarget s c t, false)
    else (releasePermit (stopFan s c .commanded { f with target := t }) c, true)
  | .running =>
    if t.isOn then (applyTarget s c t, false) else (stopFan s c .commanded { f with target := t }, false)
  | .stopping => (stored, false)
  | .retryWait =>
    if loses && exhausted s c then (lockOut s c t, false)
    else if !t.isOn then (changeFan s c { f with state := .off, target := t, timer := none }, false)
    else if gains then (joinQueue s c { f with target := t }, true)
    else (stored, false)
  | .lockedOut | .failed =>
    if t.marked then (joinQueue s c { f with target := t, retryCount := 0, lastFailure := none }, true)
    else (stored, false)

/-- A target arrives (R80): at a fan in SERVICE it is discarded, one equal to the stored target is no change, any other is taken. -/
def takeTarget (s : State) (c : Chan) (t : FanTarget) : State × Bool :=
  if s.fans[c].state = .service ∨ s.fans[c].target = t then (s, false) else takeByState s c t

/-- A target from a zone for a standby fan whose grant the zone does not hold is discarded (R80); any other that arrives is taken, at a
channel made UNUSED too (log entry 43). -/
def targetAccepted (s : State) (z : Zone) (c : Chan) : Bool :=
  match (s.chan c).role with
  | .standby _ => s.alloc.grants[c] == some z
  | _ => true

/-- The targets of one evaluation taken in ascending order, with the feeds whose queues are to be examined (R179). -/
def takeTargets (z : Zone) : List (Chan × FanTarget) → State → State × List Feed
  | [], s => (s, [])
  | (c, t) :: rest, s =>
    if targetAccepted s z c then
      let taken := takeTarget s c t
      let others := takeTargets z rest taken.1
      (others.1, if taken.2 then (feedOf s c) :: others.2 else others.2)
    else takeTargets z rest s

/-- Each queue an event touched is examined once (R179). -/
def examineTouched (touched : List Feed) (s : State) : State :=
  let s := if touched.contains .a then examine s .a else s
  if touched.contains .b then examine s .b else s

/-- FAN_TARGETS: the targets of one evaluation are one event, followed by one examination of each queue touched (R179). -/
def execFanTargets (z : Zone) (targets : List (Chan × FanTarget)) (s : State) : Result :=
  onEvent (.fanTargets z targets) s fun s =>
    let r := takeTargets z targets s
    examineTouched r.2 r.1

/-- STANDBY_OFF_TARGET: the allocator's off target is taken by the fan's state rule (R96, R115). -/
def execStandbyOffTarget (c : Chan) (s : State) : Result :=
  onEvent (.standbyOffTarget c) s fun s =>
    let r := takeTarget s c .off
    if r.2 then examine r.1 (feedOf s c) else r.1

/-- PATH_CHECK: the start queue asks for a queued fan while the permit is free and no fan ahead has an open path; a yes answer is recorded
and the fan takes the permit (R95, R102, log entry 17). -/
def execPathCheck (c : Chan) (s : State) : Result :=
  onEvent (.pathCheck c) s fun s =>
    let q := s.queue (feedOf s c)
    if q.permit = none ∧ q.fans.find? (fun d => pathOpen s d) = some c then startFan s c else s

/-! ### Gates and timers -/

/-- The measured rpm of a gate: edges × 60 / pulses per revolution, rounded down (R81). -/
def measuredRpm (cc : ChanCfg) (edges : Nat) : Nat := edges * 60 / cc.pulses

/-- The expected rpm: rated rpm × commanded speed / 100, rounded down, with the rated rpm as it stands (R81, log entry 42). -/
def expectedRpm (cc : ChanCfg) (commanded : Nat) : Nat := cc.ratedRpm * commanded / 100

/-- The good-gate test (R81). -/
def goodGate (cc : ChanCfg) (f : FanRecord) : Bool := expectedRpm cc f.commanded ≤ 2 * f.measured

/-- The low-gate test (R81). -/
def lowGate (cc : ChanCfg) (f : FanRecord) : Bool := 10 * f.measured < 7 * expectedRpm cc f.commanded

/-- The rundown test (R81). -/
def rundownGate (cc : ChanCfg) (f : FanRecord) : Bool := 10 * f.measured < cc.ratedRpm

/-- A start succeeds: RUNNING, the permit released, the clean-run time started, FAN-FAILED cleared (R84, R91). The availability report of a
condition cleared on reaching RUNNING is R93's. -/
def startSucceeds (s : State) (c : Chan) (f : FanRecord) : State :=
  let t := changeFan s c
    { f with
      state := .running, goodGates := 2, lowGates := 0, timer := some (.cleanRun Config.cleanRunSeconds), settle := none,
      failedCondition := false }
  let t := (t.reportChange f.failedCondition false .fanFailed c.val).emit
    (if f.failedCondition then availabilityReport s c false else [])
  examine (releasePermit t c) (feedOf s c)

/-- The test of a gate completing in STARTING (R84). -/
def gateInStarting (s : State) (c : Chan) (f : FanRecord) : State :=
  if goodGate (s.chan c) f then
    if 1 ≤ f.goodGates then startSucceeds s c f else s.setFan c { f with goodGates := f.goodGates + 1 }
  else s.setFan c { f with goodGates := 0 }

/-- The test of a gate completing in RUNNING: none in the settle time; the third low gate in a row stops the fan (R86). -/
def gateInRunning (s : State) (c : Chan) (f : FanRecord) : State :=
  if f.settle.isSome then s.setFan c f
  else if lowGate (s.chan c) f then
    if 2 ≤ f.lowGates then stopFan s c (.failure .speedLost) { f with lowGates := 3 }
    else s.setFan c { f with lowGates := f.lowGates + 1 }
  else s.setFan c { f with lowGates := 0 }

/-- TACH_GATE_COMPLETE: the measured rpm is stored in every state, and the test of the fan's state is made (R81). -/
def execTachGateComplete (c : Chan) (edges : Nat) (s : State) : Result :=
  onEvent (.tachGateComplete c edges) s fun s =>
    let f := { s.fans[c] with measured := measuredRpm (s.chan c) edges }
    match f.state with
    | .starting => gateInStarting s c f
    | .running => gateInRunning s c f
    | .stopping =>
      let t := s.setFan c f
      if rundownGate (s.chan c) f then finishRundown t c else t
    | _ => s.setFan c f

/-- START_WINDOW_RUN_OUT: in STARTING the start has failed (R85). -/
def execStartWindowRunOut (c : Chan) (s : State) : Result :=
  onEvent (.startWindowRunOut c) s fun s =>
    if s.fans[c].state = .starting then
      examine (releasePermit (stopFan s c (.failure .startFailed) s.fans[c]) c) (feedOf s c)
    else s

/-- SETTLE_TIME_EXPIRY: low-gate tests are made again (R86). -/
def execSettleTimeExpiry (c : Chan) (s : State) : Result :=
  onEvent (.settleTimeExpiry c) s fun s => s.setFan c { s.fans[c] with settle := none }

/-- CLEAN_RUN_EXPIRY: the retry count is set to 0 (R86). -/
def execCleanRunExpiry (c : Chan) (s : State) : Result :=
  onEvent (.cleanRunExpiry c) s fun s =>
    match s.fans[c].timer with
    | some (.cleanRun _) => s.setFan c { s.fans[c] with retryCount := 0, timer := none }
    | _ => s

/-- RUNDOWN_LIMIT_EXPIRY: the rundown ends (R87). -/
def execRundownLimitExpiry (c : Chan) (s : State) : Result :=
  onEvent (.rundownLimitExpiry c) s fun s =>
    if s.fans[c].state = .stopping then finishRundown s c else s

/-- RETRY_WAIT_EXPIRY: the fan joins its queue (R89). -/
def execRetryWaitExpiry (c : Chan) (s : State) : Result :=
  onEvent (.retryWaitExpiry c) s fun s =>
    if s.fans[c].state = .retryWait then examine (joinQueue s c s.fans[c]) (feedOf s c) else s

/-! ### Gates coming into use -/

/-- A gate set from its feedback as it comes into use (R106). -/
def gateFromFeedback (band : GateBand) (reported : FanState) : GateRecord :=
  let rest : GateRecord := { GateRecord.unused with inUse := true, lastReport := reported }
  match band with
  | .zone z => { rest with state := .atZone z, target := .zone z, output := .zone z }
  | .closed => rest
  | .between => { rest with state := .travelling, timer := some Config.gateTravelSeconds }

/-- A channel's gate comes into or goes out of use when its fan has left SERVICE under the role it then has (R106); a gate going out of use
clears its condition (R108) and sends the allocator no report (log entry 45). -/
def syncGate (s : State) (c : Chan) : State :=
  match (s.chan c).role, s.gates[c].inUse with
  | .standby _, false => s.setGate c (gateFromFeedback s.pins.feedback[c] s.fans[c].state)
  | .standby _, true => s
  | _, true => (s.setGate c GateRecord.unused).reportChange s.gates[c].jamCondition false .gateJammed c.val
  | _, false => s

/-! ### Service -/

/-- A fan enters SERVICE: run output off, timers stopped, stored target off; retry count, last failure and condition kept (R92). -/
def enterService (s : State) (c : Chan) : State :=
  let f := s.fans[c]
  let t := changeFan (leaveQueue s c) c
    { f with state := .service, target := .off, runOutput := false, commanded := 0, timer := none, settle := none }
  if f.state = .starting then examine (releasePermit t c) (feedOf s c) else t

/-- A fan leaves SERVICE, LOCKED-OUT or FAILED for OFF with a target stored: retry count 0, last failure none, FAN-FAILED cleared (R91, R92,
R98). -/
def clearFan (s : State) (c : Chan) (target : FanTarget) : State :=
  let f := s.fans[c]
  (changeFan s c
    { f with
      state := .off, target := target, retryCount := 0, lastFailure := none, failedCondition := false,
      timer := none }).reportChange f.failedCondition false .fanFailed c.val

/-- FAN-SERVICE on (R92). -/
def serviceOn (s : State) (c : Chan) : State :=
  if s.fans[c].state = .service then s else enterService s c

/-- FAN-SERVICE off takes a fan from LOCKED-OUT or FAILED to OFF with its stored target kept; with an on target stored it joins its queue
in the same action, and the queue examines its fans (R82, R92, R95, log entry 44). -/
def releaseLocked (s : State) (c : Chan) : State :=
  let f := s.fans[c]
  let t := clearFan s c f.target
  if f.target.isOn then examine (joinQueue t c t.fans[c]) (feedOf t c) else t

/-- FAN-SERVICE off (R92). -/
def serviceOff (s : State) (c : Chan) : State :=
  match s.fans[c].state with
  | .service => syncGate (clearFan s c .off) c
  | .lockedOut | .failed => releaseLocked s c
  | _ => s

/-- FAN-SERVICE (R92, R164), answered DONE with an empty payload (log entry 48). -/
def fanServiceAt (s : State) (channel setting : Nat) : State × Status × List Byte :=
  match chanOf channel with
  | none => refuse s .fieldRange
  | some c =>
    match setting with
    | 0 => done (serviceOff s c) []
    | 1 => done (serviceOn s c) []
    | _ => refuse s .fieldRange

/-- FAN-SERVICE: a request accepted and handed to the controller (R92). -/
def execFanService (channel setting : Nat) (s : State) : Result :=
  onRequest (.fanService channel setting) 0x30 s fun s => fanServiceAt s channel setting

/-- A fan in LOCKED-OUT or FAILED is cleared by a RESTART with its stored target off; every other fan is kept (R98). -/
def restartFan (s : State) (c : Chan) : State :=
  match s.fans[c].state with
  | .lockedOut | .failed => clearFan s c .off
  | _ => s

/-- FAN_RESTART (R98). -/
def execFanRestart (s : State) : Result :=
  onEvent .fanRestart s fun s => allChans.foldl restartFan s

/-- A write that raises a fan's minimum speed above its commanded speed while its run output is on raises the commanded speed (R80). -/
def raiseCommanded (s : State) (c : Chan) : State :=
  let f := s.fans[c]
  if f.runOutput && decide (f.commanded < (s.chan c).minSpeed) then
    s.setFan c { f with commanded := (s.chan c).minSpeed }
  else s

/-! ### Reports that the queues take -/

/-- DAMPER_OPEN_REPORT: the queue examines its fans (R95, R105). -/
def execDamperOpenReport (z : Zone) (f : Feed) (s : State) : Result :=
  onEvent (.damperOpenReport z f) s fun s => examine s f

/-- GATE_AT_REPORT: the queue examines its fans (R95, R109). -/
def execGateAtReport (c : Chan) (f : Feed) (s : State) : Result :=
  onEvent (.gateAtReport c f) s fun s => examine s f

/-- GRANT_REPORT: the queue examines its fans (R95, R115). -/
def execGrantReport (c : Chan) (f : Feed) (s : State) : Result :=
  onEvent (.grantReport c f) s fun s => examine s f

end Sys2Proof.Machine
end

