-- ==== Sys2Proof/Machine/Damper.lean ====
section
/-! DEFINITION. The Damper Controller (5.1, 5.2): zone dampers, changeover gates, and the state reports of the fans that hold them still. -/

namespace Sys2Proof.Machine

/-! ### Zone dampers -/

/-- A damper's open output: on in OPENING and off in every other state (R99). -/
def DamperRecord.openOutput (d : DamperRecord) : Bool := d.state == .opening

/-- A damper's close output: on in CLOSING and off in every other state (R99). -/
def DamperRecord.closeOutput (d : DamperRecord) : Bool := d.state == .closing

/-- A damper's switch reading (R99). -/
inductive SwitchReading where
  | fullyOpen | fullyClosed | between
  deriving DecidableEq, Repr

/-- The reading of a pair of end switches, each closed or not (R99). -/
def readingOf (openSwitch closedSwitch : Bool) : SwitchReading :=
  match openSwitch, closedSwitch with
  | true, false => .fullyOpen
  | false, true => .fullyClosed
  | _, _ => .between

/-- A damper's switch reading now (R99). -/
def reading (s : State) (z : Zone) : SwitchReading := readingOf s.pins.openSwitch[z] s.pins.closedSwitch[z]

/-- The DAMPER-JAMMED condition when a damper comes to a state: active in JAMMED, ended by OPEN and CLOSED, kept by a travel (R104). -/
def jamAfter (before : Bool) : DamperState → Bool
  | .jammed => true
  | .opened | .closed => false
  | .opening | .closing => before

/-- A damper changes to a state with a travel timer or none. Its condition follows (R104); entering or leaving JAMMED asks its zone to
evaluate, and reaching OPEN is reported to both Start Queues (R105). -/
def moveDamper (s : State) (z : Zone) (d : DamperRecord) (state : DamperState) (timer : Option Nat) : State :=
  let jam := jamAfter d.jamCondition state
  let t := s.setDamper z { d with state := state, timer := timer, jamCondition := jam }
  let t := t.reportChange d.jamCondition jam .damperJammed z.val
  t.emit
    ((if (d.state == .jammed) != (state == .jammed) then [.evaluationRequest z] else []) ++
     (if state == .opened && d.state != .opened then bothFeeds.map (.damperOpenReport z) else []))

/-- A travel toward open begins or a closing travel is reversed; a damper already fully open is OPEN at once (R101). -/
def beginOpen (s : State) (z : Zone) (d : DamperRecord) : State :=
  if reading s z = .fullyOpen then moveDamper s z d .opened none
  else moveDamper s z d .opening (some (s.zoneCfg z).damperTimeout)

/-- A travel toward closed begins or an opening travel is reversed; a damper already fully closed is CLOSED at once (R102). -/
def beginClose (s : State) (z : Zone) (d : DamperRecord) : State :=
  if reading s z = .fullyClosed then moveDamper s z d .closed none
  else moveDamper s z d .closing (some (s.zoneCfg z).damperTimeout)

/-- An open request that differs from the stored one, by state (R101). -/
def takeOpen (s : State) (z : Zone) (d : DamperRecord) : State :=
  let d := { d with closePending := false }
  match d.state with
  | .closed | .closing | .jammed => beginOpen s z d
  | .opening | .opened => s.setDamper z d

/-- A close request that differs from the stored one, by state: it waits while a fan is in the blocking set (R102). -/
def takeClose (s : State) (z : Zone) (d : DamperRecord) : State :=
  match d.state with
  | .closed | .closing => s.setDamper z d
  | .opened | .opening | .jammed =>
    if d.blocking.isEmpty then beginClose s z d else s.setDamper z { d with closePending := true }

/-- DAMPER_REQUEST: an equal request is no change; another is stored and taken (R100). -/
def execDamperRequest (z : Zone) (request : DamperRequest) (s : State) : Result :=
  onEvent (.damperRequest z request) s fun s =>
    let d := s.dampers[z]
    if d.request = request then s
    else
      let d := { d with request := request }
      match request with
      | .openPlain | .openForced => takeOpen s z d
      | .close => takeClose s z d
      | .noRequest => s.setDamper z { d with closePending := false }

/-- A stored request asks for, or allows, resting open (R103). -/
def DamperRequest.allowsOpen : DamperRequest → Bool
  | .openPlain | .openForced | .noRequest => true
  | .close => false

/-- A stored request asks for, or allows, resting closed (R103). -/
def DamperRequest.allowsClosed : DamperRequest → Bool
  | .close | .noRequest => true
  | .openPlain | .openForced => false

/-- The state a change of the switch reading brings a damper to (R103). -/
def afterSwitch (state : DamperState) (request : DamperRequest) (r : SwitchReading) : DamperState :=
  match state, r with
  | .closed, .fullyOpen => .jammed
  | .closed, .fullyClosed => .closed
  | .closed, .between => .jammed
  | .opening, .fullyOpen => .opened
  | .opening, _ => .opening
  | .opened, .fullyOpen => .opened
  | .opened, .fullyClosed => .jammed
  | .opened, .between => .jammed
  | .closing, .fullyClosed => .closed
  | .closing, _ => .closing
  | .jammed, .fullyOpen => if DamperRequest.allowsOpen request then .opened else .jammed
  | .jammed, .fullyClosed => if DamperRequest.allowsClosed request then .closed else .jammed
  | .jammed, .between => .jammed

/-- The end switches of a damper read anew: a pin of the module (log entry 7). -/
def setSwitches (s : State) (z : Zone) (openSwitch closedSwitch : Bool) : State :=
  s.setPins
    { s.pins with
      openSwitch := s.pins.openSwitch.set z openSwitch, closedSwitch := s.pins.closedSwitch.set z closedSwitch }

/-- A change of a damper's switch reading (R103). -/
def switchEvent (s : State) (z : Zone) : State :=
  let d := s.dampers[z]
  let next := afterSwitch d.state d.request (reading s z)
  if next = d.state then s else moveDamper s z d next none

/-- END_SWITCH_CHANGE: the switches are pins and change with or without the supply; a running module takes a changed reading (R103). -/
def execEndSwitchChange (z : Zone) (openSwitch closedSwitch : Bool) (s : State) : Result :=
  .next
    (let t := setSwitches (s.taken (.endSwitchChange z openSwitch closedSwitch)) z openSwitch closedSwitch
     if s.powered && reading s z != reading t z then switchEvent t z else t)

/-- DAMPER_TRAVEL_TIMEOUT: in OPENING and CLOSING the damper becomes JAMMED (R103). -/
def execDamperTravelTimeout (z : Zone) (s : State) : Result :=
  onEvent (.damperTravelTimeout z) s fun s =>
    match s.dampers[z].state with
    | .opening | .closing => moveDamper s z s.dampers[z] .jammed none
    | _ => s

/-! ### Changeover gates -/

/-- A gate's state as a target's band entered by the feedback gives it (R108). -/
def GateTarget.reached : GateTarget → GateState
  | .zone z => .atZone z
  | .closed => .closed

/-- The band of a target (R106). -/
def GateTarget.band : GateTarget → GateBand
  | .zone z => .zone z
  | .closed => .closed

/-- The GATE-JAMMED condition when a gate comes to a state (R108). -/
def gateJamAfter (before : Bool) : GateState → Bool
  | .jammed => true
  | .atZone _ | .closed => false
  | .travelling => before

/-- A gate in AT (R109). -/
def GateState.isAt : GateState → Bool
  | .atZone _ => true
  | _ => false

/-- A gate changes to a state with a travel timer or none. Its condition follows (R108); entering or leaving JAMMED is reported to the
allocator, and reaching AT to both Start Queues (R109). -/
def moveGate (s : State) (c : Chan) (g : GateRecord) (state : GateState) (timer : Option Nat) : State :=
  let jam := gateJamAfter g.jamCondition state
  let t := s.setGate c { g with state := state, timer := timer, jamCondition := jam }
  let t := t.reportChange g.jamCondition jam .gateJammed c.val
  t.emit
    ((if (g.state == .jammed) != (state == .jammed) then [.gateJamReport c] else []) ++
     (if state.isAt && g.state != state then bothFeeds.map (.gateAtReport c) else []))

/-- The gate may begin to move: its fan's last report lets it, and no path check has been answered yes since (R107). -/
def GateRecord.free (g : GateRecord) : Bool := g.lastReport.letsGateMove && !g.answered

/-- A taken target moves the gate (R107); `wasPending` is a target that waited, whose gate already AT it is reported (R109). -/
def takeGateTarget (s : State) (c : Chan) (g : GateRecord) (wasPending : Bool) : State :=
  let g := { g with pending := false }
  if g.state = GateTarget.reached g.target then
    (s.setGate c g).emit (if wasPending && g.state.isAt then bothFeeds.map (.gateAtReport c) else [])
  else moveGate s c { g with output := g.target } .travelling (some Config.gateTravelSeconds)

/-- GATE_COMMAND: a command for the stored target is no change, except in JAMMED, where it is a fresh travel; any other is stored and
taken, or held pending while the fan's state forbids a move (R107, R108). -/
def execGateCommand (c : Chan) (target : GateTarget) (s : State) : Result :=
  onEvent (.gateCommand c target) s fun s =>
    let g := s.gates[c]
    if !g.inUse then s
    else if g.target = target ∧ g.state ≠ .jammed then s
    else
      let g := { g with target := target }
      if g.free then takeGateTarget s c g false else s.setGate c { g with pending := true }

/-- The state a change of the feedback's band brings a gate to (R108). -/
def afterBand (g : GateRecord) (band : GateBand) : GateState :=
  match g.state with
  | .travelling => if band = GateTarget.band g.output then GateTarget.reached g.output else .travelling
  | .atZone z => if band = .zone z then .atZone z else .jammed
  | .closed => if band = .closed then .closed else .jammed
  | .jammed => if band = GateTarget.band g.output then GateTarget.reached g.output else .jammed

/-- The feedback of a gate read anew: a pin of the module (log entry 7). -/
def setFeedback (s : State) (c : Chan) (band : GateBand) : State :=
  s.setPins { s.pins with feedback := s.pins.feedback.set c band }

/-- A change of a gate's band, taken while the gate is in use (R106, R108). -/
def bandEvent (s : State) (c : Chan) (band : GateBand) : State :=
  let g := s.gates[c]
  let next := afterBand g band
  if !g.inUse || next = g.state then s else moveGate s c g next none

/-- GATE_FEEDBACK_BAND_CHANGE: the feedback is a pin and changes with or without the supply; a running module takes a changed band (R108). -/
def execGateFeedbackBandChange (c : Chan) (band : GateBand) (s : State) : Result :=
  .next
    (let t := setFeedback (s.taken (.gateFeedbackBandChange c band)) c band
     if s.powered && s.pins.feedback[c] != band then bandEvent t c band else t)

/-- GATE_TRAVEL_TIMEOUT: in TRAVELLING the gate becomes JAMMED with its command output held (R108). -/
def execGateTravelTimeout (c : Chan) (s : State) : Result :=
  onEvent (.gateTravelTimeout c) s fun s =>
    let g := s.gates[c]
    if g.inUse && g.state == .travelling then moveGate s c g .jammed none else s

/-! ### Fan state reports -/

/-- A fan reported in STARTING or RUNNING enters its zone's blocking set (R102). -/
def enterBlocking (s : State) (c : Chan) : State :=
  match (s.chan c).role with
  | .zone z => s.setDamper z { s.dampers[z] with blocking := s.dampers[z].blocking.insert c }
  | _ => s

/-- A fan reported in another state leaves a damper's blocking set; when the set is then empty and a close is pending, the close begins
(R102). -/
def leaveBlocking (c : Chan) (s : State) (z : Zone) : State :=
  let d := s.dampers[z]
  if d.blocking.contains c then
    let d := { d with blocking := d.blocking.filter (· != c) }
    if d.blocking.isEmpty && d.closePending then beginClose s z { d with closePending := false } else s.setDamper z d
  else s

/-- A fan's state reaches the dampers (R102, log entry 13). -/
def reportToDampers (s : State) (c : Chan) : State :=
  if s.fans[c].state.turning then enterBlocking s c else allZones.foldl (leaveBlocking c) s

/-- A fan's state reaches its gate: the last report is recorded, and a pending target is taken when the gate may move (R107). -/
def reportToGate (s : State) (c : Chan) : State :=
  let g := { s.gates[c] with lastReport := s.fans[c].state, answered := false }
  if !g.inUse then s
  else if g.pending && g.lastReport.letsGateMove then takeGateTarget s c g true
  else s.setGate c g

/-- FAN_STATE_REPORT: the report shows the fan's state and role as they stand when it is taken (R93, R102, R106, R107, log entry 3). -/
def execFanStateReport (c : Chan) (s : State) : Result :=
  onEvent (.fanStateReport c) s fun s =>
    let t := if s.fans[c].state = .service then s else syncGate s c
    reportToGate (reportToDampers t c) c

end Sys2Proof.Machine
end

