-- ==== Sys2Proof/Machine/Fire.lean ====
section
/-! DEFINITION. The Fire Interface (chapter 7): contact inputs, fire latches, the panel link's bring-up and supervision, the words on a
working link, and the resets. -/

namespace Sys2Proof.Machine

/-! ### Contact inputs -/

/-- The bands of a contact input's loop resistance (R132). -/
inductive LoopBand where
  | short | alarm | normal | opened
  deriving DecidableEq, Repr

/-- The band a loop resistance in ohms lies in (R132). -/
def bandOf (ohms : Nat) : LoopBand :=
  if ohms < 400 then .short
  else if ohms ≤ 2000 then .alarm
  else if ohms ≤ 12000 then .normal
  else .opened

/-- The state an enabled input takes from a band (R133). -/
def stateOfBand : LoopBand → ContactState
  | .short => .lineFault
  | .alarm => .alarm
  | .normal => .normal
  | .opened => .lineFault

/-- A band is that of an input's present state (R132). SHORT and OPEN are two bands of LINE-FAULT: log entry 36. -/
def bandAgrees (state : ContactState) (band : LoopBand) : Bool := stateOfBand band == state

/-- The band a contact input reads now. -/
def contactBand (s : State) (z : Zone) : LoopBand := bandOf s.pins.loopOhms[z]

/-- A zone's contact input. -/
def contact (s : State) (z : Zone) : ContactInput := s.fire.contacts[z]

/-- Replace a zone's contact input. -/
def setContact (s : State) (z : Zone) (c : ContactInput) : State :=
  s.setFire { s.fire with contacts := s.fire.contacts.set z c }

/-- A zone's fire latch is set if it is clear: FIRE becomes active and the zone is asked to evaluate (R135, R136). -/
def setLatch (s : State) (z : Zone) : State :=
  if s.fire.latches[z] then s
  else
    (s.setFire { s.fire with latches := s.fire.latches.set z true }).emit
      [.conditionActiveReport .fire z.val, .evaluationRequest z]

/-- A contact input enters a state: its FIRE-INPUT-FAULT condition follows (R134), and ALARM sets the latch (R133, R135). -/
def enterContact (s : State) (z : Zone) (state : ContactState) : State :=
  let before := (contact s z).state
  let t := setContact s z { state := state, confirm := none }
  let t := t.reportChange (before == .lineFault) (state == .lineFault) .fireInputFault z.val
  if state = .alarm then setLatch t z else t

/-- A loop resistance read anew: a pin of the module (log entry 7). -/
def setLoop (s : State) (z : Zone) (ohms : Nat) : State :=
  s.setPins { s.pins with loopOhms := s.pins.loopOhms.set z ohms }

/-- The reading enters a new band: the confirmation timer starts, or starts again, or stops when the band is that of the present state; no
timer runs for a disabled input (R132). -/
def bandChanged (s : State) (z : Zone) : State :=
  let c := contact s z
  match c.state with
  | .disabled => s
  | state =>
    setContact s z
      { c with confirm := if bandAgrees state (contactBand s z) then none else some Config.confirmSeconds }

/-- CONTACT_BAND_CHANGE: the loop is a pin and changes with or without the supply; a running module takes a reading in a new band (R132). -/
def execContactBandChange (z : Zone) (ohms : Nat) (s : State) : Result :=
  .next
    (let t := setLoop (s.taken (.contactBandChange z ohms)) z ohms
     if s.powered && contactBand s z != contactBand t z then bandChanged t z else t)

/-- CONTACT_CONFIRMATION_EXPIRY: the band read becomes the input's state (R132, R133). -/
def execContactConfirmationExpiry (z : Zone) (s : State) : Result :=
  onEvent (.contactConfirmationExpiry z) s fun s =>
    if (contact s z).confirm.isSome then enterContact s z (stateOfBand (contactBand s z)) else s

/-- A taken write of contact enabled acts at once (R133); a write equal to the present setting changes nothing. -/
def enableContact (s : State) (z : Zone) (enabled : Bool) : State :=
  match (contact s z).state, enabled with
  | .disabled, true => enterContact s z (stateOfBand (contactBand s z))
  | .disabled, false => s
  | _, true => s
  | _, false => enterContact s z .disabled

/-! ### Resets -/

/-- A latch after a reset: it stays set only while the zone's contact input is in ALARM (R137). -/
def latchAfterReset (s : State) (z : Zone) : Bool := s.fire.latches[z] && (contact s z).state == .alarm

/-- What a reset sends for a zone: the clear of a FIRE condition, and one evaluation request when its latch or command changed (R137, R146). -/
def resetActions (s : State) (z : Zone) : List Instr :=
  let cleared := s.fire.latches[z] && !latchAfterReset s z
  (if cleared then [.conditionClearReport .fire z.val] else []) ++
    (if cleared || s.fire.commands[z].isSome then [.evaluationRequest z] else [])

/-- A reset of the fire latches that also releases every fire-service command (R137, R138, R146). -/
def resetFire (s : State) : State :=
  (s.setFire
    { s.fire with
      latches := Vector.ofFn fun z : Zone => latchAfterReset s z, commands := Vector.replicate 8 none }).emit
    (allZones.flatMap (resetActions s))

/-- FIRE-RESET, taken while the link is not LINKED, and answered DONE with an empty payload (R138, log entry 48). -/
def fireResetNow (s : State) : State × Status × List Byte :=
  if s.fire.link = .linked then refuse s .notNow else done (resetFire s) []

/-- FIRE_RESET: a request accepted and handed to the Fire Interface (R138). -/
def execFireReset (s : State) : Result := onRequest .fireReset 0x3E s fireResetNow

/-! ### The panel link -/

/-- A capability word is valid (R139). -/
def capabilityValid (w : CapabilityWord) : Bool :=
  1 ≤ w.panelId && w.panelId ≤ 250 && 1 ≤ w.zoneCount && w.zoneCount ≤ 8

/-- Two capability words are equal in panel id, zone count and both feature flags (R140). -/
def sameCapability (v w : CapabilityWord) : Bool :=
  v.panelId == w.panelId && v.zoneCount == w.zoneCount && v.fireService == w.fireService && v.resetWord == w.resetWord

/-- The word the module sends of itself on entering AGREEING (R141). -/
def moduleWord (heard : CapabilityWord) : CapabilityWord :=
  { panelId := heard.panelId, zoneCount := 8, fireService := true, resetWord := true, accept := true }

/-- The link passes to AGREEING: the module sends its word once and the state timer starts (R140, R141). -/
def enterAgreeing (f : FireInterface) (run : HeardRun) : FireInterface :=
  { f with
    link := .agreeing, heard := some run, hearingTimer := none, stateTimer := some Config.answerSeconds,
    sentWord := some (moduleWord run.word) }

/-- The link passes to BACKOFF: the heard run is emptied and the state timer starts (R141). -/
def enterBackoff (f : FireInterface) : FireInterface :=
  { f with link := .backoff, heard := none, hearingTimer := none, stateTimer := some Config.backoffSeconds }

/-- The link passes to HEARING with the run empty (R140, R141). -/
def enterHearing (f : FireInterface) : FireInterface :=
  { f with link := .hearing, heard := none, hearingTimer := none, stateTimer := none }

/-- A valid word without the accept marker in HEARING starts or lengthens the heard run (R140). -/
def hearWord (f : FireInterface) (w : CapabilityWord) : FireInterface :=
  match f.heard with
  | none => { f with heard := some { word := w, count := 1 }, hearingTimer := some Config.hearingSeconds }
  | some run =>
    if sameCapability run.word w then
      if 3 ≤ run.count + 1 then enterAgreeing f { run with count := 3 }
      else { f with heard := some { run with count := run.count + 1 } }
    else { f with heard := some { word := w, count := 1 }, hearingTimer := some Config.hearingSeconds }

/-- The word of the heard run equals a word (R141). -/
def equalsHeard (f : FireInterface) (w : CapabilityWord) : Bool :=
  match f.heard with
  | some run => sameCapability run.word w
  | none => false

/-- The link enters LINKED: the heard word is recorded, supervision starts, and FIRE-LINK-LOST clears (R142, R143). -/
def enterLinked (s : State) : State :=
  let f := s.fire
  (s.setFire
    { f with
      link := .linked, capability := f.heard.map (·.word), stateTimer := none,
      supervision := some Config.supervisionTenths, lostCondition := false }).reportChange
    f.lostCondition false .fireLinkLost 0

/-- A capability word by the link state (R139 to R142). -/
def takeCapability (s : State) (w : CapabilityWord) : State :=
  let f := s.fire
  match f.link with
  | .hearing =>
    if !capabilityValid w then s.setFire { f with heard := none, hearingTimer := none }
    else if w.accept then s
    else s.setFire (hearWord f w)
  | .agreeing =>
    if !capabilityValid w then s.setFire (enterBackoff f)
    else if !w.accept then s
    else if equalsHeard f w then
      s.setFire { f with link := .checking, stateTimer := some Config.answerSeconds }
    else s.setFire (enterBackoff f)
  | .checking =>
    if capabilityValid w && equalsHeard f w then enterLinked s else s.setFire (enterBackoff f)
  | .linkDown | .linked | .backoff => s

/-- CAPABILITY_WORD (R140, R141). -/
def execCapabilityWord (w : CapabilityWord) (s : State) : Result :=
  onEvent (.capabilityWord w) s fun s => takeCapability s w

/-- PANEL_FRAME_DISCARDED: treated as never having been received (R139). -/
def execPanelFrameDiscarded (s : State) : Result := onEvent .panelFrameDiscarded s fun s => s

/-- The zones a status frame puts into alarm: those with a set flag below the panel's zone count (R144). -/
def alarmZones (f : FireInterface) (flags : BitVec 8) : List Zone :=
  allZones.filter fun z => flags.getLsbD z.val && decide (z.val < (f.capability.map (·.zoneCount)).getD 0)

/-- STATUS_FRAME: on a LINKED link it restarts supervision and sets the latches of the zones in alarm; discarded otherwise (R139, R142,
R144). -/
def execStatusFrame (flags : BitVec 8) (s : State) : Result :=
  onEvent (.statusFrame flags) s fun s =>
    if s.fire.link = .linked then
      (alarmZones s.fire flags).foldl setLatch
        (s.setFire { s.fire with supervision := some Config.supervisionTenths })
    else s

/-- The panel's capability declares a feature and the link is LINKED (R145, R146). -/
def panelOffers (f : FireInterface) (feature : CapabilityWord → Bool) : Bool :=
  f.link == .linked && (f.capability.map feature).getD false

/-- The command in force after a frame (R145). -/
def commandAfter : FireServiceWord → Option FireCommand
  | .on => some .on
  | .off => some .off
  | .auto => none

/-- FIRE_SERVICE_COMMAND: taken on a LINKED link from a panel that declares commands, for a zone below its zone count (R145). -/
def execFireServiceCommand (zone : Nat) (word : FireServiceWord) (s : State) : Result :=
  onEvent (.fireServiceCommand zone word) s fun s =>
    match zoneOf zone with
    | none => s
    | some z =>
      if panelOffers s.fire (·.fireService) && decide (zone < (s.fire.capability.map (·.zoneCount)).getD 0) &&
          s.fire.commands[z] != commandAfter word then
        (s.setFire { s.fire with commands := s.fire.commands.set z (commandAfter word) }).emit [.evaluationRequest z]
      else s

/-- PANEL_RESET_WORD: taken on a LINKED link from a panel that declares the reset word (R146). -/
def execPanelResetWord (s : State) : Result :=
  onEvent .panelResetWord s fun s => if panelOffers s.fire (·.resetWord) then resetFire s else s

/-- HEARING_TIMER_EXPIRY: the run is emptied and the link stays in HEARING (R140). -/
def execHearingTimerExpiry (s : State) : Result :=
  onEvent .hearingTimerExpiry s fun s =>
    if s.fire.hearingTimer.isSome then s.setFire { s.fire with heard := none, hearingTimer := none } else s

/-- STATE_TIMER_EXPIRY: AGREEING and CHECKING go to BACKOFF, BACKOFF to HEARING (R141). -/
def execStateTimerExpiry (s : State) : Result :=
  onEvent .stateTimerExpiry s fun s =>
    match s.fire.link with
    | .agreeing | .checking => s.setFire (enterBackoff s.fire)
    | .backoff => s.setFire (enterHearing s.fire)
    | _ => s

/-- SUPERVISION_TIMER_EXPIRY: the link is lost, and passes through LINK-DOWN to HEARING in the same action (R140, R142, R143). -/
def execSupervisionTimerExpiry (s : State) : Result :=
  onEvent .supervisionTimerExpiry s fun s =>
    if s.fire.link = .linked then
      (s.setFire
        { enterHearing s.fire with supervision := none, linkLost := true, lostCondition := true }).reportChange
        s.fire.lostCondition true .fireLinkLost 0
    else s

/-- The code of a link state (R166). -/
def LinkState.code : LinkState → Nat
  | .linkDown => 0
  | .hearing => 1
  | .agreeing => 2
  | .checking => 3
  | .linked => 4
  | .backoff => 5

/-- The code of a contact state (R166). -/
def ContactState.code : ContactState → Nat
  | .disabled => 0
  | .normal => 1
  | .alarm => 2
  | .lineFault => 3

/-- The code of a fire-service command (R166). -/
def FireCommand.code : FireCommand → Nat
  | .on => 0
  | .off => 1

/-- The code of a yes or no value that may be absent. -/
def boolCode (b : Bool) : Nat := if b then 1 else 0

/-- The link summary (R143, R170). -/
def linkSummary (f : FireInterface) : List Byte :=
  bytesOf 1 f.link.code ++ flag f.capability.isSome ++ field 1 (f.capability.map (·.panelId)) ++
    field 1 (f.capability.map (·.zoneCount)) ++ field 1 (f.capability.map fun w => boolCode w.fireService) ++
    field 1 (f.capability.map fun w => boolCode w.resetWord) ++ flag f.linkLost ++
    allZones.flatMap fun z =>
      bytesOf 1 f.contacts[z].state.code ++ flag f.latches[z] ++ field 1 (f.commands[z].map (·.code))

/-- READ-LINK: the summary, and in the same action the link-lost flag cleared when the link is LINKED (R143). -/
def readLinkNow (s : State) : State × Status × List Byte :=
  done (if s.fire.link = .linked then s.setFire { s.fire with linkLost := false } else s) (linkSummary s.fire)

/-- READ_LINK: a request accepted and handed to the Fire Interface (R143). -/
def execReadLink (s : State) : Result := onRequest .readLink 0x24 s readLinkNow

end Sys2Proof.Machine
end

