-- ==== Sys2Proof/Machine/Hazard.lean ====
section
/-! DEFINITION. The Hazard List (chapter 8): its ids, the taking of condition reports, acknowledgement, the re-list sweep, the
attention output, and the pages of READ-HAZARDS. -/

namespace Sys2Proof.Machine

/-! ### Ids -/

/-- The value after an id: 65535 is followed by 1, and 0 is never used (R150). -/
def idAfter (id : Nat) : Nat := if 65535 ≤ id then 1 else id + 1

/-- The id is held by an entry (R150). -/
def idHeld (entries : List HazardEntry) (id : Nat) : Bool := entries.any fun e => e.id == id

/-- The first value from an id upward that no entry holds, looked for in a number of steps (R150). -/
def freeId (entries : List HazardEntry) : Nat → Nat → Nat
  | 0, id => id
  | steps + 1, id => if idHeld entries id then freeId entries steps (idAfter id) else id

/-- The id the next entry takes: a free one is found within 49 steps (R150). -/
def takeId (h : HazardList) : Nat := freeId h.entries (Config.hazardCapacity + 1) h.nextId

/-! ### Changes of the list -/

/-- The entries and UNLISTED change, and the attention output with them (R156). -/
def HazardList.change (h : HazardList) (entries : List HazardEntry) (unlisted : Bool) : HazardList :=
  { h with entries := entries, unlisted := unlisted, attention := attentionDue entries unlisted }

/-- A new entry is appended at the young end as ACTIVE-UNACK (R149, R150). -/
def HazardList.append (h : HazardList) (minute : Nat) (kind : HazardKind) (source : Nat) : HazardList :=
  let id := takeId h
  { h.change (h.entries ++ [{ id := id, kind := kind, source := source, state := .activeUnack, minute := minute }]) h.unlisted with
    nextId := idAfter id }

/-- An entry is that of a condition (R149). -/
def HazardEntry.isFor (e : HazardEntry) (kind : HazardKind) (source : Nat) : Bool := e.kind == kind && e.source == source

/-- The entry held for a kind and source, if one is (R149). -/
def HazardList.entryFor (h : HazardList) (kind : HazardKind) (source : Nat) : Option HazardEntry :=
  h.entries.find? fun e => e.isFor kind source

/-- The state of the entry held for a kind and source, if one is (R151, R152). -/
def HazardList.stateFor (h : HazardList) (kind : HazardKind) (source : Nat) : Option HazardState :=
  (h.entryFor kind source).map HazardEntry.state

/-- The entry of a condition changes state and keeps its place (R149). -/
def HazardList.setState (h : HazardList) (kind : HazardKind) (source : Nat) (state : HazardState) : HazardList :=
  h.change (h.entries.map fun e => if e.isFor kind source then { e with state := state } else e) h.unlisted

/-- The entry of a condition is removed (R149). -/
def HazardList.remove (h : HazardList) (kind : HazardKind) (source : Nat) : HazardList :=
  h.change (h.entries.filter fun e => !e.isFor kind source) h.unlisted

/-- The list is full (R149). -/
def HazardList.full (h : HazardList) : Bool := decide (Config.hazardCapacity ≤ h.entries.length)

/-- The oldest entry that a condition removed from a full list displaces: the oldest CLEARED-UNACK one, or for a FIRE the oldest whose kind
is not FIRE (R153). -/
def HazardList.makeRoom (h : HazardList) (kind : HazardKind) : Option HazardList :=
  if h.entries.any fun e => e.state == .clearedUnack then
    some (h.change (h.entries.eraseP fun e => e.state == .clearedUnack) h.unlisted)
  else if kind = .fire ∧ (h.entries.any fun e => e.kind != .fire) then
    some (h.change (h.entries.eraseP fun e => e.kind != .fire) true)
  else none

/-- A condition with no entry is listed: in free room, in the room R153 makes, or not at all with UNLISTED set (R151, R153). -/
def HazardList.list (h : HazardList) (minute : Nat) (kind : HazardKind) (source : Nat) : HazardList :=
  if h.full then
    match h.makeRoom kind with
    | some room => room.append minute kind source
    | none => h.change h.entries true
  else h.append minute kind source

/-- An active report is taken (R151). -/
def HazardList.takeActive (h : HazardList) (minute : Nat) (kind : HazardKind) (source : Nat) : HazardList :=
  match h.stateFor kind source with
  | none => h.list minute kind source
  | some .activeUnack | some .activeAck => h
  | some .clearedUnack => h.setState kind source .activeUnack

/-- A clear report is taken (R152). -/
def HazardList.takeClear (h : HazardList) (kind : HazardKind) (source : Nat) : HazardList :=
  match h.stateFor kind source with
  | some .activeUnack => h.setState kind source .clearedUnack
  | some .activeAck => h.remove kind source
  | some .clearedUnack | none => h

/-- CONDITION_ACTIVE_REPORT (R151, R153). -/
def execConditionActiveReport (kind : HazardKind) (source : Nat) (s : State) : Result :=
  onEvent (.conditionActiveReport kind source) s fun s =>
    s.setHazards (s.hazards.takeActive s.store.minute kind source)

/-- CONDITION_CLEAR_REPORT (R152). -/
def execConditionClearReport (kind : HazardKind) (source : Nat) (s : State) : Result :=
  onEvent (.conditionClearReport kind source) s fun s => s.setHazards (s.hazards.takeClear kind source)

/-! ### Acknowledgement -/

/-- An entry after an acknowledgement: ACTIVE-UNACK becomes ACTIVE-ACK, ACTIVE-ACK stays, CLEARED-UNACK leaves (R154, R155). -/
def acknowledged (e : HazardEntry) : Option HazardEntry :=
  match e.state with
  | .activeUnack => some { e with state := .activeAck }
  | .activeAck => some e
  | .clearedUnack => none

/-- One entry is acknowledged by its id (R154). -/
def HazardList.acknowledgeId (h : HazardList) (id : Nat) : HazardList :=
  h.change (h.entries.filterMap fun e => if e.id = id then acknowledged e else some e) h.unlisted

/-- ACKNOWLEDGE (R154). -/
def acknowledgeOne (s : State) (id : Nat) : State × Status × List Byte :=
  if idHeld s.hazards.entries id then done (s.setHazards (s.hazards.acknowledgeId id)) []
  else refuse s .hazardUnknown

/-- ACKNOWLEDGE: a request accepted and handed to the list (R154, R169). -/
def execAcknowledge (id : Nat) (s : State) : Result := onRequest (.acknowledge id) 0x29 s fun s => acknowledgeOne s id

/-- One condition of the sweep: with no entry it is appended into free room, or left out with UNLISTED set (R155, step 3). -/
def HazardList.relist (minute : Nat) (h : HazardList) (condition : HazardKind × Nat) : HazardList :=
  if (h.entryFor condition.1 condition.2).isSome then h
  else if h.full then h.change h.entries true
  else h.append minute condition.1 condition.2

/-- The re-list sweep: the conditions active at their owners, in the order of the kind table and of their sources (R155, step 3). -/
def HazardList.sweep (h : HazardList) (s : State) : HazardList :=
  (activeConditions s).foldl (HazardList.relist s.store.minute) h

/-- ACKNOWLEDGE-ALL: the entries are acknowledged, UNLISTED is cleared, and the sweep is made (R155). -/
def acknowledgeEvery (s : State) : State × Status × List Byte :=
  done (s.setHazards ((s.hazards.change (s.hazards.entries.filterMap acknowledged) false).sweep s)) []

/-- ACKNOWLEDGE_ALL: a request accepted and handed to the list (R155, R169). -/
def execAcknowledgeAll (s : State) : Result := onRequest .acknowledgeAll 0x2A s acknowledgeEvery

/-- HAZARD_RESTART: every entry is removed, UNLISTED is cleared, the next id is kept, and the sweep is made (R158). -/
def execHazardRestart (s : State) : Result :=
  onEvent .hazardRestart s fun s => s.setHazards ((s.hazards.change [] false).sweep s)

/-! ### Reading -/

/-- The code of an entry's state (R166). -/
def HazardState.code : HazardState → Nat
  | .activeUnack => 0
  | .activeAck => 1
  | .clearedUnack => 2

/-- The bytes of an entry on a page (R169). -/
def entryBytes (e : HazardEntry) : List Byte :=
  bytesOf 2 e.id ++ bytesOf 1 e.kind.order ++ bytesOf 1 e.source ++ bytesOf 1 e.state.code ++ bytesOf 2 e.minute

/-- The entries of a page: positions 8 × p + 1 to 8 × p + 8 (R169). -/
def pageEntries (h : HazardList) (page : Nat) : List HazardEntry :=
  (h.entries.drop (Config.hazardPage * page)).take Config.hazardPage

/-- The answer of READ-HAZARDS for a page (R169). -/
def hazardPage (h : HazardList) (page : Nat) : List Byte :=
  bytesOf 1 page ++ bytesOf 1 h.entries.length ++ flag h.unlisted ++ flag h.attention ++
    bytesOf 1 (pageEntries h page).length ++ (pageEntries h page).flatMap entryBytes

/-- READ-HAZARDS: pages 0 to 5 (R157, R169). -/
def readHazardsAt (s : State) (page : Nat) : State × Status × List Byte :=
  if 5 < page then refuse s .fieldRange else done s (hazardPage s.hazards page)

/-- READ_HAZARDS: a request accepted and handed to the list (R157, R169). -/
def execReadHazards (page : Nat) (s : State) : Result := onRequest (.readHazards page) 0x28 s fun s => readHazardsAt s page

end Sys2Proof.Machine
end

