-- ==== Sys2Proof/Machine/Sensor.lean ====
section
/-! DEFINITION. The Sensor Line Controller (chapter 6): polling, replies, saturation and smoothing, the head states, and the sensor
conditions. -/

namespace Sys2Proof.Machine

/-! ### Conditions -/

/-- The ZONE-BLIND condition of a zone is assessed again and reported where it changed (R131). -/
def reassessZone (s : State) (z : Zone) : State :=
  let now := blind s.sensors.heads z
  (s.setSensors { s.sensors with zoneBlind := s.sensors.zoneBlind.set z now }).reportChange
    s.sensors.zoneBlind[z] now .zoneBlind z.val

/-- The ZONE-BLIND condition of a head's zone, if it has one, is assessed again (R131). -/
def reassess (s : State) : Option Zone → State
  | some z => reassessZone s z
  | none => s

/-- Ask a head's zone, if it has one, to evaluate (R129). -/
def requestZone (s : State) : Option Zone → State
  | some z => s.emit [.evaluationRequest z]
  | none => s

/-! ### Polling -/

/-- The configured heads: those whose zone in force is a zone number, ascending (R119). -/
def configuredHeads (s : State) : List HeadAddr := allHeads.filter fun h => s.sensors.heads[h].zone.isSome

/-- When heads are still due in the cycle and no reply window is open, the next poll follows (R121). -/
def followPoll (s : State) : State :=
  if s.sensors.window.isNone && !s.sensors.due.isEmpty then s.emit [.headPoll] else s

/-- A poll transaction ends: the window closes, and the next head's poll follows (R121). -/
def endTransaction (s : State) : State := followPoll (s.setSensors { s.sensors with window := none })

/-- A head whose configured zone is none stops being polled: its record is emptied, and an open reply window of its closes (R127, log
entry 27). -/
def dropHead (s : State) (h : HeadAddr) : State :=
  let r := s.sensors.heads[h]
  let t := s.setHead h (HeadRecord.initial none)
  let t := if t.sensors.window = some h then t.setSensors { t.sensors with window := none } else t
  let t := reassess (t.reportChange r.lost false .sensorLost h.val) r.zone
  if r.state.counts then requestZone t r.zone else t

/-- A head whose zone in force differs from its configured zone takes the configured one (R127). -/
def applyHeadZone (s : State) (h : HeadAddr) : State :=
  let r := s.sensors.heads[h]
  let configured := s.cfg.heads[h]
  if r.zone = configured then s
  else
    match configured with
    | none => dropHead s h
    | some b =>
      let t := s.setHead h { r with zone := some b }
      let t := reassess (reassess t r.zone) (some b)
      if r.state.counts then requestZone (requestZone t r.zone) (some b) else t

/-- POLL_CYCLE_START: the zone items are applied and the configured heads are due for polling in ascending address (R121, R127). That the items
too are applied in ascending address, each head's conditions reassessed in its turn, is the model's choice (log entry 47). -/
def execPollCycleStart (s : State) : Result :=
  onEvent .pollCycleStart s fun s =>
    let t := allHeads.foldl applyHeadZone s
    followPoll (t.setSensors { t.sensors with due := configuredHeads t, cycleTimer := Config.pollCycleSeconds })

/-- HEAD_POLL: the next head due is polled and its reply window opens; while a window is open no poll is sent (R121). -/
def execHeadPoll (s : State) : Result :=
  onEvent .headPoll s fun s =>
    match s.sensors.window, s.sensors.due with
    | none, h :: rest => s.setSensors { s.sensors with window := some h, due := rest }
    | _, _ => s

/-! ### Replies -/

/-- A raw reading saturated to 0 and a limit (R123). -/
def saturate (limit : Nat) (raw : Int) : Nat := min limit raw.toNat

/-- Smoothing: the new value is (3 × s + r + 2) / 4 rounded down; with no value to smooth, or after WAITING or LOST, it is seeded (R124). -/
def smooth (seeded : Bool) (old : Option Nat) (r : Nat) : Nat :=
  match seeded, old with
  | false, some v => (3 * v + r + 2) / 4
  | _, _ => r

/-- A value crosses a level: one of before and after stands at or above it and the other below (R129). -/
def crosses (level : Nat) (before after : Option Nat) : Bool :=
  match before, after with
  | some x, some y => decide (level ≤ x) != decide (level ≤ y)
  | _, _ => false

/-- An update of a head's smoothed values crosses one of the four levels (R129). -/
def crossesAny (cfg : Cfg) (before after : HeadRecord) : Bool :=
  crosses cfg.coHigh before.co after.co || crosses cfg.coClear before.co after.co ||
    crosses cfg.no2High before.no2 after.no2 || crosses cfg.no2Clear before.no2 after.no2

/-- The record after a good reply (R122 to R125). -/
def goodRecord (minute : Nat) (r : HeadRecord) (status : ReplyStatus) (rawCo rawNo2 : Int) : HeadRecord :=
  let co := saturate 500 rawCo
  let no2 := saturate 200 rawNo2
  let seeded := !r.state.counts
  { r with
    state := .valid, co := some (smooth seeded r.co co), no2 := some (smooth seeded r.no2 no2), rawCo := some co,
    rawNo2 := some no2, lastStatus := some status, drift := status == .drift, misses := 0,
    hold := some Config.holdSeconds, lastGood := some minute }

/-- A good reply from a head: its record, its conditions, and one request to its zone when it enters the heads that count or crosses a level
(R125, R129). -/
def takeGood (s : State) (h : HeadAddr) (status : ReplyStatus) (rawCo rawNo2 : Int) : State :=
  let r := s.sensors.heads[h]
  let after := goodRecord s.store.minute r status rawCo rawNo2
  let t := s.setHead h after
  let t := if r.lost then reassess (t.report false .sensorLost h.val) r.zone else t
  if !r.state.counts || crossesAny s.cfg r after then requestZone t r.zone else t

/-- The record after a miss (R122, R125). -/
def missRecord (r : HeadRecord) (status : Option ReplyStatus) : HeadRecord :=
  let misses := min 255 (r.misses + 1)
  { r with
    misses := misses, lastStatus := status,
    state := if r.state = .valid ∧ Config.missesToHold ≤ misses then .holding else r.state }

/-- A miss of a head (R125). -/
def takeMiss (s : State) (h : HeadAddr) (status : Option ReplyStatus) : State :=
  s.setHead h (missRecord s.sensors.heads[h] status)

/-- A reply's status makes it a good reply (R122). -/
def ReplyStatus.good : ReplyStatus → Bool
  | .ok | .drift => true
  | .warming | .fault => false

/-- HEAD_REPLY: taken when its window is open, its check holds and it names the head polled; discarded otherwise, the window staying open
(R122). -/
def execHeadReply (address : Nat) (status : ReplyStatus) (rawCo rawNo2 : Int) (checkHolds : Bool) (s : State) : Result :=
  onEvent (.headReply address status rawCo rawNo2 checkHolds) s fun s =>
    match s.sensors.window with
    | none => s
    | some h =>
      if checkHolds && address == h.val then
        endTransaction
          (if ReplyStatus.good status then takeGood s h status rawCo rawNo2 else takeMiss s h (some status))
      else s

/-- REPLY_WINDOW_END: the window ends with no reply taken, a miss with status NO-REPLY (R122). -/
def execReplyWindowEnd (s : State) : Result :=
  onEvent .replyWindowEnd s fun s =>
    match s.sensors.window with
    | none => s
    | some h => endTransaction (takeMiss s h none)

/-- A head whose hold timer has run out (R126). -/
def loseHead (s : State) (h : HeadAddr) : State :=
  let r := s.sensors.heads[h]
  let t := s.setHead h { r with hold := none, state := if r.state.counts then .lost else r.state }
  if r.state.counts then requestZone (reassess (t.report true .sensorLost h.val) r.zone) r.zone else t

/-- HOLD_TIMER_EXPIRY (R126). -/
def execHoldTimerExpiry (h : HeadAddr) (s : State) : Result :=
  onEvent (.holdTimerExpiry h) s fun s => if s.sensors.heads[h].hold.isSome then loseHead s h else s

end Sys2Proof.Machine
end

