-- ==== Sys2Proof/Machine/Zone.lean ====
section
/-! DEFINITION. The Zone Units (chapters 2 and 3): the gas values and the gas-high latch, the quiet phase, the choice of mode, the
demand, staging, speeds and shortfall, the standby request, and what an evaluation hands to the other blocks. -/

namespace Sys2Proof.Machine

/-! ### Gas -/

/-- The heads whose zone in force is a zone (R38, R128). -/
def headsOf (s : State) (z : Zone) : List HeadAddr := allHeads.filter fun h => s.sensors.heads[h].zone == some z

/-- The zone's heads that count: VALID or HOLDING (R38). -/
def countingHeads (s : State) (z : Zone) : List HeadAddr := (headsOf s z).filter fun h => s.sensors.heads[h].state.counts

/-- The zone CO value: the largest smoothed CO among the heads that count (R38). -/
def zoneCo (s : State) (z : Zone) : Option Nat := largest ((countingHeads s z).filterMap fun h => s.sensors.heads[h].co)

/-- The zone NO2 value: the largest smoothed NO2 among the heads that count (R38). -/
def zoneNo2 (s : State) (z : Zone) : Option Nat := largest ((countingHeads s z).filterMap fun h => s.sensors.heads[h].no2)

/-- How the gas term is found (R39, R40). -/
def gasSourceOf (s : State) (z : Zone) : GasSource :=
  if (headsOf s z).isEmpty then .noHeads else if (countingHeads s z).isEmpty then .floorTerm else .readings

/-- The part of the gas term a gas asks for: its factor times the excess over its start level (R39). -/
def gasPart (factor start : Nat) (value : Option Nat) : Nat := factor * (value.getD 0 - start)

/-- The gas term from readings: the larger of the two gases' parts, limited to the gas ceiling (R39). -/
def readingsTerm (cfg : Cfg) (co no2 : Option Nat) : Nat :=
  min (max (gasPart cfg.coFactor cfg.coStart co) (gasPart cfg.no2Factor cfg.no2Start no2)) cfg.gasCeiling

/-- The gas term G (R39, R40). -/
def gasTermOf (cfg : Cfg) (source : GasSource) (co no2 : Option Nat) : Nat :=
  match source with
  | .readings => readingsTerm cfg co no2
  | .floorTerm => cfg.floorTerm
  | .noHeads => 0

/-- A value is present and at or above a level (R57). -/
def reaches (value : Option Nat) (level : Nat) : Bool :=
  match value with
  | some v => level ≤ v
  | none => false

/-- A value is present and below a level (R57). -/
def below (value : Option Nat) (level : Nat) : Bool :=
  match value with
  | some v => v < level
  | none => false

/-- The gas-high latch and its clear delay brought up to date (R57). -/
def updateLatch (cfg : Cfg) (co no2 : Option Nat) (latch : Bool) (delay : ClearDelay) : Bool × ClearDelay :=
  if latch then
    if below co cfg.coClear && below no2 cfg.no2Clear then
      match delay with
      | .idle => (true, .running Config.clearDelaySeconds)
      | .running n => (true, .running n)
      | .runOut => (false, .idle)
    else (true, .idle)
  else (reaches co cfg.coHigh || reaches no2 cfg.no2High, .idle)

/-! ### Conditions, quiet phase and mode -/

/-- The zones of a mask that hold FIRE-EXTRACT as recorded at their last completed evaluation, as a mask (R52, R54). -/
def adjacentFires (s : State) (z : Zone) : BitVec 8 :=
  BitVec.ofNat 8 (total ((allZones.filter fun b =>
    (s.zoneCfg z).adjacency.getLsbD b.val && s.zones[b].mode == .fireExtract).map fun b => 2 ^ b.val))

/-- The conditions an evaluation reads for the choice of mode (R52). -/
structure Conditions where
  command : Option FireCommand
  latch : Bool
  adjacent : BitVec 8
  gasHigh : Bool
  thermal : Bool
  deriving DecidableEq, Repr

/-- Some condition of ranks 1 to 5 holds (R52). -/
def Conditions.anyHolds (c : Conditions) : Bool :=
  c.command.isSome || c.latch || c.adjacent != 0 || c.gasHigh || c.thermal

/-- The quiet phase brought up to date by the quiet test (R64); the pulse lasts n + 1 minutes (R63). -/
def updateQuiet (zc : ZoneCfg) (test : Bool) (q : QuietPhase) : QuietPhase :=
  match q, test with
  | .out, true => .delay (60 * zc.quietEntry)
  | .out, false => .out
  | .delay n, true => .delay n
  | .delay _, false => .out
  | .due, true => .pulse (60 * (zc.pulse + 1))
  | .due, false => .out
  | .pulse n, true => .pulse n
  | .pulse _, false => .out
  | .space n, true => .space n
  | .space _, false => .out

/-- The quiet phase is PULSE or SPACE (R52). -/
def QuietPhase.isQuiet : QuietPhase → Bool
  | .pulse _ => true
  | .space _ => true
  | _ => false

/-- The mode of the highest rank whose condition holds (R52). -/
def chooseMode (c : Conditions) (q : QuietPhase) : ZoneMode :=
  match c.command with
  | some .on => .manualOn
  | some .off => .manualOff
  | none =>
    if c.latch then .fireExtract
    else if c.adjacent != 0 then .smokeHold
    else if c.gasHigh then .gasAlarm
    else if c.thermal then .thermal
    else if q.isQuiet then .quiet
    else .normal

/-! ### Demand -/

/-- The raw demand raised to the floor and then lowered to the ceiling (R41). -/
def clampDemand (zc : ZoneCfg) (raw : Nat) : Nat := min (max raw zc.floor) zc.ceiling

/-- The demand after the adjustment of the mode (R42). -/
def demandFor (zc : ZoneCfg) (mode : ZoneMode) (clamped : Nat) : Nat :=
  match mode with
  | .thermal => min (max clamped zc.thermalFloor) zc.ceiling
  | .gasAlarm => zc.ceiling
  | .smokeHold | .manualOff => 0
  | .normal | .fireExtract | .manualOn | .quiet => clamped

/-! ### Fans and staging -/

/-- The own fans of a zone in ascending channel number (R43). -/
def ownFans (s : State) (z : Zone) : List Chan := allChans.filter fun c => (s.chan c).role == .zone z

/-- The available list (R43). -/
def availableFans (s : State) (z : Zone) : List Chan := (ownFans s z).filter fun c => s.fans[c].state.available

/-- The sum of the rated flows of some fans (R43). -/
def ratedSum (s : State) (l : List Chan) : Nat := total (l.map fun c => (s.chan c).ratedFlow)

/-- Q(j): the rated flow of the first j fans of the available list (R43). -/
def firstRated (s : State) (avail : List Chan) (j : Nat) : Nat := ratedSum s (avail.take j)

/-- The target count: 0 for a demand of 0, else the smallest j of 1 or more with Q(j) at least D, else n (R44). -/
def targetCount (s : State) (avail : List Chan) (demand : Nat) : Nat :=
  if demand = 0 then 0
  else ((List.range' 1 avail.length).find? fun j => demand ≤ firstRated s avail j).getD avail.length

/-- The stage count brought up to date: lowered to n, raised to the target, or lowered by the four-fifths test (R45). -/
def updateStage (s : State) (avail : List Chan) (demand held : Nat) : Nat :=
  let k := min held avail.length
  let target := targetCount s avail demand
  if k < target then target
  else ((List.range' target (k - target)).find? fun j => 5 * demand ≤ 4 * firstRated s avail j).getD k

/-- The staging speed: 100 × D / Q(k) rounded up, absent when k is 0 (R47). -/
def stagingSpeed (s : State) (avail : List Chan) (demand k : Nat) : Option Nat :=
  if k = 0 then none else some (ceilDiv (100 * demand) (firstRated s avail k))

/-- A speed raised to a fan's minimum speed and lowered to 100 (R47, R51, R80). -/
def fanSpeed (s : State) (c : Chan) (speed : Nat) : Nat := min (max speed (s.chan c).minSpeed) 100

/-- The standby fans granted to a zone (R51). -/
def heldStandby (s : State) (z : Zone) : List Chan := allChans.filter fun c => s.alloc.grants[c] == some z

/-- Modes in which staging is applied by R45 to R47 (R55). -/
def ZoneMode.staged : ZoneMode → Bool
  | .normal | .thermal | .gasAlarm => true
  | _ => false

/-- Modes in which every own fan runs at full strength with the forced mark (R55). -/
def ZoneMode.forced : ZoneMode → Bool
  | .fireExtract | .manualOn => true
  | _ => false

/-- The stage count a mode records (R55). -/
def stageFor (s : State) (z : Zone) (mode : ZoneMode) (quiet : QuietPhase) (demand held : Nat) : Nat :=
  let avail := availableFans s z
  if mode.staged then updateStage s avail demand held
  else if mode.forced then ((ownFans s z).filter fun c => s.fans[c].state != .service).length
  else
    match mode, quiet with
    | .quiet, .pulse _ => min 1 avail.length
    | _, _ => 0

/-- The speed p a mode records (R55). -/
def speedFor (s : State) (z : Zone) (mode : ZoneMode) (demand k : Nat) : Option Nat :=
  let avail := availableFans s z
  if k = 0 then none
  else if mode.staged then stagingSpeed s avail demand k
  else if mode.forced then some 100
  else avail.head?.map fun c => (s.chan c).minSpeed

/-- The shortfall: D less the whole available capacity, in the modes where staging is applied (R49). -/
def shortfallFor (s : State) (z : Zone) (mode : ZoneMode) (demand : Nat) : Nat :=
  if mode.staged then demand - ratedSum s (availableFans s z) else 0

/-- A SHORTFALL request is a FAILURE-COVER one when an own fan is FAILED or LOCKED-OUT or the zone damper is JAMMED (R50). -/
def coverNeeded (s : State) (z : Zone) : Bool :=
  ((ownFans s z).any fun c => s.fans[c].state == .failed || s.fans[c].state == .lockedOut) || s.dampers[z].state == .jammed

/-- The standby request wanted (R50, R55). -/
def wantedCall (s : State) (z : Zone) (mode : ZoneMode) (shortfall : Nat) : Option StandbyCall :=
  match mode with
  | .fireExtract | .manualOn => some .fire
  | .quiet | .smokeHold | .manualOff => none
  | .gasAlarm => if shortfall = 0 then none else some (.flow .gasAlarm shortfall)
  | .normal | .thermal =>
    if shortfall = 0 then none
    else some (.flow (if coverNeeded s z then .failureCover else .shortfall) shortfall)

/-- The damper request handed out (R48, R55, R100). -/
def damperRequestFor (mode : ZoneMode) (k : Nat) : DamperRequest :=
  match mode with
  | .normal | .thermal | .gasAlarm => if k = 0 then .noRequest else .openPlain
  | .quiet => .openPlain
  | .fireExtract | .manualOn => .openForced
  | .smokeHold | .manualOff => .close

/-- The target of an own fan that is not in SERVICE (R46, R47, R55, R66, R68, R73). -/
def ownTarget (s : State) (z : Zone) (mode : ZoneMode) (k : Nat) (p : Option Nat) (c : Chan) : FanTarget :=
  match mode with
  | .fireExtract | .manualOn => .on 100 true
  | .smokeHold | .manualOff => .off
  | .normal | .thermal | .gasAlarm | .quiet =>
    if ((availableFans s z).take k).contains c then .on (fanSpeed s c (p.getD 0)) false else .off

/-- The target of a standby fan the zone holds, by the request now standing (R51, R55, R69); none when none stands (R50). -/
def standbyTarget (s : State) (z : Zone) (call : Option StandbyCall) (c : Chan) : Option FanTarget :=
  match call with
  | some .fire => some (.on 100 true)
  | some (.flow _ amount) => some (.on (fanSpeed s c (ceilDiv (100 * amount) (ratedSum s (heldStandby s z)))) false)
  | none => none

/-- The target of one evaluation for a channel, if it gives one, by the role the channel has (R48, R77): an own fan not in SERVICE, a standby
fan the zone holds, and never an UNUSED channel, whatever grant it has left (log entry 43). A standby fan that is FAILED or LOCKED-OUT while its
grant still stands gets its target too, the forced mark under FIRE included: that is the model's choice (R69, R111, log entry 49). -/
def targetFor (s : State) (z : Zone) (mode : ZoneMode) (k : Nat) (p : Option Nat) (call : Option StandbyCall) (c : Chan) :
    Option FanTarget :=
  match (s.chan c).role with
  | .zone y => if y ≠ z ∨ s.fans[c].state = .service then none else some (ownTarget s z mode k p c)
  | .standby _ => if s.alloc.grants[c] = some z then standbyTarget s z call c else none
  | .unused => none

/-- The targets of one evaluation, in ascending channel number (R48, R179). -/
def targetsOf (s : State) (z : Zone) (mode : ZoneMode) (k : Nat) (p : Option Nat) (call : Option StandbyCall) :
    List (Chan × FanTarget) :=
  allChans.filterMap fun c => (targetFor s z mode k p call c).map fun t => (c, t)

/-! ### The evaluation -/

/-- The values an evaluation records, from the roster's answer and the other inputs as they stand (R34, R52). A floor term written as 0 leaves
G at 0, and the quiet test then holds on the floor term too (R63, log entry 40). -/
def evaluated (s : State) (z : Zone) (answer : RosterAnswer) : ZoneUnit :=
  let u := s.zones[z]
  let zc := s.zoneCfg z
  let co := zoneCo s z
  let no2 := zoneNo2 s z
  let source := gasSourceOf s z
  let gas := gasTermOf s.cfg source co no2
  let latch := updateLatch s.cfg co no2 u.gasHigh u.clearDelay
  let conditions : Conditions :=
    { command := s.fire.commands[z], latch := s.fire.latches[z], adjacent := adjacentFires s z, gasHigh := latch.1,
      thermal := answer.thermal }
  let anticipation := s.cfg.anticipationWeight * answer.count
  let quietTest := !conditions.anyHolds && answer.sum == 0 && anticipation == 0 && gas == 0 && !answer.residue
  let quiet := updateQuiet zc quietTest u.quiet
  let mode := chooseMode conditions quiet
  let raw := zc.baseFlow + answer.sum + anticipation + gas
  let clamped := clampDemand zc raw
  let demand := demandFor zc mode clamped
  let k := stageFor s z mode quiet demand u.stageCount
  let shortfall := shortfallFor s z mode demand
  { u with
    mode := mode, baseFlow := zc.baseFlow, stallSum := answer.sum, anticipationCount := answer.count,
    anticipation := anticipation, co := co, no2 := no2, gasSource := some source, gasTerm := gas, rawDemand := raw,
    clampedDemand := clamped, demand := demand, stageCount := k, speed := speedFor s z mode demand k, shortfall := shortfall,
    request := wantedCall s z mode shortfall, gasHigh := latch.1, clearDelay := latch.2, quiet := quiet,
    latchSeen := conditions.latch, commandSeen := conditions.command, adjacentSeen := conditions.adjacent,
    thermalSeen := answer.thermal }

/-- What the zone sends the allocator: a raise, a change, a withdrawal, or nothing when the request wanted is the one held (R50). -/
def requestEvents (z : Zone) (held wanted : Option StandbyCall) : List Instr :=
  match held, wanted with
  | none, none => []
  | none, some w => [.standbyRequestRaise z w]
  | some _, none => [.standbyRequestWithdraw z]
  | some h, some w => if h = w then [] else [.standbyRequestChange z w]

/-- The zones of a zone's adjacency mask (R71). -/
def adjacentZones (s : State) (z : Zone) : List Zone := allZones.filter fun b => (s.zoneCfg z).adjacency.getLsbD b.val

/-- The evaluation requests of a change into or out of FIRE-EXTRACT (R72). -/
def fireSpread (s : State) (z : Zone) (before after : ZoneMode) : List Instr :=
  if (before == .fireExtract) != (after == .fireExtract) then (adjacentZones s z).map .evaluationRequest else []

/-- What an evaluation that recorded the unit u hands to the other blocks (R48, R55, R56, R60). -/
def evaluationOutputs (s : State) (z : Zone) (u : ZoneUnit) : List Instr :=
  let before := s.zones[z]
  (if before.gasHigh = u.gasHigh then []
   else [if u.gasHigh then .conditionActiveReport .gasHigh z.val else .conditionClearReport .gasHigh z.val]) ++
  [.fanTargets z (targetsOf s z u.mode u.stageCount u.speed u.request),
   .damperRequest z (damperRequestFor u.mode u.stageCount)] ++
  requestEvents z before.request u.request ++ fireSpread s z before.mode u.mode

/-- The end of an evaluation: with the again flag set the zone clears it and begins a new evaluation at once, otherwise it becomes IDLE
(R33). -/
def finishEvaluation (z : Zone) (s : State) : State :=
  let u := s.zones[z]
  if u.again then (s.setZone z { u with again := false }).emit [.stallSumRequest z]
  else s.setZone z { u with evalState := .idle }

/-- An evaluation completes (R34). -/
def completeEvaluation (z : Zone) (answer : RosterAnswer) (s : State) : State :=
  let u := evaluated s z answer
  finishEvaluation z ((s.setZone z u).emit (evaluationOutputs s z u))

/-- EVALUATION_COMPLETE: the answer to an abandoned request is discarded and the fresh evaluation's request sent (R35); an answer that
reaches a zone with no evaluation in progress has no effect (log entry 6). -/
def execEvaluationComplete (z : Zone) (answer : RosterAnswer) (s : State) : Result :=
  onEvent (.evaluationComplete z answer) s fun s =>
    match s.zones[z].evalState with
    | .idle => s
    | .gathering =>
      if s.zones[z].abandoned then (s.setZone z { s.zones[z] with abandoned := false }).emit [.stallSumRequest z]
      else completeEvaluation z answer s

/-- EVALUATION_TIMER_EXPIRY: the timer runs its next 10 seconds and the expiry is an evaluation event (R32). -/
def execEvaluationTimerExpiry (z : Zone) (s : State) : Result :=
  onEvent (.evaluationTimerExpiry z) s fun s =>
    evaluationEvent z (s.setZone z { s.zones[z] with evalTimer := Config.evaluationPeriod })

/-- EVALUATION_REQUEST (R33). -/
def execEvaluationRequest (z : Zone) (s : State) : Result :=
  onEvent (.evaluationRequest z) s fun s => evaluationEvent z s

/-- CLEAR_DELAY_RUN_OUT: a running clear delay becomes RUN-OUT and the run-out is an evaluation event (R58). -/
def execClearDelayRunOut (z : Zone) (s : State) : Result :=
  onEvent (.clearDelayRunOut z) s fun s =>
    match s.zones[z].clearDelay with
    | .running _ => evaluationEvent z (s.setZone z { s.zones[z] with clearDelay := .runOut })
    | _ => s

/-- QUIET_ENTRY_TIMER_EXPIRY: DELAY becomes DUE, an evaluation event (R65). -/
def execQuietEntryTimerExpiry (z : Zone) (s : State) : Result :=
  onEvent (.quietEntryTimerExpiry z) s fun s =>
    match s.zones[z].quiet with
    | .delay _ => evaluationEvent z (s.setZone z { s.zones[z] with quiet := .due })
    | _ => s

/-- PULSE_TIMER_EXPIRY: PULSE becomes SPACE with m + 1 minutes, an evaluation event (R65). -/
def execPulseTimerExpiry (z : Zone) (s : State) : Result :=
  onEvent (.pulseTimerExpiry z) s fun s =>
    match s.zones[z].quiet with
    | .pulse _ => evaluationEvent z (s.setZone z { s.zones[z] with quiet := .space (60 * ((s.zoneCfg z).space + 1)) })
    | _ => s

/-- SPACE_TIMER_EXPIRY: SPACE becomes PULSE with n + 1 minutes, an evaluation event (R65). -/
def execSpaceTimerExpiry (z : Zone) (s : State) : Result :=
  onEvent (.spaceTimerExpiry z) s fun s =>
    match s.zones[z].quiet with
    | .space _ => evaluationEvent z (s.setZone z { s.zones[z] with quiet := .pulse (60 * ((s.zoneCfg z).pulse + 1)) })
    | _ => s

/-- ZONE_RESTART: the held values, latch, clear delay and quiet phase are reset and the timer started again; a zone GATHERING abandons
its evaluation and waits for the outstanding answer, an IDLE one begins afresh at once (R31, R32, R35, R54, R60). -/
def execZoneRestart (z : Zone) (s : State) : Result :=
  onEvent (.zoneRestart z) s fun s =>
    let u := s.zones[z]
    let fresh := ZoneUnit.initial (s.zoneCfg z).quietEntry
    let t := s.reportChange u.gasHigh false .gasHigh z.val
    match u.evalState with
    | .gathering => t.setZone z { fresh with abandoned := true }
    | .idle => (t.setZone z fresh).emit [.stallSumRequest z]

/-- STANDBY_CLEARED_REPORT: the zone's standby request becomes none and the report is an evaluation request (R118). -/
def execStandbyClearedReport (z : Zone) (s : State) : Result :=
  onEvent (.standbyClearedReport z) s fun s =>
    evaluationEvent z (s.setZone z { s.zones[z] with request := none })

end Sys2Proof.Machine
end

