-- ==== Sys2Proof/Machine/Reads.lean ====
section
/-! DEFINITION. The snapshot reads of the supervisory link (R166 to R168, R170): READ-ZONE, READ-FAN, READ-HEAD, READ-DAMPER and
IDENTIFY, with the codes of their fields. -/

namespace Sys2Proof.Machine

/-! ### Codes (R166) -/

/-- The code of a zone mode. -/
def ZoneMode.code : ZoneMode → Nat
  | .manualOn => 0
  | .manualOff => 1
  | .fireExtract => 2
  | .smokeHold => 3
  | .gasAlarm => 4
  | .thermal => 5
  | .normal => 6
  | .quiet => 7

/-- The code of a gas source. -/
def GasSource.code : GasSource → Nat
  | .readings => 0
  | .floorTerm => 1
  | .noHeads => 2

/-- The amount of a call as READ-ZONE sends it: FFFEh for all in reach (R168). -/
def callAmount : StandbyCall → Nat
  | .fire => 65534
  | .flow _ amount => amount

/-- The code of a quiet phase. -/
def QuietPhase.code : QuietPhase → Nat
  | .out => 0
  | .delay _ => 1
  | .due => 2
  | .pulse _ => 3
  | .space _ => 4

/-- The seconds the quiet timer has left, if it runs. -/
def QuietPhase.secondsLeft : QuietPhase → Option Nat
  | .delay n | .pulse n | .space n => some n
  | .out | .due => none

/-- The code of a clear delay. -/
def ClearDelay.code : ClearDelay → Nat
  | .idle => 0
  | .running _ => 1
  | .runOut => 2

/-- The seconds the clear delay has left, if it runs. -/
def ClearDelay.secondsLeft : ClearDelay → Option Nat
  | .running n => some n
  | .idle | .runOut => none

/-- The code of a fan state. -/
def FanState.code : FanState → Nat
  | .off => 0
  | .queued => 1
  | .starting => 2
  | .running => 3
  | .stopping => 4
  | .retryWait => 5
  | .lockedOut => 6
  | .failed => 7
  | .service => 8

/-- The code of a last failure. -/
def FailKind.code : FailKind → Nat
  | .startFailed => 1
  | .speedLost => 2

/-- The code of a stop reason. -/
def StopReason.code : StopReason → Nat
  | .commanded => 0
  | .failure kind => kind.code

/-- The code of a fan's running timer. -/
def FanTimer.code : FanTimer → Nat
  | .startWindow _ => 0
  | .cleanRun _ => 2
  | .rundown _ => 3
  | .retryWait _ => 4

/-- The seconds a fan's timer has left. -/
def FanTimer.secondsLeft : FanTimer → Nat
  | .startWindow n | .cleanRun n | .rundown n | .retryWait n => n

/-- The code of a head state. -/
def HeadState.code : HeadState → Nat
  | .waiting => 0
  | .valid => 1
  | .holding => 2
  | .lost => 3

/-- The code of a head's last status; NO-REPLY is 4. -/
def headStatusCode : Option ReplyStatus → Nat
  | some .ok => 0
  | some .warming => 1
  | some .drift => 2
  | some .fault => 3
  | none => 4

/-- The code of a damper state. -/
def DamperState.code : DamperState → Nat
  | .closed => 0
  | .opening => 1
  | .opened => 2
  | .closing => 3
  | .jammed => 4

/-- The code of a damper request, absent for no request. -/
def damperRequestCode : DamperRequest → Option Nat
  | .noRequest => none
  | .openPlain => some 0
  | .openForced => some 1
  | .close => some 2

/-- The code of a switch reading. -/
def SwitchReading.code : SwitchReading → Nat
  | .fullyOpen => 0
  | .fullyClosed => 1
  | .between => 2

/-- The code of a gate state. -/
def GateState.code : GateState → Nat
  | .closed => 0
  | .travelling => 1
  | .atZone _ => 2
  | .jammed => 3

/-- The position of a gate in AT (R106). -/
def GateState.position : GateState → Option Nat
  | .atZone z => some z.val
  | _ => none

/-- The number of a gate target: closed is 8. -/
def gateTargetCode : GateTarget → Nat
  | .zone z => z.val
  | .closed => 8

/-- The number of a feed: A 0, B 1 (R168). -/
def feedCode : Feed → Nat
  | .a => 0
  | .b => 1

/-! ### READ-ZONE -/

/-- The values of the evaluation: zone, mode, flows and staging (R168, R31). -/
def zoneFlowBytes (z : Zone) (u : ZoneUnit) : List Byte :=
  bytesOf 1 z.val ++ bytesOf 1 u.mode.code ++ bytesOf 2 u.baseFlow ++ bytesOf 3 u.stallSum ++
    bytesOf 1 u.anticipationCount ++ bytesOf 3 u.anticipation ++ field 2 u.co ++ field 1 u.no2 ++
    field 1 (u.gasSource.map (·.code)) ++ bytesOf 2 u.gasTerm ++ bytesOf 3 u.rawDemand ++ bytesOf 2 u.clampedDemand ++
    bytesOf 2 u.demand ++ bytesOf 1 u.stageCount ++ field 2 u.speed ++ bytesOf 2 u.shortfall

/-- The values of mode and phase: quiet phase, latch, conditions seen, evaluation state (R168, R54). -/
def zoneModeBytes (u : ZoneUnit) : List Byte :=
  bytesOf 1 u.quiet.code ++ field 2 u.quiet.secondsLeft ++ flag u.gasHigh ++ bytesOf 1 u.clearDelay.code ++
    field 1 u.clearDelay.secondsLeft ++ flag u.latchSeen ++ field 1 (u.commandSeen.map (·.code)) ++
    bytesOf 1 u.adjacentSeen.toNat ++ flag u.thermalSeen ++ flag (u.evalState == .gathering) ++ flag u.again

/-- The answer of READ-ZONE (R168). -/
def zoneAnswer (s : State) (z : Zone) : List Byte :=
  let u := s.zones[z]
  zoneFlowBytes z u ++ field 1 (u.request.map classRank) ++ field 2 (u.request.map callAmount) ++
    bytesOf 2 (maskOf (heldStandby s z)) ++ zoneModeBytes u

/-- READ-ZONE (R164, R168). -/
def readZoneAt (s : State) (zone : Nat) : State × Status × List Byte :=
  match zoneOf zone with
  | none => refuse s .fieldRange
  | some z => done s (zoneAnswer s z)

/-- READ_ZONE: a request accepted and answered from the zone's state (R167, R168). -/
def execReadZone (zone : Nat) (s : State) : Result := onRequest (.readZone zone) 0x20 s fun s => readZoneAt s zone

/-! ### READ-FAN -/

/-- A fan's position in its feed's queue, counted from 1; 0 when it is not queued (R168). -/
def queuePosition (s : State) (c : Chan) : Nat :=
  let q := (s.queue (feedOf s c)).fans
  if q.contains c then q.idxOf c + 1 else 0

/-- The zone a standby fan is granted to (R168). -/
def grantedZone (s : State) (c : Chan) : Option Zone := if isStandby s c then s.alloc.grants[c] else none

/-- The speed of a target, absent for an off target (log entry 24). -/
def targetSpeed : FanTarget → Option Nat
  | .on speed _ => some speed
  | .off => none

/-- The answer of READ-FAN (R168); the expected rpm is found from the rated rpm as it stands (R81, log entry 42). -/
def fanAnswer (s : State) (c : Chan) : List Byte :=
  let f := s.fans[c]
  bytesOf 1 c.val ++ bytesOf 1 f.state.code ++ flag f.target.isOn ++ field 1 (targetSpeed f.target) ++
    flag f.target.marked ++ flag f.runOutput ++ bytesOf 1 f.commanded ++ bytesOf 3 f.measured ++
    bytesOf 2 (expectedRpm (s.chan c) f.commanded) ++ bytesOf 1 f.goodGates ++ bytesOf 1 f.lowGates ++
    bytesOf 1 f.stopReason.code ++ field 1 (f.lastFailure.map (·.code)) ++ bytesOf 1 f.retryCount ++
    field 1 (f.timer.map (·.code)) ++ field 2 (f.timer.map (·.secondsLeft)) ++ field 1 f.settle ++
    bytesOf 1 (queuePosition s c) ++ bytesOf 1 (feedCode (feedOf s c)) ++ field 1 ((grantedZone s c).map (·.val))

/-- READ-FAN (R164, R168). -/
def readFanAt (s : State) (channel : Nat) : State × Status × List Byte :=
  match chanOf channel with
  | none => refuse s .fieldRange
  | some c => done s (fanAnswer s c)

/-- READ_FAN: a request accepted and answered from the fan's state (R167, R168). -/
def execReadFan (channel : Nat) (s : State) : Result := onRequest (.readFan channel) 0x21 s fun s => readFanAt s channel

/-! ### READ-HEAD -/

/-- The answer of READ-HEAD (R168). -/
def headAnswer (s : State) (h : HeadAddr) : List Byte :=
  let r := s.sensors.heads[h]
  bytesOf 1 h.val ++ field 1 (r.zone.map (·.val)) ++ bytesOf 1 r.state.code ++ field 2 r.co ++ field 1 r.no2 ++
    field 2 r.rawCo ++ field 1 r.rawNo2 ++ bytesOf 1 (headStatusCode r.lastStatus) ++ flag r.drift ++
    bytesOf 1 r.misses ++ field 1 r.hold ++ field 2 r.lastGood

/-- READ-HEAD (R164, R168). -/
def readHeadAt (s : State) (address : Nat) : State × Status × List Byte :=
  match headOf address with
  | none => refuse s .fieldRange
  | some h => done s (headAnswer s h)

/-- READ_HEAD: a request accepted and answered from the head's state (R167, R168). -/
def execReadHead (address : Nat) (s : State) : Result := onRequest (.readHead address) 0x22 s fun s => readHeadAt s address

/-! ### READ-DAMPER -/

/-- The answer of READ-DAMPER for a zone damper (R168). -/
def damperAnswer (s : State) (z : Zone) : List Byte :=
  let d := s.dampers[z]
  bytesOf 1 z.val ++ bytesOf 1 d.state.code ++ field 1 (damperRequestCode d.request) ++ flag d.closePending ++
    bytesOf 2 (maskOf d.blocking) ++ field 1 d.timer ++ bytesOf 1 (reading s z).code

/-- The answer of READ-DAMPER for a gate; of one not in use its channel and that it is not in use, the gate's own fields absent (R168,
log entry 46). -/
def gateAnswer (s : State) (c : Chan) : List Byte :=
  let g := s.gates[c]
  bytesOf 1 c.val ++ flag g.inUse ++
    if g.inUse then
      bytesOf 1 g.state.code ++ field 1 g.state.position ++ bytesOf 1 (gateTargetCode g.target) ++ flag g.pending ++
        field 1 g.timer
    else List.replicate 5 0xFF#8

/-- READ-DAMPER (R168). -/
def readDamperAt (s : State) (kind number : Nat) : State × Status × List Byte :=
  match kind, zoneOf number, chanOf number with
  | 0, some z, _ => done s (damperAnswer s z)
  | 1, _, some c => done s (gateAnswer s c)
  | _, _, _ => refuse s .fieldRange

/-- READ_DAMPER: a request accepted and answered from the damper's or gate's state (R167, R168). -/
def execReadDamper (kind number : Nat) (s : State) : Result :=
  onRequest (.readDamper kind number) 0x23 s fun s => readDamperAt s kind number

/-! ### IDENTIFY -/

/-- The model, six characters in ASCII (R170). -/
def modelName : List Byte := [0x56#8, 0x4C#8, 0x2D#8, 0x34#8, 0x38#8, 0x30#8]

/-- IDENTIFY: model, firmware level, defaulted flag, address and baud rate (R170, log entry 22). -/
def identifyNow (s : State) : State × Status × List Byte :=
  done s
    (modelName ++ [Config.firmwareMajor, Config.firmwareMinor] ++ flag s.store.defaulted ++ bytesOf 1 s.port.address ++
      flag s.port.fastBaud)

/-- IDENTIFY: a request accepted and answered by the port (R170). -/
def execIdentify (s : State) : Result := onRequest .identify 0x01 s identifyNow

end Sys2Proof.Machine
end

