-- ==== Sys2Proof/Machine/Roster.lean ====
section
/-! DEFINITION. The Stall Roster (chapter 1): residues, the record commands, allowance expiry, the answer to a stall sum request, and
the walk. -/

namespace Sys2Proof.Machine

/-! ### Residues -/

/-- The residue term of an entry: level × steps / tail length, rounded down; 0 when the tail length is 0 (R6). -/
def residueTerm (cfg : Cfg) (e : StallEntry) : Nat :=
  if cfg.tail = 0 then 0 else e.level * e.steps / cfg.tail

/-- A residue is set at an entry whose record leaves an activity of a class (R5). -/
def setResidue (cfg : Cfg) (c : VehicleClass) (a : Activity) (e : StallEntry) : StallEntry :=
  if cfg.tail = 0 then { e with level := 0, steps := 0 }
  else
    let level := max (weightOf cfg c a) (residueTerm cfg e)
    { e with level := level, steps := if level = 0 then 0 else cfg.tail }

/-- The residue that leaving an activity sets: ENGINE-RUN, WARM-UP and THERMAL-WATCH set one, PARKED and CHARGING none (R5). -/
def leaveActivity (cfg : Cfg) (o : Occupant) (e : StallEntry) : StallEntry :=
  if o.activity.leavesResidue then setResidue cfg o.cls o.activity e else e

/-- One step of a residue: a step count above 0 falls by one, and the level becomes 0 with it (R24). -/
def stepResidue (e : StallEntry) : StallEntry :=
  if e.steps = 0 then e
  else { e with steps := e.steps - 1, level := if e.steps - 1 = 0 then 0 else e.level }

/-- A write of the tail length shortens a residue to it, and clears one brought to 0 steps (R7). -/
def shortenResidue (tail : Nat) (e : StallEntry) : StallEntry :=
  if e.steps > tail then { e with steps := tail, level := if tail = 0 then 0 else e.level } else e

/-! ### Looking records up -/

/-- The stall whose record holds a tag, if one does (R8, R27). -/
def stallOfTag (s : State) (tag : Nat) : Option StallIdx :=
  allStalls.find? fun i =>
    match s.roster.stalls[i].occupant with
    | some o => o.tag == tag
    | none => false

/-- A stall holds a record. -/
def occupied (s : State) (i : StallIdx) : Bool := s.roster.stalls[i].occupant.isSome

/-- The zone of a stall in the stall map (R3). -/
def zoneOfStall (s : State) (i : StallIdx) : Zone := s.cfg.stalls[i].zone

/-- The allowance a record is credited on entering an activity, in seconds (R14). -/
def allowanceFor (cfg : Cfg) : Activity → Option Nat
  | .engineRun => some (60 * cfg.engineRun)
  | .warmUp => some (60 * cfg.warmUp)
  | _ => none

/-- The stall record of a stall, 23 bytes (R171). -/
def stallRecord (s : State) (i : StallIdx) : List Byte :=
  let e := s.roster.stalls[i]
  let o := e.occupant
  bytesOf 2 (labelOfStall s.cfg i) ++ bytesOf 1 i.val ++ flag s.cfg.stalls[i].enabled ++ bytesOf 1 s.cfg.stalls[i].zone.val ++
    bytesOf 2 e.level ++ bytesOf 1 e.steps ++ bytesOf 2 (residueTerm s.cfg e) ++ flag o.isSome ++
    field 2 (o.map (·.tag)) ++ field 1 (o.map (·.cls.code)) ++ field 1 (o.map (·.activity.code)) ++
    field 2 (o.map (·.since)) ++ field 2 (o.bind (·.allowance)) ++ field 1 (o.bind (·.charger)) ++
    field 2 (o.bind (·.departure)) ++ field 1 (o.map fun o => if o.lapsed then 1 else 0)

/-- A record command or roster read carried out is answered DONE with the stall record as it stands after the change (R167). -/
def answerStall (s : State) (i : StallIdx) : State × Status × List Byte := done s (stallRecord s i)

/-- Ask a stall's zone to evaluate (R11). -/
def requestZoneOf (s : State) (i : StallIdx) : State := s.emit [.evaluationRequest (zoneOfStall s i)]

/-- Report the BATTERY-THERMAL condition of a stall, when it changed (R23). -/
def reportThermal (s : State) (i : StallIdx) (before after : Bool) : State :=
  s.reportChange before after .batteryThermal i.val

/-! ### The record commands -/

/-- The first fault of ARRIVE at a stall in the window, in the order of R10 (R18). -/
def arriveFault (s : State) (i : StallIdx) (tag cls act charger departure : Nat) : Option Status :=
  let c := classOfCode cls
  let a := activityOfCode act
  firstFault
    [(badTag tag, .badTag),
     (c.isNone || a.isNone || badDeparture departure || badCharger charger, .fieldRange),
     (!s.cfg.stalls[i].enabled, .stallDisabled),
     (occupied s i, .stallOccupied),
     ((stallOfTag s tag).isSome, .tagInUse),
     (match c, a with
      | some c, some a => !mayHold c a || (charger != 255 && c != .electric)
      | _, _ => true, .classMismatch)]

/-- ARRIVE carried out: the record ARRIVE gives, with its activity since field, allowance and lapsed field (R9, R14, R18). -/
def arrivingRecord (s : State) (tag : Nat) (c : VehicleClass) (a : Activity) (charger departure : Nat) : Occupant :=
  { tag := tag, cls := c, activity := a, since := s.store.minute, allowance := allowanceFor s.cfg a,
    charger := chargerOf charger, departure := departureOf departure, lapsed := false }

/-- ARRIVE (R18). -/
def arriveAt (s : State) (label tag cls act charger departure : Nat) : State × Status × List Byte :=
  match stallOfLabel s.cfg label with
  | none => refuse s .stallOutOfWindow
  | some i =>
    match arriveFault s i tag cls act charger departure, classOfCode cls, activityOfCode act with
    | none, some c, some a =>
      let t := s.setStall i { s.roster.stalls[i] with occupant := some (arrivingRecord s tag c a charger departure) }
      let t := requestZoneOf (reportThermal t i false (a == .thermalWatch)) i
      answerStall t i
    | some status, _, _ => refuse s status
    | none, _, _ => refuse s .fieldRange

/-- ARRIVE: a request accepted and handed to the roster (R18). -/
def execArrive (label tag cls act charger departure : Nat) (s : State) : Result :=
  onRequest (.arrive label tag cls act charger departure) 0x10 s fun s => arriveAt s label tag cls act charger departure

/-- The first fault of RELOCATE of a tag to a stall in the window, in the order of R10 (R19). -/
def relocateFault (s : State) (tag : Nat) (j : StallIdx) : Option Status :=
  firstFault
    [(badTag tag, .badTag), ((stallOfTag s tag).isNone, .tagUnknown), (!s.cfg.stalls[j].enabled, .stallDisabled),
     (occupied s j, .stallOccupied)]

/-- The evaluation requests of a move: one to the zone of the old stall and, if it differs, one to that of the new stall (R11). -/
def moveRequests (s : State) (i j : StallIdx) : List Instr :=
  if zoneOfStall s i = zoneOfStall s j then [.evaluationRequest (zoneOfStall s i)]
  else [.evaluationRequest (zoneOfStall s i), .evaluationRequest (zoneOfStall s j)]

/-- A record moves from one stall to another with every field unchanged; both residues stay (R19). -/
def moveRecord (s : State) (i j : StallIdx) : State :=
  let o := s.roster.stalls[i].occupant
  let watched := s.roster.stalls[i].inThermalWatch
  let t := s.setStall i { s.roster.stalls[i] with occupant := none }
  let t := t.setStall j { t.roster.stalls[j] with occupant := o }
  (reportThermal (reportThermal t i watched false) j false watched).emit (moveRequests s i j)

/-- RELOCATE (R19). -/
def relocateTo (s : State) (tag newLabel : Nat) : State × Status × List Byte :=
  match stallOfLabel s.cfg newLabel with
  | none => refuse s .stallOutOfWindow
  | some j =>
    match relocateFault s tag j, stallOfTag s tag with
    | none, some i => answerStall (moveRecord s i j) j
    | some status, _ => refuse s status
    | none, none => refuse s .tagUnknown

/-- RELOCATE: a request accepted and handed to the roster (R19). -/
def execRelocate (tag newLabel : Nat) (s : State) : Result :=
  onRequest (.relocate tag newLabel) 0x11 s fun s => relocateTo s tag newLabel

/-- The changes of activity that ACTIVITY accepts, between activities the class may hold (R12). -/
def mayChange (c : VehicleClass) (old new : Activity) : Bool :=
  mayHold c old && mayHold c new && !(old == .thermalWatch && new == .charging)

/-- The first fault of ACTIVITY on a stall in the window, in the order of R10 (R13). -/
def activityFault (s : State) (i : StallIdx) (act : Nat) : Option Status :=
  let a := activityOfCode act
  let o := s.roster.stalls[i].occupant
  firstFault
    [(a.isNone, .fieldRange),
     (o.isNone, .stallVacant),
     (match o, a with
      | some o, some a => !mayHold o.cls a
      | _, _ => true, .classMismatch),
     (match o, a with
      | some o, some a => o.activity != a && !mayChange o.cls o.activity a
      | _, _ => true, .badTransition)]

/-- ACTIVITY naming the present activity: lapsed becomes no, and a running activity's allowance restarts (R13). -/
def renewInPlace (cfg : Cfg) (o : Occupant) : Occupant :=
  { o with lapsed := false, allowance := if o.activity.isRunning then allowanceFor cfg o.activity else o.allowance }

/-- A change of a record's activity: its since field, allowance and lapsed field (R13, steps 2 to 4). -/
def changeActivity (s : State) (o : Occupant) (a : Activity) : Occupant :=
  { o with activity := a, since := s.store.minute, allowance := allowanceFor s.cfg a, lapsed := false }

/-- ACTIVITY carried out on the record at a stall (R13). -/
def takeActivity (s : State) (i : StallIdx) (o : Occupant) (a : Activity) : State :=
  let e := s.roster.stalls[i]
  if o.activity = a then s.setStall i { e with occupant := some (renewInPlace s.cfg o) }
  else
    let t := s.setStall i { leaveActivity s.cfg o e with occupant := some (changeActivity s o a) }
    requestZoneOf (reportThermal t i (o.activity == .thermalWatch) (a == .thermalWatch)) i

/-- ACTIVITY (R13). -/
def activityAt (s : State) (label act : Nat) : State × Status × List Byte :=
  match stallOfLabel s.cfg label with
  | none => refuse s .stallOutOfWindow
  | some i =>
    match activityFault s i act, s.roster.stalls[i].occupant, activityOfCode act with
    | none, some o, some a => answerStall (takeActivity s i o a) i
    | some status, _, _ => refuse s status
    | none, _, _ => refuse s .stallVacant

/-- ACTIVITY: a request accepted and handed to the roster (R13). -/
def execActivity (label act : Nat) (s : State) : Result :=
  onRequest (.activity label act) 0x12 s fun s => activityAt s label act

/-- RENEW (R20). -/
def renewAt (s : State) (label : Nat) : State × Status × List Byte :=
  match stallOfLabel s.cfg label with
  | none => refuse s .stallOutOfWindow
  | some i =>
    match s.roster.stalls[i].occupant with
    | none => refuse s .stallVacant
    | some o =>
      if o.activity.isRunning then
        answerStall (s.setStall i { s.roster.stalls[i] with occupant := some (renewInPlace s.cfg o) }) i
      else refuse s .notRunning

/-- RENEW: a request accepted and handed to the roster (R20). -/
def execRenew (label : Nat) (s : State) : Result :=
  onRequest (.renew label) 0x13 s fun s => renewAt s label

/-- SET-DEPARTURE (R21). -/
def setDepartureAt (s : State) (label departure : Nat) : State × Status × List Byte :=
  match stallOfLabel s.cfg label with
  | none => refuse s .stallOutOfWindow
  | some i =>
    if badDeparture departure then refuse s .fieldRange
    else
      match s.roster.stalls[i].occupant with
      | none => refuse s .stallVacant
      | some o =>
        let t := s.setStall i { s.roster.stalls[i] with occupant := some { o with departure := departureOf departure } }
        answerStall (requestZoneOf t i) i

/-- SET-DEPARTURE: a request accepted and handed to the roster (R21). -/
def execSetDeparture (label departure : Nat) (s : State) : Result :=
  onRequest (.setDeparture label departure) 0x14 s fun s => setDepartureAt s label departure

/-- DEPART (R22). -/
def departAt (s : State) (label : Nat) : State × Status × List Byte :=
  match stallOfLabel s.cfg label with
  | none => refuse s .stallOutOfWindow
  | some i =>
    match s.roster.stalls[i].occupant with
    | none => refuse s .stallVacant
    | some o =>
      let t := s.setStall i { leaveActivity s.cfg o s.roster.stalls[i] with occupant := none }
      let t := requestZoneOf (reportThermal t i (o.activity == .thermalWatch) false) i
      answerStall t i

/-- DEPART: a request accepted and handed to the roster (R22). -/
def execDepart (label : Nat) (s : State) : Result :=
  onRequest (.depart label) 0x15 s fun s => departAt s label

/-! ### Reads and the walk -/

/-- READ-STALL (R26). -/
def readStallAt (s : State) (label : Nat) : State × Status × List Byte :=
  match stallOfLabel s.cfg label with
  | none => refuse s .stallOutOfWindow
  | some i => answerStall s i

/-- READ-STALL: a request accepted and handed to the roster (R26). -/
def execReadStall (label : Nat) (s : State) : Result :=
  onRequest (.readStall label) 0x18 s fun s => readStallAt s label

/-- FIND-TAG (R27). -/
def findTagIn (s : State) (tag : Nat) : State × Status × List Byte :=
  if badTag tag then refuse s .badTag
  else
    match stallOfTag s tag with
    | none => refuse s .tagUnknown
    | some i => answerStall s i

/-- FIND-TAG: a request accepted and handed to the roster (R27). -/
def execFindTag (tag : Nat) (s : State) : Result :=
  onRequest (.findTag tag) 0x19 s fun s => findTagIn s tag

/-- The first occupied stall at or above an index (R28). -/
def firstOccupied (s : State) (start : Nat) : Option StallIdx :=
  allStalls.find? fun i => decide (start ≤ i.val) && occupied s i

/-- A walk step: the cursor moves to the stall found, or stays where it is (R28). -/
def walkTo (s : State) : Option StallIdx → State × Status × List Byte
  | none => refuse s .endOfRoster
  | some i =>
    let t := s.setRoster { s.roster with cursor := i }
    answerStall t i

/-- WALK-FIRST (R28). -/
def walkFirstFrom (s : State) (label : Nat) : State × Status × List Byte :=
  match stallOfLabel s.cfg label with
  | none => refuse s .stallOutOfWindow
  | some i => walkTo s (firstOccupied s i.val)

/-- WALK-FIRST: a request accepted and handed to the roster (R28). -/
def execWalkFirst (label : Nat) (s : State) : Result :=
  onRequest (.walkFirst label) 0x1A s fun s => walkFirstFrom s label

/-- WALK-NEXT: the next occupied stall above the cursor (R28, R29). -/
def execWalkNext (s : State) : Result :=
  onRequest .walkNext 0x1B s fun s => walkTo s (firstOccupied s (s.roster.cursor.val + 1))

/-! ### Events of the roster's own -/

/-- An allowance expires: the residue of the running activity, then PARKED, no allowance, lapsed (R15). -/
def expireAllowance (s : State) (i : StallIdx) (o : Occupant) : State :=
  let parked := { o with activity := .parked, since := s.store.minute, allowance := none, lapsed := true }
  requestZoneOf (s.setStall i { leaveActivity s.cfg o s.roster.stalls[i] with occupant := some parked }) i

/-- ALLOWANCE_EXPIRY: it does not occur at a stall where no allowance runs (R15, R16, log entry 4). -/
def execAllowanceExpiry (i : StallIdx) (s : State) : Result :=
  onEvent (.allowanceExpiry i) s fun s =>
    match s.roster.stalls[i].occupant with
    | some o => if o.activity.isRunning then expireAllowance s i o else s
    | none => s

/-- The enabled stalls of a zone (R24). -/
def stallsOfZone (cfg : Cfg) (z : Zone) : List StallIdx :=
  allStalls.filter fun i => cfg.stalls[i].enabled && cfg.stalls[i].zone == z

/-- The stall term: the weight of the occupant's class in its activity, and the residue term (R24). -/
def stallTerm (cfg : Cfg) (e : StallEntry) : Nat :=
  (match e.occupant with
   | some o => weightOf cfg o.cls o.activity
   | none => 0) + residueTerm cfg e

/-- A record counts toward anticipation (R24). -/
def anticipated (st : ConfigStore) (e : StallEntry) : Bool :=
  match e.occupant with
  | some o =>
    match o.departure with
    | some dep =>
      o.cls != .electric && o.activity == .parked && st.clockSet &&
        decide ((dep + 1440 - st.minute) % 1440 ≤ st.cfg.anticipationLead)
    | none => false
  | none => false

/-- The roster's answer for a zone (R24). -/
def rosterAnswer (s : State) (z : Zone) : RosterAnswer :=
  let own := stallsOfZone s.cfg z
  { sum := total (own.map fun i => stallTerm s.cfg s.roster.stalls[i])
    count := (own.filter fun i => anticipated s.store s.roster.stalls[i]).length
    thermal := own.any fun i => s.roster.stalls[i].inThermalWatch
    residue := own.any fun i => decide (0 < s.roster.stalls[i].steps) }

/-- The residues of a zone's enabled stalls step once (R24). -/
def stepZone (s : State) (z : Zone) : State :=
  s.setRoster
    { s.roster with
      stalls := Vector.ofFn fun i : StallIdx =>
        if s.cfg.stalls[i].enabled && s.cfg.stalls[i].zone == z then stepResidue s.roster.stalls[i]
        else s.roster.stalls[i] }

/-- STALL_SUM_REQUEST: the answer is built first and goes to the zone; then the residues step (R24). -/
def execStallSumRequest (z : Zone) (s : State) : Result :=
  onEvent (.stallSumRequest z) s fun s =>
    (stepZone s z).emit [.evaluationComplete z (rosterAnswer s z)]

/-- The clear reports of every active BATTERY-THERMAL condition (R23, R30). -/
def thermalClears (s : State) : List Instr :=
  (allStalls.filter fun i => s.roster.stalls[i].inThermalWatch).map fun i =>
    .conditionClearReport .batteryThermal i.val

/-- ROSTER_RESTART: the roster is emptied without setting any residue (R30). -/
def execRosterRestart (s : State) : Result :=
  onEvent .rosterRestart s fun s => (s.setRoster Roster.initial).emit (thermalClears s)

/-- A write of the tail length shortens every residue at once (R7). -/
def shortenResidues (s : State) (tail : Nat) : State :=
  s.setRoster { s.roster with stalls := s.roster.stalls.map (shortenResidue tail) }

end Sys2Proof.Machine
end

