-- ==== Sys2Proof/Machine/Store.lean ====
section
/-! DEFINITION. The Configuration Store (chapter 10): the checks, clamping and effects of WRITE-CONFIG, READ-CONFIG, saving, the depot
clock, and RESTART. -/

namespace Sys2Proof.Machine

/-! ### Clamping -/

/-- The range of an item whose value is a plain number (10.1). Items that carry a code or a mask are not clamped by a range. -/
def itemRange : CfgItem → Nat × Nat
  | .windowBase => (0, 9903)
  | .tail => (0, 63)
  | .engineRun => (5, 60)
  | .warmUp => (5, 60)
  | .anticipationWeight => (0, 2000)
  | .anticipationLead => (0, 60)
  | .coStart => (0, 500)
  | .coFactor => (0, 1000)
  | .no2Start => (0, 200)
  | .no2Factor => (0, 1000)
  | .gasCeiling => (0, 60000)
  | .floorTerm => (0, 60000)
  | .level .coHigh => (0, 500)
  | .level .coClear => (0, 500)
  | .level .no2High => (0, 200)
  | .level .no2Clear => (0, 200)
  | .weight _ _ => (0, 4000)
  | .baseFlow _ => (0, 20000)
  | .floorCeiling .floor _ => (0, 20000)
  | .floorCeiling .ceiling _ => (0, 60000)
  | .thermalFloor _ => (0, 60000)
  | .quietEntry _ => (10, 120)
  | .pulse _ => (0, 59)
  | .space _ => (0, 239)
  | .damperTimeout _ => (10, 120)
  | .stall .zone _ => (0, 7)
  | .placement .ratedFlow _ => (500, 20000)
  | .ratedRpm _ => (300, 3600)
  | .pulses _ => (1, 8)
  | .minSpeed _ => (15, 60)
  | .startWindow _ => (5, 60)
  | .retryWait _ => (10, 120)
  | .homeZone _ => (0, 7)
  | _ => (0, 65535)

/-- The member of 1, 2, 4, 8 nearest a written retry limit, the larger for a value midway (R77). -/
def nearestLimit (v : Nat) : Nat := if v ≤ 1 then 1 else if v ≤ 2 then 2 else if v ≤ 5 then 4 else 8

/-- A role value after clamping: a zone above 7 becomes 7 and an empty reach mask zone 0 alone (R77, R172); UNUSED takes no low byte and is
written as 0 (log entry 25). -/
def clampRole (v : Nat) : Nat :=
  if v / 256 = 0 then 0
  else if v / 256 = 1 then 256 + min (v % 256) 7
  else if v / 256 = 2 ∧ v % 256 = 0 then 512 + 1
  else v

/-- The second zone an adjacency value names, one above 7 clamped to 7 (R71). -/
def otherZone (v : Nat) : Zone := clampZone (v / 256)

/-- An adjacency value after clamping: a zone named twice is written as not adjacent (R71). -/
def clampAdjacency (a : Zone) (v : Nat) : Nat := 256 * (otherZone v).val + if otherZone v = a then 0 else v % 256

/-- A written value after clamping to its range and against the item it is paired with (R172, R41, R59, R77, R71, R119). -/
def clampValue (cfg : Cfg) (i : CfgItem) (v : Nat) : Nat :=
  let w := clampTo (itemRange i).1 (itemRange i).2 v
  match i with
  | .floorCeiling .floor z => min w cfg.zones[z].ceiling
  | .floorCeiling .ceiling z => max w cfg.zones[z].floor
  | .level .coHigh => max w cfg.coClear
  | .level .coClear => min w cfg.coHigh
  | .level .no2High => max w cfg.no2Clear
  | .level .no2Clear => min w cfg.no2High
  | .retryLimit _ => nearestLimit v
  | .placement .role _ => clampRole v
  | .adjacency a => clampAdjacency a v
  | .headZone _ => if v = 65535 then v else min v 7
  | _ => w

/-- Clamping changed the value; an adjacency write that names a zone twice always counts as clamped (R71, R172). -/
def wasClamped (cfg : Cfg) (i : CfgItem) (v : Nat) : Bool :=
  clampValue cfg i v != v ||
    match i with
    | .adjacency a => otherZone v == a
    | _ => false

/-! ### Checks -/

/-- A write the table itself refuses: an item that is read only, or a value that carries a code naming nothing (R172). -/
def badCode (i : CfgItem) (v : Nat) : Bool :=
  match i with
  | .saveState | .lastSave => true
  | .parking => decide (2 < v)
  | .placement .feed _ | .action _ => decide (1 < v)
  | .placement .role _ => decide (2 < v / 256)
  | .contactEnabled _ | .stall .enabled _ => decide (1 < v)
  | .adjacency _ => decide (1 < v % 256)
  | _ => false

/-- A write the owning rule refuses in the present state (R172, R3, R78). -/
def heldBack (s : State) (i : CfgItem) : Bool :=
  match i with
  | .stall _ n => occupied s n || decide (0 < s.roster.stalls[n].level)
  | .placement _ c => s.fans[c].state != .service
  | _ => false

/-! ### Storing -/

/-- The bit of a zone in a mask set or cleared. -/
def setBit (mask : BitVec 8) (z : Zone) (on : Bool) : BitVec 8 :=
  if on then mask ||| (1#8 <<< z.val) else mask &&& ~~~(1#8 <<< z.val)

/-- The items of a zone replaced. -/
def Cfg.setZone (cfg : Cfg) (z : Zone) (zc : ZoneCfg) : Cfg := { cfg with zones := cfg.zones.set z zc }

/-- The items of a channel replaced. -/
def Cfg.setChan (cfg : Cfg) (c : Chan) (cc : ChanCfg) : Cfg := { cfg with channels := cfg.channels.set c cc }

/-- The adjacency of two zones, set or cleared in both masks together; a zone is never adjacent to itself (R71). -/
def Cfg.setAdjacent (cfg : Cfg) (a b : Zone) (on : Bool) : Cfg :=
  if a = b then cfg
  else
    let first := cfg.setZone a { cfg.zones[a] with adjacency := setBit cfg.zones[a].adjacency b on }
    first.setZone b { first.zones[b] with adjacency := setBit first.zones[b].adjacency a on }

/-- The role a clamped role value stands for (10.1, item 50). -/
def roleOf (v : Nat) : Role :=
  if v / 256 = 0 then .unused
  else if v / 256 = 1 then .zone (clampZone (v % 256))
  else .standby (BitVec.ofNat 8 (v % 256))

/-- The policy a code names (10.1, item 17). -/
def policyOf (v : Nat) : ParkingPolicy := if v = 0 then .last else if v = 1 then .home else .closed

/-- A checked and clamped value put into the working configuration (R172). -/
def putValue (cfg : Cfg) (i : CfgItem) (v : Nat) : Cfg :=
  match i with
  | .windowBase => { cfg with windowBase := v }
  | .tail => { cfg with tail := v }
  | .engineRun => { cfg with engineRun := v }
  | .warmUp => { cfg with warmUp := v }
  | .anticipationWeight => { cfg with anticipationWeight := v }
  | .anticipationLead => { cfg with anticipationLead := v }
  | .coStart => { cfg with coStart := v }
  | .coFactor => { cfg with coFactor := v }
  | .no2Start => { cfg with no2Start := v }
  | .no2Factor => { cfg with no2Factor := v }
  | .gasCeiling => { cfg with gasCeiling := v }
  | .floorTerm => { cfg with floorTerm := v }
  | .level .coHigh => { cfg with coHigh := v }
  | .level .coClear => { cfg with coClear := v }
  | .level .no2High => { cfg with no2High := v }
  | .level .no2Clear => { cfg with no2Clear := v }
  | .parking => { cfg with parking := policyOf v }
  | .weight c a => { cfg with weights := cfg.weights.set (weightPlace c a) v }
  | .baseFlow z => cfg.setZone z { cfg.zones[z] with baseFlow := v }
  | .floorCeiling .floor z => cfg.setZone z { cfg.zones[z] with floor := v }
  | .floorCeiling .ceiling z => cfg.setZone z { cfg.zones[z] with ceiling := v }
  | .thermalFloor z => cfg.setZone z { cfg.zones[z] with thermalFloor := v }
  | .quietEntry z => cfg.setZone z { cfg.zones[z] with quietEntry := v }
  | .pulse z => cfg.setZone z { cfg.zones[z] with pulse := v }
  | .space z => cfg.setZone z { cfg.zones[z] with space := v }
  | .adjacency a => cfg.setAdjacent a (otherZone v) (v % 256 == 1)
  | .contactEnabled z => cfg.setZone z { cfg.zones[z] with contactEnabled := v == 1 }
  | .damperTimeout z => cfg.setZone z { cfg.zones[z] with damperTimeout := v }
  | .stall .enabled n => { cfg with stalls := cfg.stalls.set n { cfg.stalls[n] with enabled := v == 1 } }
  | .stall .zone n => { cfg with stalls := cfg.stalls.set n { cfg.stalls[n] with zone := clampZone v } }
  | .headZone h => { cfg with heads := cfg.heads.set h (zoneOf v) }
  | .placement .role c => cfg.setChan c { cfg.channels[c] with role := roleOf v }
  | .placement .feed c => cfg.setChan c { cfg.channels[c] with feed := if v = 0 then .a else .b }
  | .placement .ratedFlow c => cfg.setChan c { cfg.channels[c] with ratedFlow := v }
  | .ratedRpm c => cfg.setChan c { cfg.channels[c] with ratedRpm := v }
  | .pulses c => cfg.setChan c { cfg.channels[c] with pulses := v }
  | .minSpeed c => cfg.setChan c { cfg.channels[c] with minSpeed := v }
  | .startWindow c => cfg.setChan c { cfg.channels[c] with startWindow := v }
  | .retryWait c => cfg.setChan c { cfg.channels[c] with retryWait := v }
  | .retryLimit c => cfg.setChan c { cfg.channels[c] with retryLimit := v }
  | .action c => cfg.setChan c { cfg.channels[c] with action := if v = 0 then .lockOut else .persist }
  | .homeZone c => cfg.setChan c { cfg.channels[c] with homeZone := clampZone v }
  | .saveState | .lastSave => cfg

/-- What a taken write does at once beside the configuration: the tail length shortens residues (R7), the minimum speed raises a running
fan's commanded speed (R80), and contact enabled acts on its input (R133). -/
def actOnWrite (s : State) (i : CfgItem) (v : Nat) : State :=
  match i with
  | .tail => shortenResidues s v
  | .minSpeed c => raiseCommanded s c
  | .contactEnabled z => enableContact s z (v == 1)
  | _ => s

/-- A write that passes its checks (R172). -/
def takeWrite (s : State) (i : CfgItem) (v : Nat) : State :=
  actOnWrite (s.setCfg (putValue s.cfg i (clampValue s.cfg i v))) i (clampValue s.cfg i v)

/-- The payload of a configuration answer: the item, the index and the value as it now stands (R172, R173). -/
def itemAnswer (st : ConfigStore) (item index : Nat) (i : CfgItem) : List Byte :=
  bytesOf 1 item ++ bytesOf 1 index ++ bytesOf 2 (itemValue st i)

/-- The check of a write: FIELD-RANGE first, then NOT-NOW (R172). -/
def writeFault (s : State) (i : CfgItem) (v : Nat) : Option Status :=
  firstFault [(badCode i v, .fieldRange), (heldBack s i, .notNow)]

/-- WRITE-CONFIG of an item that the table holds (R172). -/
def writeItem (s : State) (item index value : Nat) (i : CfgItem) : State × Status × List Byte :=
  match writeFault s i value with
  | some status => refuse s status
  | none =>
    let t := takeWrite s i value
    (t, if wasClamped s.cfg i value then .doneClamped else .done, itemAnswer t.store item index i)

/-- WRITE-CONFIG (R172). -/
def writeAt (s : State) (item index value : Nat) : State × Status × List Byte :=
  match itemOf item index with
  | none => refuse s .fieldRange
  | some i => writeItem s item index value i

/-- A WRITE-CONFIG accepted and handed to the Store, under the name of one of its rows (R164, R172). -/
def writeRequest (c : Instr) (item index value : Nat) (s : State) : Result :=
  onRequest c 0x38 s fun s => writeAt s item index value

/-- WRITE_CONFIG (R172). -/
def execWriteConfig (item index value : Nat) (s : State) : Result :=
  writeRequest (.writeConfig item index value) item index value s

/-- WINDOW_BASE_WRITE: item 1 (R2, R172). -/
def execWindowBaseWrite (index value : Nat) (s : State) : Result :=
  writeRequest (.windowBaseWrite index value) 1 index value s

/-- TAIL_LENGTH_WRITE: item 2 (R7, R172). -/
def execTailLengthWrite (index value : Nat) (s : State) : Result :=
  writeRequest (.tailLengthWrite index value) 2 index value s

/-- STALL_MAP_WRITE: items 40 and 41 (R3, R172). -/
def execStallMapWrite (f : StallMapField) (index value : Nat) (s : State) : Result :=
  writeRequest (.stallMapWrite f index value) (stallMapItem f) index value s

/-- FLOOR_CEILING_WRITE: items 31 and 32 (R41, R172). -/
def execFloorCeilingWrite (f : FloorCeilingField) (index value : Nat) (s : State) : Result :=
  writeRequest (.floorCeilingWrite f index value) (floorCeilingItem f) index value s

/-- GAS_LEVEL_WRITE: items 13 to 16 (R59, R172). -/
def execGasLevelWrite (f : GasLevelField) (index value : Nat) (s : State) : Result :=
  writeRequest (.gasLevelWrite f index value) (gasLevelItem f) index value s

/-- ADJACENCY_WRITE: item 37 (R71, R172). -/
def execAdjacencyWrite (index value : Nat) (s : State) : Result :=
  writeRequest (.adjacencyWrite index value) 37 index value s

/-- CONTACT_ENABLED_WRITE: item 38 (R133, R172). -/
def execContactEnabledWrite (index value : Nat) (s : State) : Result :=
  writeRequest (.contactEnabledWrite index value) 38 index value s

/-- MINIMUM_SPEED_WRITE: item 55 (R80, R172). -/
def execMinimumSpeedWrite (index value : Nat) (s : State) : Result :=
  writeRequest (.minimumSpeedWrite index value) 55 index value s

/-- CHANNEL_PLACEMENT_WRITE: items 50 to 52 (R78, R172). -/
def execChannelPlacementWrite (f : PlacementField) (index value : Nat) (s : State) : Result :=
  writeRequest (.channelPlacementWrite f index value) (placementItem f) index value s

/-- READ-CONFIG (R173). -/
def readConfigAt (s : State) (item index : Nat) : State × Status × List Byte :=
  match itemOf item index with
  | none => refuse s .fieldRange
  | some i => done s (itemAnswer s.store item index i)

/-- READ_CONFIG: a request accepted and handed to the Store (R173). -/
def execReadConfig (item index : Nat) (s : State) : Result :=
  onRequest (.readConfig item index) 0x39 s fun s => readConfigAt s item index

/-! ### Saving -/

/-- SAVE-CONFIG: BUSY while SAVING; otherwise the copy is taken and the save begins, answered DONE with an empty payload (R174, log entry 48). -/
def saveConfigNow (s : State) : State × Status × List Byte :=
  match s.store.saving with
  | some _ => refuse s .busy
  | none => done (s.setStore { s.store with saving := some s.cfg }) []

/-- SAVE_CONFIG: a request accepted and handed to the Store (R174). -/
def execSaveConfig (s : State) : Result := onRequest .saveConfig 0x3A s saveConfigNow

/-- A save completes with its read-back (R174, log entry 26). -/
def completeSave (st : ConfigStore) (cfg : Cfg) (readBack : ReadBack) : ConfigStore :=
  match readBack with
  | .equal => { st with nv := .image cfg, saving := none, lastSave := .done, defaulted := false }
  | .differsDamaged => { st with nv := .unreadable, saving := none, lastSave := .failed }
  | .differsIntact => { st with nv := .image cfg, saving := none, lastSave := .failed }

/-- SAVE_COMPLETE (R174). -/
def execSaveComplete (readBack : ReadBack) (s : State) : Result :=
  onEvent (.saveComplete readBack) s fun s =>
    match s.store.saving with
    | some cfg => s.setStore (completeSave s.store cfg readBack)
    | none => s

/-! ### The depot clock -/

/-- The clock set to a minute: the seconds 0 and the set flag yes (R176). -/
def setMinute (s : State) (minute : Nat) : State :=
  s.setStore { s.store with minute := minute, seconds := 0, clockSet := true }

/-- SET-CLOCK (R176). -/
def setClockAt (s : State) (minute : Nat) : State × Status × List Byte :=
  if 1439 < minute then refuse s .fieldRange else done (setMinute s minute) []

/-- SET_CLOCK: a request accepted and handed to the Store (R176). -/
def execSetClock (minute : Nat) (s : State) : Result := onRequest (.setClock minute) 0x03 s fun s => setClockAt s minute

/-- READ-CLOCK: the depot minute and the set flag (R170). -/
def readClockNow (s : State) : State × Status × List Byte :=
  done s (bytesOf 2 s.store.minute ++ flag s.store.clockSet)

/-- READ_CLOCK: a request accepted and handed to the Store (R170). -/
def execReadClock (s : State) : Result := onRequest .readClock 0x02 s readClockNow

/-- What a broadcast does: a SET-CLOCK with two payload bytes and a minute up to 1439 sets the clock, anything else nothing (R163). -/
def broadcastEffect (s : State) (code : Nat) (payload : List Byte) : State :=
  if code = 0x03 ∧ payload.length = 2 ∧ numberOf payload ≤ 1439 then setMinute s (numberOf payload) else s

/-- BROADCAST_SET_CLOCK: taken or discarded without an answer, the port back in LISTENING; in ANSWERING its bytes are discarded (R161,
R163). -/
def execBroadcastSetClock (code : Nat) (payload : List Byte) (s : State) : Result :=
  onEvent (.broadcastSetClock code payload) s fun s =>
    match s.port.state with
    | .answering => s
    | _ => (broadcastEffect s code payload).dropFrame

/-- The seconds pass 59: they return to 0 and the minute rises by one, 1439 followed by 0 (R176). -/
def nextMinute (st : ConfigStore) : ConfigStore := { st with seconds := 0, minute := (st.minute + 1) % 1440 }

/-- DEPOT_CLOCK_MINUTE (R176). -/
def execDepotClockMinute (s : State) : Result :=
  onEvent .depotClockMinute s fun s => s.setStore (nextMinute s.store)

/-! ### RESTART -/

/-- The restart events, one to each block that takes one (R178). -/
def restartEvents : List Instr :=
  [.rosterRestart] ++ allZones.map .zoneRestart ++ [.fanRestart, .allocatorRestart, .hazardRestart]

/-- RESTART: refused while a zone holds a fire or manual mode; otherwise the restart events are sent (R178). -/
def restartNow (s : State) : State × Status × List Byte :=
  if allZones.any fun z => s.zones[z].mode.refusesRestart then refuse s .notNow else done (s.emit restartEvents) []

/-- RESTART: a request accepted and handed to the Store (R178). -/
def execRestart (s : State) : Result := onRequest .restart 0x3F s restartNow

end Sys2Proof.Machine
end

