-- ==== Sys2Proof/Machine/Port.lean ====
section
/-! DEFINITION. The Supervisory Link Port (chapter 9): the receiving of a frame byte by byte, the checks of a complete frame, the
dispatch of its command to the command's own meaning, and the end of a response. -/

namespace Sys2Proof.Machine

/-! ### Frames that are not commands -/

/-- UNKNOWN_COMMAND: an accepted request whose code is not in the table (R162). -/
def execUnknownCommand (code : Nat) (s : State) : Result :=
  onRequest (.unknownCommand code) code s fun s => refuse s .unknownCommand

/-- BAD_LENGTH: an accepted request whose payload length is not that of its command (R162). -/
def execBadLength (code : Nat) (s : State) : Result :=
  onRequest (.badLength code) code s fun s => refuse s .badLength

/-- REQUEST_FRAME_DISCARDED: no response, the port back in LISTENING; in ANSWERING the bytes are discarded as they come (R161). -/
def execRequestFrameDiscarded (s : State) : Result := onEvent .requestFrameDiscarded s State.dropFrame

/-- FRAME_SILENCE_TIMEOUT: in RECEIVING the frame is discarded as truncated (R161). -/
def execFrameSilenceTimeout (s : State) : Result :=
  onEvent .frameSilenceTimeout s fun s => if s.port.state = .receiving then s.dropFrame else s

/-- RESPONSE_SENT: the last byte of the response has left and the port returns to LISTENING (R161, R162, log entry 12). -/
def execResponseSent (s : State) : Result :=
  onEvent .responseSent s fun s =>
    if s.port.state = .answering then s.setPort { s.port with state := .listening, buffer := [] } else s

/-! ### Complete frames -/

/-- The number in the payload field at an offset, of a width in bytes, most significant byte first (R160). -/
def fieldAt (payload : List Byte) (offset width : Nat) : Nat := numberOf ((payload.drop offset).take width)

/-- A WRITE-CONFIG by its item: the items with a row of their own go to it (R164). -/
def takeWriteConfig (item index value : Nat) (s : State) : Result :=
  match item with
  | 1 => execWindowBaseWrite index value s
  | 2 => execTailLengthWrite index value s
  | 13 => execGasLevelWrite .coHigh index value s
  | 14 => execGasLevelWrite .coClear index value s
  | 15 => execGasLevelWrite .no2High index value s
  | 16 => execGasLevelWrite .no2Clear index value s
  | 31 => execFloorCeilingWrite .floor index value s
  | 32 => execFloorCeilingWrite .ceiling index value s
  | 37 => execAdjacencyWrite index value s
  | 38 => execContactEnabledWrite index value s
  | 40 => execStallMapWrite .enabled index value s
  | 41 => execStallMapWrite .zone index value s
  | 50 => execChannelPlacementWrite .role index value s
  | 51 => execChannelPlacementWrite .feed index value s
  | 52 => execChannelPlacementWrite .ratedFlow index value s
  | 55 => execMinimumSpeedWrite index value s
  | _ => execWriteConfig item index value s

/-- The command of a code of the table with a payload of its request length, its fields in the order R164 gives. -/
def takeCommand (code : Nat) (p : List Byte) (s : State) : Result :=
  match code with
  | 0x01 => execIdentify s
  | 0x02 => execReadClock s
  | 0x03 => execSetClock (fieldAt p 0 2) s
  | 0x10 =>
    execArrive (fieldAt p 0 2) (fieldAt p 2 2) (fieldAt p 4 1) (fieldAt p 5 1) (fieldAt p 6 1) (fieldAt p 7 2) s
  | 0x11 => execRelocate (fieldAt p 0 2) (fieldAt p 2 2) s
  | 0x12 => execActivity (fieldAt p 0 2) (fieldAt p 2 1) s
  | 0x13 => execRenew (fieldAt p 0 2) s
  | 0x14 => execSetDeparture (fieldAt p 0 2) (fieldAt p 2 2) s
  | 0x15 => execDepart (fieldAt p 0 2) s
  | 0x18 => execReadStall (fieldAt p 0 2) s
  | 0x19 => execFindTag (fieldAt p 0 2) s
  | 0x1A => execWalkFirst (fieldAt p 0 2) s
  | 0x1B => execWalkNext s
  | 0x20 => execReadZone (fieldAt p 0 1) s
  | 0x21 => execReadFan (fieldAt p 0 1) s
  | 0x22 => execReadHead (fieldAt p 0 1) s
  | 0x23 => execReadDamper (fieldAt p 0 1) (fieldAt p 1 1) s
  | 0x24 => execReadLink s
  | 0x28 => execReadHazards (fieldAt p 0 1) s
  | 0x29 => execAcknowledge (fieldAt p 0 2) s
  | 0x2A => execAcknowledgeAll s
  | 0x30 => execFanService (fieldAt p 0 1) (fieldAt p 1 1) s
  | 0x38 => takeWriteConfig (fieldAt p 0 1) (fieldAt p 1 1) (fieldAt p 2 2) s
  | 0x39 => execReadConfig (fieldAt p 0 1) (fieldAt p 1 1) s
  | 0x3A => execSaveConfig s
  | 0x3E => execFireReset s
  | 0x3F => execRestart s
  | _ => execUnknownCommand code s

/-- An accepted request is dispatched: first its code, then its payload length, then the command itself (R162). -/
def dispatchRequest (code : Nat) (payload : List Byte) (s : State) : Result :=
  match requestLength code with
  | none => execUnknownCommand code s
  | some n => if payload.length = n then takeCommand code payload s else execBadLength code s

/-- The bytes a check sequence covers: from the address to the end of the payload (R160). -/
def checkedBytes (frame : List Byte) : List Byte := (frame.drop 1).take (frame.length - 3)

/-- The two check bytes of a frame (R160). -/
def checkBytes (frame : List Byte) : Nat := numberOf (frame.drop (frame.length - 2))

/-- The check sequence of a complete frame holds (R160). -/
def frameChecks (frame : List Byte) : Bool := (crc16 (checkedBytes frame)).toNat == checkBytes frame

/-- The payload of a complete frame (R160). -/
def framePayload (frame : List Byte) : List Byte := (frame.drop 4).take (frame.length - 6)

/-- A complete frame is checked: its check sequence, then its address; a broadcast is taken by R163, a request by R162 (R161). -/
def takeFrame (frame : List Byte) (s : State) : Result :=
  let address := fieldAt frame 1 1
  let code := fieldAt frame 2 1
  if !frameChecks frame then execRequestFrameDiscarded s
  else if address = 0 then execBroadcastSetClock code (framePayload frame) s
  else if address = s.port.address then dispatchRequest code (framePayload frame) s
  else execRequestFrameDiscarded s

/-- A frame of these bytes is complete: its payload length places its last check byte (R160, R161). -/
def frameComplete (frame : List Byte) : Bool := decide (5 ≤ frame.length) && frame.length == fieldAt frame 3 1 + 6

/-- The byte just stored is a payload length above 64 (R161). -/
def overlong (frame : List Byte) : Bool := frame.length == 4 && decide (Config.maxPayload < fieldAt frame 3 1)

/-- A byte in RECEIVING: it discards an overlong frame, completes the frame, or is stored (R161). -/
def receiveByte (b : Byte) (s : State) : Result :=
  let frame := s.port.buffer ++ [b]
  if overlong frame then execRequestFrameDiscarded s
  else if frameComplete frame then takeFrame frame s
  else .next (s.setPort { s.port with buffer := frame })

/-- SUPERVISORY_BYTE_RECEIVED, by the table of R161. A byte that completes a frame is the frame's own step (log entry 11). -/
def execSupervisoryByteReceived (b : Byte) (s : State) : Result :=
  let t := s.taken (.supervisoryByteReceived b)
  if !s.powered then .next t
  else
    match s.port.state with
    | .listening =>
      .next (if b = 0x3C#8 then t.setPort { t.port with state := .receiving, buffer := [b] } else t)
    | .receiving => receiveByte b t
    | .answering => .next t

end Sys2Proof.Machine
end

