-- ==== Sys2Proof/Machine/Start.lean ====
section
/-! DEFINITION. Power-on, the release of the external reset line, and the loss of the supply (10.4, R174, R175): the starting state every
block takes up from the non-volatile copy and the pins. -/

namespace Sys2Proof.Machine

/-- The configuration loaded from the non-volatile copy, and the defaulted flag (R175). -/
def loaded : NvCopy → Cfg × Bool
  | .image cfg => (cfg, false)
  | .blank | .unreadable => (Cfg.factory, true)

/-- The non-volatile copy after a save in progress is cut off: it fails its check (R174). -/
def cutSave (st : ConfigStore) : NvCopy := if st.saving.isSome then .unreadable else st.nv

/-- A damper set from its switch reading (R99). -/
def startingDamper (timeout : Nat) : SwitchReading → DamperRecord
  | .fullyOpen => DamperRecord.resting .opened
  | .fullyClosed => DamperRecord.resting .closed
  | .between => { DamperRecord.resting .closing with request := .close, timer := some timeout }

/-- A gate at power-on: in use for a STANDBY channel and set from its feedback (R106). -/
def startingGate (role : Role) (band : GateBand) : GateRecord :=
  match role with
  | .standby _ => gateFromFeedback band .off
  | .zone _ | .unused => GateRecord.unused

/-- A contact input at power-on: the state of its first reading, or DISABLED (R147). -/
def startingContact (enabled : Bool) (ohms : Nat) : ContactState :=
  if enabled then stateOfBand (bandOf ohms) else .disabled

/-- The Fire Interface at power-on, with the latches of the zones whose input is in ALARM set (R147). -/
def startingFire (cfg : Cfg) (pins : Pins) : FireInterface :=
  let states := Vector.ofFn fun z : Zone => startingContact cfg.zones[z].contactEnabled pins.loopOhms[z]
  { contacts := Vector.ofFn fun z : Zone => ContactInput.resting states[z]
    latches := Vector.ofFn fun z : Zone => states[z] == .alarm
    commands := Vector.replicate 8 none, link := .hearing, heard := none, hearingTimer := none, stateTimer := none,
    supervision := none, capability := none, linkLost := false, lostCondition := false, sentWord := none }

/-- What the Fire Interface sends at power-on (R147). -/
def startingFireReports (f : FireInterface) : List Instr :=
  allZones.flatMap fun z =>
    match f.contacts[z].state with
    | .alarm => [.conditionActiveReport .fire z.val, .evaluationRequest z]
    | .lineFault => [.conditionActiveReport .fireInputFault z.val]
    | .normal | .disabled => []

/-- The Sensor Line Controller at power-on, its first cycle begun (R120, R121). -/
def startingSensors (cfg : Cfg) : SensorLine :=
  { heads := Vector.ofFn fun h : HeadAddr => HeadRecord.initial cfg.heads[h]
    zoneBlind := Vector.replicate 8 false
    due := allHeads.filter fun h => cfg.heads[h].isSome
    window := none
    cycleTimer := Config.pollCycleSeconds }

/-- The Configuration Store at power-on (R174 to R176). -/
def startingStore (st : ConfigStore) : ConfigStore :=
  let nv := cutSave st
  { cfg := (loaded nv).1, nv := nv, saving := none, lastSave := .none, defaulted := (loaded nv).2, minute := 0, seconds := 0,
    clockSet := false }

/-- The port at power-on: LISTENING, the straps read (R159, R161). -/
def startingPort (pins : Pins) : LinkPort :=
  { state := .listening, buffer := [], response := none, address := pins.addressSwitches, fastBaud := pins.fastBaudStrap }

/-- The starting state that power-on and the release of the reset line bring the module to (R177). What is kept is the non-volatile copy,
the pins, and the commands still waiting. -/
def startingState (s : State) : State :=
  let store := startingStore s.store
  let cfg := store.cfg
  let fire := startingFire cfg s.pins
  let sensors := startingSensors cfg
  { powered := true
    roster := Roster.initial
    zones := Vector.ofFn fun z : Zone => ZoneUnit.initial cfg.zones[z].quietEntry
    fans := Vector.replicate 16 FanRecord.initial
    queueA := StartQueue.initial
    queueB := StartQueue.initial
    dampers := Vector.ofFn fun z : Zone => startingDamper cfg.zones[z].damperTimeout (reading s z)
    gates := Vector.ofFn fun c : Chan => startingGate cfg.channels[c].role s.pins.feedback[c]
    alloc := Allocator.initial
    sensors := sensors
    fire := fire
    hazards := HazardList.initial
    port := startingPort s.pins
    store := store
    pins := s.pins
    inFlight :=
      allZones.map .stallSumRequest ++ startingFireReports fire ++ (if sensors.due.isEmpty then [] else [.headPoll])
    pending := s.pending }

/-- POWER_ON (R177). -/
def execPowerOn (s : State) : Result := .next (startingState s)

/-- RESET_LINE_RELEASE: the same starting state (R177). -/
def execResetLineRelease (s : State) : Result := .next (startingState s)

/-- POWER_LOSS, or the reset line asserted: the module stops, what its blocks had sent is lost, and a save in progress leaves a copy that
fails its check (R174, log entry 9). -/
def execPowerLoss (s : State) : Result :=
  .next
    (({ s with powered := false, inFlight := [] } : State).setStore { s.store with nv := cutSave s.store, saving := none })

end Sys2Proof.Machine
end

