-- ==== Sys2Proof/Machine/Dispatch.lean ====
section
/-! DEFINITION. The dispatch of each command and event to its meaning, one arm per constructor of Instr. -/

namespace Sys2Proof.Machine

/-- The effect of a command or event on everything but the queue. -/
def exec (i : Instr) (s : State) : Host.Outcome State Fault Refusal :=
  match i with
  | .powerOn => Sys2Proof.Machine.execPowerOn s
  | .resetLineRelease => Sys2Proof.Machine.execResetLineRelease s
  | .depotClockMinute => Sys2Proof.Machine.execDepotClockMinute s
  | .frameSilenceTimeout => Sys2Proof.Machine.execFrameSilenceTimeout s
  | .requestFrameDiscarded => Sys2Proof.Machine.execRequestFrameDiscarded s
  | .unknownCommand code => Sys2Proof.Machine.execUnknownCommand code s
  | .badLength code => Sys2Proof.Machine.execBadLength code s
  | .responseSent => Sys2Proof.Machine.execResponseSent s
  | .broadcastSetClock code payload => Sys2Proof.Machine.execBroadcastSetClock code payload s
  | .identify => Sys2Proof.Machine.execIdentify s
  | .readClock => Sys2Proof.Machine.execReadClock s
  | .setClock minute => Sys2Proof.Machine.execSetClock minute s
  | .arrive label tag cls act charger departure => Sys2Proof.Machine.execArrive label tag cls act charger departure s
  | .relocate tag newLabel => Sys2Proof.Machine.execRelocate tag newLabel s
  | .activity label act => Sys2Proof.Machine.execActivity label act s
  | .renew label => Sys2Proof.Machine.execRenew label s
  | .setDeparture label departure => Sys2Proof.Machine.execSetDeparture label departure s
  | .depart label => Sys2Proof.Machine.execDepart label s
  | .readStall label => Sys2Proof.Machine.execReadStall label s
  | .findTag tag => Sys2Proof.Machine.execFindTag tag s
  | .walkFirst label => Sys2Proof.Machine.execWalkFirst label s
  | .walkNext => Sys2Proof.Machine.execWalkNext s
  | .allowanceExpiry stall => Sys2Proof.Machine.execAllowanceExpiry stall s
  | .stallSumRequest zone => Sys2Proof.Machine.execStallSumRequest zone s
  | .rosterRestart => Sys2Proof.Machine.execRosterRestart s
  | .evaluationTimerExpiry zone => Sys2Proof.Machine.execEvaluationTimerExpiry zone s
  | .evaluationRequest zone => Sys2Proof.Machine.execEvaluationRequest zone s
  | .evaluationComplete zone answer => Sys2Proof.Machine.execEvaluationComplete zone answer s
  | .clearDelayRunOut zone => Sys2Proof.Machine.execClearDelayRunOut zone s
  | .quietEntryTimerExpiry zone => Sys2Proof.Machine.execQuietEntryTimerExpiry zone s
  | .pulseTimerExpiry zone => Sys2Proof.Machine.execPulseTimerExpiry zone s
  | .spaceTimerExpiry zone => Sys2Proof.Machine.execSpaceTimerExpiry zone s
  | .zoneRestart zone => Sys2Proof.Machine.execZoneRestart zone s
  | .standbyClearedReport zone => Sys2Proof.Machine.execStandbyClearedReport zone s
  | .fanTargets zone targets => Sys2Proof.Machine.execFanTargets zone targets s
  | .standbyOffTarget channel => Sys2Proof.Machine.execStandbyOffTarget channel s
  | .pathCheck channel => Sys2Proof.Machine.execPathCheck channel s
  | .tachGateComplete channel edges => Sys2Proof.Machine.execTachGateComplete channel edges s
  | .startWindowRunOut channel => Sys2Proof.Machine.execStartWindowRunOut channel s
  | .settleTimeExpiry channel => Sys2Proof.Machine.execSettleTimeExpiry channel s
  | .cleanRunExpiry channel => Sys2Proof.Machine.execCleanRunExpiry channel s
  | .rundownLimitExpiry channel => Sys2Proof.Machine.execRundownLimitExpiry channel s
  | .retryWaitExpiry channel => Sys2Proof.Machine.execRetryWaitExpiry channel s
  | .fanService channel setting => Sys2Proof.Machine.execFanService channel setting s
  | .fanRestart => Sys2Proof.Machine.execFanRestart s
  | .fanStateReport channel => Sys2Proof.Machine.execFanStateReport channel s
  | .damperRequest zone request => Sys2Proof.Machine.execDamperRequest zone request s
  | .endSwitchChange zone openSwitch closedSwitch => Sys2Proof.Machine.execEndSwitchChange zone openSwitch closedSwitch s
  | .damperTravelTimeout zone => Sys2Proof.Machine.execDamperTravelTimeout zone s
  | .damperOpenReport zone feed => Sys2Proof.Machine.execDamperOpenReport zone feed s
  | .gateCommand channel target => Sys2Proof.Machine.execGateCommand channel target s
  | .gateFeedbackBandChange channel band => Sys2Proof.Machine.execGateFeedbackBandChange channel band s
  | .gateTravelTimeout channel => Sys2Proof.Machine.execGateTravelTimeout channel s
  | .gateAtReport channel feed => Sys2Proof.Machine.execGateAtReport channel feed s
  | .grantReport channel feed => Sys2Proof.Machine.execGrantReport channel feed s
  | .standbyRequestRaise zone call => Sys2Proof.Machine.execStandbyRequestRaise zone call s
  | .standbyRequestChange zone call => Sys2Proof.Machine.execStandbyRequestChange zone call s
  | .standbyRequestWithdraw zone => Sys2Proof.Machine.execStandbyRequestWithdraw zone s
  | .standbyAvailabilityReport channel leftService => Sys2Proof.Machine.execStandbyAvailabilityReport channel leftService s
  | .gateJamReport channel => Sys2Proof.Machine.execGateJamReport channel s
  | .coverTimerExpiry zone => Sys2Proof.Machine.execCoverTimerExpiry zone s
  | .allocatorRestart => Sys2Proof.Machine.execAllocatorRestart s
  | .pollCycleStart => Sys2Proof.Machine.execPollCycleStart s
  | .headPoll => Sys2Proof.Machine.execHeadPoll s
  | .headReply address status rawCo rawNo2 checkHolds => Sys2Proof.Machine.execHeadReply address status rawCo rawNo2 checkHolds s
  | .replyWindowEnd => Sys2Proof.Machine.execReplyWindowEnd s
  | .holdTimerExpiry head => Sys2Proof.Machine.execHoldTimerExpiry head s
  | .contactBandChange zone ohms => Sys2Proof.Machine.execContactBandChange zone ohms s
  | .contactConfirmationExpiry zone => Sys2Proof.Machine.execContactConfirmationExpiry zone s
  | .panelFrameDiscarded => Sys2Proof.Machine.execPanelFrameDiscarded s
  | .capabilityWord word => Sys2Proof.Machine.execCapabilityWord word s
  | .statusFrame flags => Sys2Proof.Machine.execStatusFrame flags s
  | .fireServiceCommand zone word => Sys2Proof.Machine.execFireServiceCommand zone word s
  | .panelResetWord => Sys2Proof.Machine.execPanelResetWord s
  | .hearingTimerExpiry => Sys2Proof.Machine.execHearingTimerExpiry s
  | .stateTimerExpiry => Sys2Proof.Machine.execStateTimerExpiry s
  | .supervisionTimerExpiry => Sys2Proof.Machine.execSupervisionTimerExpiry s
  | .readLink => Sys2Proof.Machine.execReadLink s
  | .fireReset => Sys2Proof.Machine.execFireReset s
  | .conditionActiveReport kind source => Sys2Proof.Machine.execConditionActiveReport kind source s
  | .conditionClearReport kind source => Sys2Proof.Machine.execConditionClearReport kind source s
  | .readHazards page => Sys2Proof.Machine.execReadHazards page s
  | .acknowledge id => Sys2Proof.Machine.execAcknowledge id s
  | .acknowledgeAll => Sys2Proof.Machine.execAcknowledgeAll s
  | .hazardRestart => Sys2Proof.Machine.execHazardRestart s
  | .readZone zone => Sys2Proof.Machine.execReadZone zone s
  | .readFan channel => Sys2Proof.Machine.execReadFan channel s
  | .readHead address => Sys2Proof.Machine.execReadHead address s
  | .readDamper kind number => Sys2Proof.Machine.execReadDamper kind number s
  | .writeConfig item index value => Sys2Proof.Machine.execWriteConfig item index value s
  | .windowBaseWrite index value => Sys2Proof.Machine.execWindowBaseWrite index value s
  | .tailLengthWrite index value => Sys2Proof.Machine.execTailLengthWrite index value s
  | .stallMapWrite field index value => Sys2Proof.Machine.execStallMapWrite field index value s
  | .floorCeilingWrite field index value => Sys2Proof.Machine.execFloorCeilingWrite field index value s
  | .gasLevelWrite field index value => Sys2Proof.Machine.execGasLevelWrite field index value s
  | .adjacencyWrite index value => Sys2Proof.Machine.execAdjacencyWrite index value s
  | .contactEnabledWrite index value => Sys2Proof.Machine.execContactEnabledWrite index value s
  | .minimumSpeedWrite index value => Sys2Proof.Machine.execMinimumSpeedWrite index value s
  | .channelPlacementWrite field index value => Sys2Proof.Machine.execChannelPlacementWrite field index value s
  | .readConfig item index => Sys2Proof.Machine.execReadConfig item index s
  | .saveConfig => Sys2Proof.Machine.execSaveConfig s
  | .saveComplete readBack => Sys2Proof.Machine.execSaveComplete readBack s
  | .restart => Sys2Proof.Machine.execRestart s
  | .supervisoryByteReceived byte => Sys2Proof.Machine.execSupervisoryByteReceived byte s
  | .powerLoss => Sys2Proof.Machine.execPowerLoss s

end Sys2Proof.Machine
end

