-- ==== Sys2Proof/Machine/Tick.lean ====
section
/-! DEFINITION. What the module does on its own while no command waits (log entries 1 and 5): it takes the reports its blocks have sent,
ends the windows that have passed, and otherwise lets one second go by, counting every timer down and taking the expiries. -/

namespace Sys2Proof.Machine

/-! ### Counting down -/

/-- A timer a second later; one in its last second keeps it until its expiry is taken. -/
def down (n : Nat) : Nat := if n ≤ 1 then n else n - 1

/-- A timer that may not run, a second later. -/
def downIf (t : Option Nat) : Option Nat := t.map down

/-- A timer is in its last second. -/
def inLast (t : Option Nat) : Bool :=
  match t with
  | some n => decide (n ≤ 1)
  | none => false

/-- The allowance of a record a second later (R14). -/
def StallEntry.tick (e : StallEntry) : StallEntry :=
  { e with occupant := e.occupant.map fun o => { o with allowance := downIf o.allowance } }

/-- The clear delay a second later (R58). -/
def ClearDelay.tick : ClearDelay → ClearDelay
  | .running n => .running (down n)
  | .idle => .idle
  | .runOut => .runOut

/-- The quiet timer a second later (R65). -/
def QuietPhase.tick : QuietPhase → QuietPhase
  | .delay n => .delay (down n)
  | .pulse n => .pulse (down n)
  | .space n => .space (down n)
  | .out => .out
  | .due => .due

/-- The timers of a Zone Unit a second later (R32, R58, R65). -/
def ZoneUnit.tick (u : ZoneUnit) : ZoneUnit :=
  { u with evalTimer := down u.evalTimer, clearDelay := u.clearDelay.tick, quiet := u.quiet.tick }

/-- A fan's timer a second later (R79). -/
def FanTimer.tick : FanTimer → FanTimer
  | .startWindow n => .startWindow (down n)
  | .cleanRun n => .cleanRun (down n)
  | .rundown n => .rundown (down n)
  | .retryWait n => .retryWait (down n)

/-- The timers of a fan a second later (R79, R86). -/
def FanRecord.tick (f : FanRecord) : FanRecord := { f with timer := f.timer.map FanTimer.tick, settle := downIf f.settle }

/-- The timers of the Fire Interface a second later; supervision counts tenths (R132, R140 to R142). -/
def FireInterface.tick (f : FireInterface) : FireInterface :=
  { f with
    contacts := f.contacts.map fun c => { c with confirm := downIf c.confirm }
    hearingTimer := downIf f.hearingTimer, stateTimer := downIf f.stateTimer
    supervision := f.supervision.map fun n => if n ≤ 10 then n else n - 10 }

/-- The seconds count of the depot clock a second later; a minute that ends is an event of its own (R176). -/
def ConfigStore.tick (st : ConfigStore) : ConfigStore :=
  if 59 ≤ st.seconds then st else { st with seconds := st.seconds + 1 }

/-- Every timer of the module a second later. -/
def State.tick (s : State) : State :=
  { s with
    roster := { s.roster with stalls := s.roster.stalls.map StallEntry.tick }
    zones := s.zones.map ZoneUnit.tick
    fans := s.fans.map FanRecord.tick
    dampers := s.dampers.map fun d => { d with timer := downIf d.timer }
    gates := s.gates.map fun g => { g with timer := downIf g.timer }
    alloc := { s.alloc with requests := s.alloc.requests.map fun e => { e with cover := downIf e.cover } }
    sensors :=
      { s.sensors with
        heads := s.sensors.heads.map fun r => { r with hold := downIf r.hold }
        cycleTimer := down s.sensors.cycleTimer }
    fire := s.fire.tick
    store := s.store.tick }

/-! ### Expiries -/

/-- The expiry of a fan's timer in its last second (R85 to R89). -/
def fanExpiry (c : Chan) : Option FanTimer → List Instr
  | some (.startWindow n) => if n ≤ 1 then [.startWindowRunOut c] else []
  | some (.cleanRun n) => if n ≤ 1 then [.cleanRunExpiry c] else []
  | some (.rundown n) => if n ≤ 1 then [.rundownLimitExpiry c] else []
  | some (.retryWait n) => if n ≤ 1 then [.retryWaitExpiry c] else []
  | none => []

/-- The expiry of a quiet timer in its last second (R65). -/
def quietExpiry (z : Zone) : QuietPhase → List Instr
  | .delay n => if n ≤ 1 then [.quietEntryTimerExpiry z] else []
  | .pulse n => if n ≤ 1 then [.pulseTimerExpiry z] else []
  | .space n => if n ≤ 1 then [.spaceTimerExpiry z] else []
  | .out | .due => []

/-- The run-out of a clear delay in its last second (R58). -/
def clearExpiry (z : Zone) : ClearDelay → List Instr
  | .running n => if n ≤ 1 then [.clearDelayRunOut z] else []
  | .idle | .runOut => []

/-- The allowance a stall's record has left (R14). -/
def allowanceAt (s : State) (i : StallIdx) : Option Nat := s.roster.stalls[i].occupant.bind Occupant.allowance

/-- The cover timer of a zone's request (R117). -/
def coverOf (s : State) (z : Zone) : Option Nat := (requestOf s.alloc.requests z).bind StandbyEntry.cover

/-- The expiries of a zone's own timers: its unit's, its damper's, its request's and its contact's. -/
def zoneExpiries (s : State) (z : Zone) : List Instr :=
  (if s.zones[z].evalTimer ≤ 1 then [.evaluationTimerExpiry z] else []) ++ clearExpiry z s.zones[z].clearDelay ++
    quietExpiry z s.zones[z].quiet ++ (if inLast s.dampers[z].timer then [.damperTravelTimeout z] else []) ++
    (if inLast (coverOf s z) then [.coverTimerExpiry z] else []) ++
    (if inLast s.fire.contacts[z].confirm then [.contactConfirmationExpiry z] else [])

/-- The expiries of a channel's timers: its fan's and its gate's. -/
def chanExpiries (s : State) (c : Chan) : List Instr :=
  fanExpiry c s.fans[c].timer ++ (if inLast s.fans[c].settle then [.settleTimeExpiry c] else []) ++
    (if inLast s.gates[c].timer then [.gateTravelTimeout c] else [])

/-- The expiries of the panel link's timers. -/
def linkExpiries (f : FireInterface) : List Instr :=
  (if inLast f.hearingTimer then [.hearingTimerExpiry] else []) ++ (if inLast f.stateTimer then [.stateTimerExpiry] else []) ++
    match f.supervision with
    | some n => if n ≤ 10 then [.supervisionTimerExpiry] else []
    | none => []

/-- Every expiry due in the second that passes, in the order of log entry 5. -/
def expiries (s : State) : List Instr :=
  (if 59 ≤ s.store.seconds then [.depotClockMinute] else []) ++
    (allStalls.filter fun i => inLast (allowanceAt s i)).map .allowanceExpiry ++ allZones.flatMap (zoneExpiries s) ++
    allChans.flatMap (chanExpiries s) ++ (allHeads.filter fun h => inLast s.sensors.heads[h].hold).map .holdTimerExpiry ++
    linkExpiries s.fire ++ (if s.sensors.cycleTimer ≤ 1 then [.pollCycleStart] else [])

/-- Events taken one after another. -/
def takeEach : List Instr → State → Result
  | [], s => .next s
  | i :: rest, s =>
    match exec i s with
    | .next t => takeEach rest t
    | .fault f => .fault f
    | .refused r => .refused r

/-- One second passes: the timers count down, and the expiries that fall due are taken. -/
def passSecond (s : State) : Result := takeEach (expiries s) s.tick

/-- What a step does when no command waits (log entry 1). -/
def idle (s : State) : Result :=
  if !s.powered then .next s
  else
    match s.inFlight with
    | i :: _ => exec i s
    | [] =>
      if s.sensors.window.isSome then exec .replyWindowEnd s
      else if s.port.state = .receiving then exec .frameSilenceTimeout s
      else passSecond s

end Sys2Proof.Machine
end

