-- ==== Sys2Proof/Safety.lean ====
section
/-! DEFINITION. What the claims speak of: the parts of the state a step may change, a module ready for a request, an
answer on the link, and the laws of each block (the manual's laws of the device, and the agreement of a block's own fields). -/

namespace Sys2Proof.Machine

/-! ### Frames -/

/-- The parts of the state, one for each of its fields. -/
inductive Part where
  | powered | roster | zones | fans | queueA | queueB | dampers | gates | alloc | sensors | fire | hazards | port | store | pins
  | inFlight | pending
  deriving DecidableEq, Repr

/-- A part reads the same in two states. -/
def samePart (s t : State) : Part → Prop
  | .powered => t.powered = s.powered
  | .roster => t.roster = s.roster
  | .zones => t.zones = s.zones
  | .fans => t.fans = s.fans
  | .queueA => t.queueA = s.queueA
  | .queueB => t.queueB = s.queueB
  | .dampers => t.dampers = s.dampers
  | .gates => t.gates = s.gates
  | .alloc => t.alloc = s.alloc
  | .sensors => t.sensors = s.sensors
  | .fire => t.fire = s.fire
  | .hazards => t.hazards = s.hazards
  | .port => t.port = s.port
  | .store => t.store = s.store
  | .pins => t.pins = s.pins
  | .inFlight => t.inFlight = s.inFlight
  | .pending => t.pending = s.pending

/-- Every part outside a list is the same in two states. -/
def onlyChanges (parts : List Part) (s t : State) : Prop := ∀ p, p ∉ parts → samePart s t p

/-- Reports and requests were sent by an event: the event itself is no longer on its way, and these follow what was (5.5). -/
def sent (c : Instr) (s t : State) (l : List Instr) : Prop := t.inFlight = s.inFlight.erase c ++ l

/-- The parts of the state that a command or event may change (section 2.2: each block alone changes its own state, and every exchange
between blocks is a separate event). -/
def touches : Instr → List Part
  | .powerOn | .resetLineRelease =>
      [.powered, .roster, .zones, .fans, .queueA, .queueB, .dampers, .gates, .alloc, .sensors, .fire, .hazards, .port, .store,
       .inFlight]
  | .powerLoss => [.powered, .store, .inFlight]
  | .depotClockMinute | .saveComplete _ => [.store, .inFlight]
  | .frameSilenceTimeout | .requestFrameDiscarded | .responseSent | .unknownCommand _ | .badLength _ | .identify | .readClock
  | .readStall _ | .findTag _ | .readZone _ | .readFan _ | .readHead _ | .readDamper _ _ | .readHazards _ | .readConfig _ _
  | .restart => [.port, .inFlight]
  | .broadcastSetClock _ _ | .setClock _ | .windowBaseWrite _ _ | .stallMapWrite _ _ _ | .floorCeilingWrite _ _ _
  | .gasLevelWrite _ _ _ | .adjacencyWrite _ _ | .channelPlacementWrite _ _ _ | .saveConfig => [.store, .port, .inFlight]
  | .arrive _ _ _ _ _ _ | .relocate _ _ | .activity _ _ | .renew _ | .setDeparture _ _ | .depart _ | .walkFirst _
  | .walkNext => [.roster, .port, .inFlight]
  | .allowanceExpiry _ | .stallSumRequest _ | .rosterRestart => [.roster, .inFlight]
  | .evaluationTimerExpiry _ | .evaluationRequest _ | .evaluationComplete _ _ | .clearDelayRunOut _
  | .quietEntryTimerExpiry _ | .pulseTimerExpiry _ | .spaceTimerExpiry _ | .zoneRestart _ | .standbyClearedReport _ =>
      [.zones, .inFlight]
  | .fanTargets _ _ | .standbyOffTarget _ | .pathCheck _ | .tachGateComplete _ _ | .startWindowRunOut _
  | .rundownLimitExpiry _ | .retryWaitExpiry _ | .damperOpenReport _ _ | .gateAtReport _ _ | .grantReport _ _ =>
      [.fans, .queueA, .queueB, .dampers, .gates, .inFlight]
  | .fanService _ _ => [.fans, .queueA, .queueB, .dampers, .gates, .port, .inFlight]
  | .settleTimeExpiry _ | .cleanRunExpiry _ | .fanRestart => [.fans, .inFlight]
  | .fanStateReport _ => [.dampers, .gates, .inFlight]
  | .damperRequest _ _ | .damperTravelTimeout _ => [.dampers, .inFlight]
  | .endSwitchChange _ _ _ => [.dampers, .pins, .inFlight]
  | .gateCommand _ _ | .gateTravelTimeout _ => [.gates, .inFlight]
  | .gateFeedbackBandChange _ _ => [.gates, .pins, .inFlight]
  | .standbyRequestRaise _ _ | .standbyRequestChange _ _ | .standbyRequestWithdraw _ | .standbyAvailabilityReport _ _
  | .gateJamReport _ | .coverTimerExpiry _ | .allocatorRestart => [.alloc, .inFlight]
  | .pollCycleStart | .headPoll | .headReply _ _ _ _ _ | .replyWindowEnd | .holdTimerExpiry _ => [.sensors, .inFlight]
  | .contactBandChange _ _ => [.fire, .pins, .inFlight]
  | .contactConfirmationExpiry _ | .panelFrameDiscarded | .capabilityWord _ | .statusFrame _ | .fireServiceCommand _ _
  | .panelResetWord | .hearingTimerExpiry | .stateTimerExpiry | .supervisionTimerExpiry => [.fire, .inFlight]
  | .readLink | .fireReset => [.fire, .port, .inFlight]
  | .conditionActiveReport _ _ | .conditionClearReport _ _ | .hazardRestart => [.hazards, .inFlight]
  | .acknowledge _ | .acknowledgeAll => [.hazards, .port, .inFlight]
  | .tailLengthWrite _ _ => [.roster, .store, .port, .inFlight]
  | .contactEnabledWrite _ _ => [.fire, .store, .port, .inFlight]
  | .minimumSpeedWrite _ _ => [.fans, .store, .port, .inFlight]
  | .writeConfig _ _ _ => [.roster, .fans, .fire, .store, .port, .inFlight]
  | .supervisoryByteReceived _ =>
      [.roster, .fans, .queueA, .queueB, .dampers, .gates, .fire, .hazards, .store, .port, .inFlight]

/-! ### The passing of a second -/

/-- A timer a second later: one in its last second keeps it until its expiry is taken (log entry 5). -/
def secondLater (n : Nat) : Nat := if n ≤ 1 then n else n - 1

/-- A clear delay a second later (R58). -/
def delayLater : ClearDelay → ClearDelay
  | .running n => .running (secondLater n)
  | d => d

/-- A quiet timer a second later (R65). -/
def quietLater : QuietPhase → QuietPhase
  | .delay n => .delay (secondLater n)
  | .pulse n => .pulse (secondLater n)
  | .space n => .space (secondLater n)
  | q => q

/-- A fan's timer a second later (R79). -/
def fanTimerLater : FanTimer → FanTimer
  | .startWindow n => .startWindow (secondLater n)
  | .cleanRun n => .cleanRun (secondLater n)
  | .rundown n => .rundown (secondLater n)
  | .retryWait n => .retryWait (secondLater n)

/-- Every timer of the module stands a second later, and nothing else changed (log entry 5). -/
def countedDown (s u : State) : Prop :=
  onlyChanges [.roster, .zones, .fans, .dampers, .gates, .alloc, .sensors, .fire, .store] s u ∧
    u.roster.cursor = s.roster.cursor ∧
    (∀ i : StallIdx, u.roster.stalls[i] =
      { s.roster.stalls[i] with
        occupant := s.roster.stalls[i].occupant.map fun o => { o with allowance := o.allowance.map secondLater } }) ∧
    (∀ z : Zone,
      u.zones[z] =
        { s.zones[z] with
          evalTimer := secondLater s.zones[z].evalTimer, clearDelay := delayLater s.zones[z].clearDelay
          quiet := quietLater s.zones[z].quiet } ∧
      u.dampers[z] = { s.dampers[z] with timer := s.dampers[z].timer.map secondLater }) ∧
    (∀ c : Chan,
      u.fans[c] =
        { s.fans[c] with timer := s.fans[c].timer.map fanTimerLater, settle := s.fans[c].settle.map secondLater } ∧
      u.gates[c] = { s.gates[c] with timer := s.gates[c].timer.map secondLater }) ∧
    u.alloc = { s.alloc with requests := s.alloc.requests.map fun e => { e with cover := e.cover.map secondLater } } ∧
    (∀ h : HeadAddr, u.sensors.heads[h] = { s.sensors.heads[h] with hold := s.sensors.heads[h].hold.map secondLater }) ∧
    u.sensors = { s.sensors with heads := u.sensors.heads, cycleTimer := secondLater s.sensors.cycleTimer } ∧
    (∀ z : Zone, u.fire.contacts[z] = { s.fire.contacts[z] with confirm := s.fire.contacts[z].confirm.map secondLater }) ∧
    u.fire =
      { s.fire with
        contacts := u.fire.contacts, hearingTimer := s.fire.hearingTimer.map secondLater
        stateTimer := s.fire.stateTimer.map secondLater
        supervision := s.fire.supervision.map fun n => if n ≤ 10 then n else n - 10 } ∧
    u.store = { s.store with seconds := if 59 ≤ s.store.seconds then s.store.seconds else s.store.seconds + 1 }

/-- An expiry falls due in the second that passes: its timer runs and is in its last second (R14, R32, R58, R65, R79, R86, R99, R106, R117,
R121, R126, R132, R140 to R142, R176). -/
def fallsDue (s : State) : Instr → Prop
  | .depotClockMinute => 59 ≤ s.store.seconds
  | .allowanceExpiry i => ∃ o n, s.roster.stalls[i].occupant = some o ∧ o.allowance = some n ∧ n ≤ 1
  | .evaluationTimerExpiry z => s.zones[z].evalTimer ≤ 1
  | .clearDelayRunOut z => ∃ n, s.zones[z].clearDelay = .running n ∧ n ≤ 1
  | .quietEntryTimerExpiry z => ∃ n, s.zones[z].quiet = .delay n ∧ n ≤ 1
  | .pulseTimerExpiry z => ∃ n, s.zones[z].quiet = .pulse n ∧ n ≤ 1
  | .spaceTimerExpiry z => ∃ n, s.zones[z].quiet = .space n ∧ n ≤ 1
  | .damperTravelTimeout z => ∃ n, s.dampers[z].timer = some n ∧ n ≤ 1
  | .coverTimerExpiry z =>
      ∃ e n, (s.alloc.requests.find? fun e => e.zone == z) = some e ∧ e.cover = some n ∧ n ≤ 1
  | .contactConfirmationExpiry z => ∃ n, s.fire.contacts[z].confirm = some n ∧ n ≤ 1
  | .startWindowRunOut c => ∃ n, s.fans[c].timer = some (.startWindow n) ∧ n ≤ 1
  | .cleanRunExpiry c => ∃ n, s.fans[c].timer = some (.cleanRun n) ∧ n ≤ 1
  | .rundownLimitExpiry c => ∃ n, s.fans[c].timer = some (.rundown n) ∧ n ≤ 1
  | .retryWaitExpiry c => ∃ n, s.fans[c].timer = some (.retryWait n) ∧ n ≤ 1
  | .settleTimeExpiry c => ∃ n, s.fans[c].settle = some n ∧ n ≤ 1
  | .gateTravelTimeout c => ∃ n, s.gates[c].timer = some n ∧ n ≤ 1
  | .holdTimerExpiry h => ∃ n, s.sensors.heads[h].hold = some n ∧ n ≤ 1
  | .hearingTimerExpiry => ∃ n, s.fire.hearingTimer = some n ∧ n ≤ 1
  | .stateTimerExpiry => ∃ n, s.fire.stateTimer = some n ∧ n ≤ 1
  | .supervisionTimerExpiry => ∃ n, s.fire.supervision = some n ∧ n ≤ 10
  | .pollCycleStart => s.sensors.cycleTimer ≤ 1
  | _ => False

/-- The place of an expiry among those of one second (log entry 5): the clock, the stalls, the zones, the channels, the heads, the panel link, the
polling cycle, each ascending. -/
def duePlace : Instr → Nat
  | .depotClockMinute => 0
  | .allowanceExpiry i => 1 + i.val
  | .evaluationTimerExpiry z => 100 + 10 * z.val
  | .clearDelayRunOut z => 101 + 10 * z.val
  | .quietEntryTimerExpiry z | .pulseTimerExpiry z | .spaceTimerExpiry z => 102 + 10 * z.val
  | .damperTravelTimeout z => 103 + 10 * z.val
  | .coverTimerExpiry z => 104 + 10 * z.val
  | .contactConfirmationExpiry z => 105 + 10 * z.val
  | .startWindowRunOut c | .cleanRunExpiry c | .rundownLimitExpiry c | .retryWaitExpiry c => 200 + 10 * c.val
  | .settleTimeExpiry c => 201 + 10 * c.val
  | .gateTravelTimeout c => 202 + 10 * c.val
  | .holdTimerExpiry h => 400 + h.val
  | .hearingTimerExpiry => 500
  | .stateTimerExpiry => 501
  | .supervisionTimerExpiry => 502
  | _ => 503

/-- Events taken one after another lead from one state to another. -/
def takenInTurn : List Instr → State → State → Prop
  | [], s, t => t = s
  | i :: rest, s, t => ∃ u, exec i s = .next u ∧ takenInTurn rest u t

/-! ### The supervisory link -/

/-- The module runs and its port can accept a request addressed to it (R159, R161). -/
def ready (s : State) : Prop := s.powered = true ∧ s.port.state ≠ .answering ∧ s.port.address ≠ 0

/-- The port holds an answer and is ANSWERING (R161, R162). -/
def answering (s t : State) (code : Nat) (status : Status) (payload : List Byte) : Prop :=
  t.port = { s.port with state := .answering, buffer := [], response := some { code := code, status := status, payload := payload } }

/-- The commands of the command table: rows a request frame of the host brings (R164). -/
def isRequest : Instr → Bool
  | .unknownCommand _ | .badLength _ | .identify | .readClock | .setClock _ | .arrive _ _ _ _ _ _ | .relocate _ _
  | .activity _ _ | .renew _ | .setDeparture _ _ | .depart _ | .readStall _ | .findTag _ | .walkFirst _ | .walkNext
  | .fanService _ _ | .readLink | .fireReset | .readHazards _ | .acknowledge _ | .acknowledgeAll | .readZone _ | .readFan _
  | .readHead _ | .readDamper _ _ | .writeConfig _ _ _ | .windowBaseWrite _ _ | .tailLengthWrite _ _ | .stallMapWrite _ _ _
  | .floorCeilingWrite _ _ _ | .gasLevelWrite _ _ _ | .adjacencyWrite _ _ | .contactEnabledWrite _ _
  | .minimumSpeedWrite _ _ | .channelPlacementWrite _ _ _ | .readConfig _ _ | .saveConfig | .restart => true
  | .powerOn | .resetLineRelease | .depotClockMinute | .frameSilenceTimeout | .requestFrameDiscarded | .responseSent
  | .broadcastSetClock _ _ | .allowanceExpiry _ | .stallSumRequest _ | .rosterRestart | .evaluationTimerExpiry _
  | .evaluationRequest _ | .evaluationComplete _ _ | .clearDelayRunOut _ | .quietEntryTimerExpiry _ | .pulseTimerExpiry _
  | .spaceTimerExpiry _ | .zoneRestart _ | .standbyClearedReport _ | .fanTargets _ _ | .standbyOffTarget _ | .pathCheck _
  | .tachGateComplete _ _ | .startWindowRunOut _ | .settleTimeExpiry _ | .cleanRunExpiry _ | .rundownLimitExpiry _
  | .retryWaitExpiry _ | .fanRestart | .fanStateReport _ | .damperRequest _ _ | .endSwitchChange _ _ _
  | .damperTravelTimeout _ | .damperOpenReport _ _ | .gateCommand _ _ | .gateFeedbackBandChange _ _ | .gateTravelTimeout _
  | .gateAtReport _ _ | .grantReport _ _ | .standbyRequestRaise _ _ | .standbyRequestChange _ _ | .standbyRequestWithdraw _
  | .standbyAvailabilityReport _ _ | .gateJamReport _ | .coverTimerExpiry _ | .allocatorRestart | .pollCycleStart | .headPoll
  | .headReply _ _ _ _ _ | .replyWindowEnd | .holdTimerExpiry _ | .contactBandChange _ _ | .contactConfirmationExpiry _
  | .panelFrameDiscarded | .capabilityWord _ | .statusFrame _ | .fireServiceCommand _ _ | .panelResetWord
  | .hearingTimerExpiry | .stateTimerExpiry | .supervisionTimerExpiry | .conditionActiveReport _ _ | .conditionClearReport _ _
  | .hazardRestart | .saveComplete _ | .supervisoryByteReceived _ | .powerLoss => false

/-- The code and payload of the request that brings a command, its fields in the order R164 gives (R160, R164, R171, 10.1); none for an event
that no request brings. -/
def requestBytes : Instr → Option (Nat × List Byte)
  | .identify => some (0x01, [])
  | .readClock => some (0x02, [])
  | .setClock minute => some (0x03, bytesOf 2 minute)
  | .arrive label tag cls act charger departure =>
      some (0x10, bytesOf 2 label ++ bytesOf 2 tag ++ bytesOf 1 cls ++ bytesOf 1 act ++ bytesOf 1 charger ++ bytesOf 2 departure)
  | .relocate tag label => some (0x11, bytesOf 2 tag ++ bytesOf 2 label)
  | .activity label act => some (0x12, bytesOf 2 label ++ bytesOf 1 act)
  | .renew label => some (0x13, bytesOf 2 label)
  | .setDeparture label departure => some (0x14, bytesOf 2 label ++ bytesOf 2 departure)
  | .depart label => some (0x15, bytesOf 2 label)
  | .readStall label => some (0x18, bytesOf 2 label)
  | .findTag tag => some (0x19, bytesOf 2 tag)
  | .walkFirst label => some (0x1A, bytesOf 2 label)
  | .walkNext => some (0x1B, [])
  | .readZone zone => some (0x20, bytesOf 1 zone)
  | .readFan channel => some (0x21, bytesOf 1 channel)
  | .readHead address => some (0x22, bytesOf 1 address)
  | .readDamper kind number => some (0x23, bytesOf 1 kind ++ bytesOf 1 number)
  | .readLink => some (0x24, [])
  | .readHazards page => some (0x28, bytesOf 1 page)
  | .acknowledge id => some (0x29, bytesOf 2 id)
  | .acknowledgeAll => some (0x2A, [])
  | .fanService channel setting => some (0x30, bytesOf 1 channel ++ bytesOf 1 setting)
  | .writeConfig item index value => some (0x38, bytesOf 1 item ++ bytesOf 1 index ++ bytesOf 2 value)
  | .windowBaseWrite index value => some (0x38, bytesOf 1 1 ++ bytesOf 1 index ++ bytesOf 2 value)
  | .tailLengthWrite index value => some (0x38, bytesOf 1 2 ++ bytesOf 1 index ++ bytesOf 2 value)
  | .gasLevelWrite f index value => some (0x38, bytesOf 1 (gasLevelItem f) ++ bytesOf 1 index ++ bytesOf 2 value)
  | .floorCeilingWrite f index value => some (0x38, bytesOf 1 (floorCeilingItem f) ++ bytesOf 1 index ++ bytesOf 2 value)
  | .adjacencyWrite index value => some (0x38, bytesOf 1 37 ++ bytesOf 1 index ++ bytesOf 2 value)
  | .contactEnabledWrite index value => some (0x38, bytesOf 1 38 ++ bytesOf 1 index ++ bytesOf 2 value)
  | .stallMapWrite f index value => some (0x38, bytesOf 1 (stallMapItem f) ++ bytesOf 1 index ++ bytesOf 2 value)
  | .channelPlacementWrite f index value => some (0x38, bytesOf 1 (placementItem f) ++ bytesOf 1 index ++ bytesOf 2 value)
  | .minimumSpeedWrite index value => some (0x38, bytesOf 1 55 ++ bytesOf 1 index ++ bytesOf 2 value)
  | .readConfig item index => some (0x39, bytesOf 1 item ++ bytesOf 1 index)
  | .saveConfig => some (0x3A, [])
  | .fireReset => some (0x3E, [])
  | .restart => some (0x3F, [])
  | .unknownCommand code => some (code, [])
  | _ => none

/-- The bytes of a request frame: start byte, address, code, payload length, payload and check sequence (R160). -/
def requestFrame (address code : Nat) (payload : List Byte) : List Byte :=
  let body := bytesOf 1 address ++ bytesOf 1 code ++ bytesOf 1 payload.length ++ payload
  0x3C#8 :: body ++ bytesOf 2 (crc16 body).toNat

/-! ### The check table of the record commands (R10) -/

/-- The commands that R10 checks. -/
def isRecordCommand : Instr → Bool
  | .arrive _ _ _ _ _ _ | .relocate _ _ | .activity _ _ | .renew _ | .setDeparture _ _ | .depart _ | .readStall _
  | .findTag _ | .walkFirst _ => true
  | _ => false

/-- The label a command carries; for RELOCATE the new label. -/
def labelOf : Instr → Option Nat
  | .arrive label _ _ _ _ _ | .relocate _ label | .activity label _ | .renew label | .setDeparture label _ | .depart label
  | .readStall label | .walkFirst label => some label
  | _ => none

/-- The tag a command carries. -/
def tagOf : Instr → Option Nat
  | .arrive _ tag _ _ _ _ | .relocate tag _ | .findTag tag => some tag
  | _ => none

/-- A fact of the stall a command's label names. -/
def atStall (i : Instr) (s : State) (p : StallIdx → Bool) : Bool :=
  match (labelOf i).bind (stallOfLabel s.store.cfg) with
  | some k => p k
  | none => false

/-- The record at a stall. -/
def recordAt (s : State) (k : StallIdx) : Option Occupant := s.roster.stalls[k].occupant

/-- A record holds the tag. -/
def tagHeld (s : State) (tag : Nat) : Bool := allStalls.any fun k => ((recordAt s k).map Occupant.tag) == some tag

/-- The fault of FIELD-RANGE: a class or activity code, a departure or a charger circuit that names nothing. -/
def rangeFault : Instr → Bool
  | .arrive _ _ cls act charger departure =>
      decide (3 < cls) || decide (4 < act) || (departure != 65535 && decide (1440 ≤ departure)) ||
        (charger != 255 && (charger == 0 || decide (48 < charger)))
  | .activity _ act => decide (4 < act)
  | .setDeparture _ departure => departure != 65535 && decide (1440 ≤ departure)
  | _ => false

/-- A class that has no such activity: a combustion class outside PARKED, ENGINE-RUN and WARM-UP, ELECTRIC outside PARKED, CHARGING and
THERMAL-WATCH (R12). -/
def foreignActivity (cls act : Nat) : Bool := if cls = 3 then act == 1 || act == 2 else act == 3 || act == 4

/-- The fault of CLASS-MISMATCH. -/
def classFault (i : Instr) (s : State) : Bool :=
  match i with
  | .arrive _ _ cls act charger _ => foreignActivity cls act || (charger != 255 && cls != 3)
  | .activity _ act =>
      atStall i s fun k => ((recordAt s k).map fun o => foreignActivity o.cls.code act).getD false
  | _ => false

/-- The table of R10, in its order: each status with its fault, which is false for a command the table does not check for it. -/
def checkTable : List (Status × (Instr → State → Bool)) :=
  [(.stallOutOfWindow, fun i s => (labelOf i).any fun l => (stallOfLabel s.store.cfg l).isNone),
   (.badTag, fun i _ => (tagOf i).any fun tag => tag == 0 || tag == 65535),
   (.fieldRange, fun i _ => rangeFault i),
   (.tagUnknown, fun i s =>
      match i with
      | .relocate tag _ | .findTag tag => !tagHeld s tag
      | _ => false),
   (.stallDisabled, fun i s =>
      match i with
      | .arrive _ _ _ _ _ _ | .relocate _ _ => atStall i s fun k => !s.store.cfg.stalls[k].enabled
      | _ => false),
   (.stallOccupied, fun i s =>
      match i with
      | .arrive _ _ _ _ _ _ | .relocate _ _ => atStall i s fun k => (recordAt s k).isSome
      | _ => false),
   (.stallVacant, fun i s =>
      match i with
      | .activity _ _ | .renew _ | .setDeparture _ _ | .depart _ => atStall i s fun k => (recordAt s k).isNone
      | _ => false),
   (.tagInUse, fun i s =>
      match i with
      | .arrive _ tag _ _ _ _ => tagHeld s tag
      | _ => false),
   (.classMismatch, classFault),
   (.badTransition, fun i s =>
      match i with
      | .activity _ act =>
          atStall i s fun k => (recordAt s k).any fun o => o.activity == .thermalWatch && act == 3
      | _ => false),
   (.notRunning, fun i s =>
      match i with
      | .renew _ =>
          atStall i s fun k => (recordAt s k).any fun o => o.activity != .engineRun && o.activity != .warmUp
      | _ => false)]

/-- The answer the table gives: the status of the first check that fails. -/
def tableFault (i : Instr) (s : State) : Option Status := (checkTable.find? fun row => row.2 i s).map Prod.fst

/-- The residue set at a stall by a record that leaves an activity of weight W: its level and steps (R5, R6). -/
def residueSet (tail weight : Nat) (e : StallEntry) : StallEntry :=
  if tail = 0 then { e with level := 0, steps := 0 }
  else if max weight (e.level * e.steps / tail) = 0 then { e with level := 0, steps := 0 }
  else { e with level := max weight (e.level * e.steps / tail), steps := tail }

/-- The entry of a stall whose record leaves its activity: only ENGINE-RUN, WARM-UP and THERMAL-WATCH set a residue (R5). -/
def entryLeft (cfg : Cfg) (o : Occupant) (e : StallEntry) : StallEntry :=
  if o.activity = .engineRun ∨ o.activity = .warmUp ∨ o.activity = .thermalWatch then
    residueSet cfg.tail (weightOf cfg o.cls o.activity) e
  else e

/-- The full allowance of an activity in seconds (R14). -/
def fullAllowance (cfg : Cfg) (a : Activity) : Option Nat :=
  if a = .engineRun then some (60 * cfg.engineRun) else if a = .warmUp then some (60 * cfg.warmUp) else none

/-- The number of a class (R171). -/
def classNumber : VehicleClass → Nat
  | .diesel => 0
  | .hybrid => 1
  | .gas => 2
  | .electric => 3

/-- The number of an activity (R171). -/
def activityNumber : Activity → Nat
  | .parked => 0
  | .engineRun => 1
  | .warmUp => 2
  | .charging => 3
  | .thermalWatch => 4

/-- The 23 bytes of a stall's record, with every field that does not apply at all ones (R171). -/
def recordBytes (s : State) (i : StallIdx) : List Byte :=
  let e := s.roster.stalls[i]
  bytesOf 2 (s.store.cfg.windowBase + i.val) ++ bytesOf 1 i.val ++ bytesOf 1 (if s.store.cfg.stalls[i].enabled then 1 else 0) ++
    bytesOf 1 s.store.cfg.stalls[i].zone.val ++ bytesOf 2 e.level ++ bytesOf 1 e.steps ++
    bytesOf 2 (if s.store.cfg.tail = 0 then 0 else e.level * e.steps / s.store.cfg.tail) ++
    match e.occupant with
    | none => 0x00#8 :: List.replicate 12 0xFF#8
    | some o =>
        [0x01#8] ++ bytesOf 2 o.tag ++ bytesOf 1 (classNumber o.cls) ++ bytesOf 1 (activityNumber o.activity) ++
          bytesOf 2 o.since ++ bytesOf 2 (o.allowance.getD 65535) ++ bytesOf 1 (o.charger.getD 255) ++
          bytesOf 2 (o.departure.getD 65535) ++ bytesOf 1 (if o.lapsed then 1 else 0)

/-- The quiet phase and its seconds left (R166, R168). -/
def quietBytes : QuietPhase → List Byte
  | .out => [0x00#8, 0xFF#8, 0xFF#8]
  | .delay n => 0x01#8 :: bytesOf 2 n
  | .due => [0x02#8, 0xFF#8, 0xFF#8]
  | .pulse n => 0x03#8 :: bytesOf 2 n
  | .space n => 0x04#8 :: bytesOf 2 n

/-- The clear delay and its seconds left (R166, R168). -/
def clearDelayBytes : ClearDelay → List Byte
  | .idle => [0x00#8, 0xFF#8]
  | .running n => 0x01#8 :: bytesOf 1 n
  | .runOut => [0x02#8, 0xFF#8]

/-- A fan's running timer and its seconds left (R166, R168). -/
def fanTimerBytes : Option FanTimer → List Byte
  | none => [0xFF#8, 0xFF#8, 0xFF#8]
  | some (.startWindow n) => 0x00#8 :: bytesOf 2 n
  | some (.cleanRun n) => 0x02#8 :: bytesOf 2 n
  | some (.rundown n) => 0x03#8 :: bytesOf 2 n
  | some (.retryWait n) => 0x04#8 :: bytesOf 2 n

/-- The zone a standby fan is granted to, absent for any other fan (R168). -/
def grantBytes : Role → Option Zone → List Byte
  | .standby _, some z => bytesOf 1 z.val
  | _, _ => [0xFF#8]

/-- The 46 bytes of READ-ZONE, in the order and widths of R166 and R168. -/
def zoneBytes (s : State) (z : Zone) : List Byte :=
  let u := s.zones[z]
  bytesOf 1 z.val ++ bytesOf 1 u.mode.code ++ bytesOf 2 u.baseFlow ++ bytesOf 3 u.stallSum ++ bytesOf 1 u.anticipationCount ++
    bytesOf 3 u.anticipation ++ field 2 u.co ++ field 1 u.no2 ++ field 1 (u.gasSource.map fun g => g.code) ++ bytesOf 2 u.gasTerm ++
    bytesOf 3 u.rawDemand ++ bytesOf 2 u.clampedDemand ++ bytesOf 2 u.demand ++ bytesOf 1 u.stageCount ++ field 2 u.speed ++
    bytesOf 2 u.shortfall ++ field 1 (u.request.map classRank) ++ field 2 (u.request.map callAmount) ++
    bytesOf 2 (maskOf ((List.finRange 16).filter fun c : Chan => s.alloc.grants[c] == some z)) ++
    quietBytes u.quiet ++ flag u.gasHigh ++ clearDelayBytes u.clearDelay ++ flag u.latchSeen ++
    field 1 (u.commandSeen.map fun c => if c = .on then 0 else 1) ++ bytesOf 1 u.adjacentSeen.toNat ++
    flag u.thermalSeen ++ flag (u.evalState == .gathering) ++ flag u.again

/-- The 24 bytes of READ-FAN, in the order and widths of R166 and R168 (log entries 24 and 42). -/
def fanBytes (s : State) (c : Chan) : List Byte :=
  let f := s.fans[c]
  let cc := s.store.cfg.channels[c]
  let q := (s.queue cc.feed).fans
  bytesOf 1 c.val ++ bytesOf 1 f.state.code ++ flag f.target.isOn ++ field 1 (targetSpeed f.target) ++ flag f.target.marked ++
    flag f.runOutput ++ bytesOf 1 f.commanded ++ bytesOf 3 f.measured ++ bytesOf 2 (cc.ratedRpm * f.commanded / 100) ++
    bytesOf 1 f.goodGates ++ bytesOf 1 f.lowGates ++ bytesOf 1 f.stopReason.code ++ field 1 (f.lastFailure.map fun k => k.code) ++
    bytesOf 1 f.retryCount ++
    fanTimerBytes f.timer ++ field 1 f.settle ++ bytesOf 1 (if c ∈ q then q.idxOf c + 1 else 0) ++ bytesOf 1 (if cc.feed = .a then 0 else 1) ++
    grantBytes cc.role s.alloc.grants[c]

/-! ### Evaluations -/

/-- A zone after an evaluation event: an IDLE zone is GATHERING, a GATHERING one has its again flag set (R33). -/
def eventTaken (u : ZoneUnit) : ZoneUnit :=
  if u.evalState = .idle then { u with evalState := .gathering } else { u with again := true }

/-- What an evaluation event sends: an IDLE zone's stall sum request (R33). -/
def eventSends (z : Zone) (u : ZoneUnit) : List Instr := if u.evalState = .idle then [.stallSumRequest z] else []

/-- A head counts in a zone: its zone in force is the zone, and it is VALID or HOLDING (R38). -/
def countsIn (s : State) (z : Zone) (h : HeadAddr) : Prop :=
  s.sensors.heads[h].zone = some z ∧ (s.sensors.heads[h].state = .valid ∨ s.sensors.heads[h].state = .holding)

/-- A value is the largest of a reading over the heads that count in a zone, absent when none has one (R38). -/
def largestOf (s : State) (z : Zone) (get : HeadRecord → Option Nat) (value : Option Nat) : Prop :=
  (value = none ↔ ∀ h : HeadAddr, countsIn s z h → get s.sensors.heads[h] = none) ∧
    ∀ v ∈ value, (∃ h : HeadAddr, countsIn s z h ∧ get s.sensors.heads[h] = some v) ∧
      ∀ (h : HeadAddr), countsIn s z h → ∀ w ∈ get s.sensors.heads[h], w ≤ v

/-- The fire conditions a zone reads: its command, its latch, and whether an adjacent zone holds FIRE-EXTRACT (R52). -/
def adjacentFire (s : State) (z : Zone) : Prop :=
  ∃ b : Zone, s.store.cfg.zones[z].adjacency.getLsbD b.val = true ∧ s.zones[b].mode = .fireExtract

/-- A zone GATHERING whose answer is not to be discarded (R33, R35). -/
def gathering (s : State) (z : Zone) : Prop :=
  s.powered = true ∧ s.zones[z].evalState = .gathering ∧ s.zones[z].abandoned = false

/-- The quiet test of an evaluation that left a zone's unit (R63): no condition of ranks 1 to 5 holds, S, A and G are 0, and the residue flag is
clear. -/
def quietHolds (s : State) (z : Zone) (answer : RosterAnswer) (u : ZoneUnit) : Prop :=
  s.fire.commands[z] = none ∧ s.fire.latches[z] = false ∧ ¬ adjacentFire s z ∧ u.gasHigh = false ∧ answer.thermal = false ∧
    answer.sum = 0 ∧ u.anticipation = 0 ∧ u.gasTerm = 0 ∧ answer.residue = false

/-- A quiet phase and the one an evaluation leaves, by the table of R64. -/
def quietFollows (zc : ZoneCfg) (holds : Prop) (before after : QuietPhase) : Prop :=
  (holds →
    (before = .out → after = .delay (60 * zc.quietEntry)) ∧ (∀ n, before = .delay n → after = .delay n) ∧
    (before = .due → after = .pulse (60 * (zc.pulse + 1))) ∧ (∀ n, before = .pulse n → after = .pulse n) ∧
    ∀ n, before = .space n → after = .space n) ∧
  (¬ holds → after = .out)

/-- An own fan of the zone is FAILED or LOCKED-OUT, or its damper is JAMMED (R50). -/
def coverDue (s : State) (z : Zone) : Prop :=
  (∃ c : Chan, s.store.cfg.channels[c].role = .zone z ∧ (s.fans[c].state = .failed ∨ s.fans[c].state = .lockedOut)) ∨
    s.dampers[z].state = .jammed

/-- The events of a zone's standby request. -/
def isRequestEvent : Instr → Bool
  | .standbyRequestRaise _ _ | .standbyRequestChange _ _ | .standbyRequestWithdraw _ => true
  | _ => false

/-- What a zone sends the allocator for the request it held and the one it wants (R50). -/
def requestSends (z : Zone) (held wanted : Option StandbyCall) : List Instr :=
  if held = wanted then []
  else
    match held, wanted with
    | none, some call => [.standbyRequestRaise z call]
    | some _, some call => [.standbyRequestChange z call]
    | _, none => [.standbyRequestWithdraw z]

/-- A standby fan that a zone holds (R51, R77). -/
def holdsStandby (s : State) (z : Zone) (c : Chan) : Prop :=
  (∃ reach, s.store.cfg.channels[c].role = .standby reach) ∧ s.alloc.grants[c] = some z

/-- The target count of staging for a demand: the smallest count of fans that carries it, or all of them (R44). -/
def isTargetCount (q : Nat → Nat) (n d target : Nat) : Prop :=
  target ≤ n ∧ (d ≤ q target ∨ target = n) ∧ ∀ j, j < target → q j < d

/-- The stage count an evaluation leaves, by the three steps of R45, from the count held and the target count. -/
def stageFollows (q : Nat → Nat) (n d held k : Nat) : Prop :=
  ∀ target, isTargetCount q n d target →
    (min held n < target → k = target) ∧
      (target ≤ min held n →
        (∀ j, target ≤ j → j < min held n → 5 * d ≤ 4 * q j → (∀ i, target ≤ i → i < j → 4 * q i < 5 * d) → k = j) ∧
          ((∀ j, target ≤ j → j < min held n → 4 * q j < 5 * d) → k = min held n))

/-- NORMAL, THERMAL and GAS-ALARM: the modes whose stage count follows the demand (R42, R55). -/
def stagedMode (m : ZoneMode) : Prop := m = .normal ∨ m = .thermal ∨ m = .gasAlarm

/-! ### Fans -/

/-- A fan's discharge path is open: for a zone's own fan while the zone's damper is OPEN; for a standby fan while it is granted to a zone and
its gate is AT that zone with no target pending (R95, R107). -/
def openPath (s : State) (c : Chan) : Prop :=
  (∃ z, s.store.cfg.channels[c].role = .zone z ∧ s.dampers[z].state = .opened) ∨
    ∃ reach z, s.store.cfg.channels[c].role = .standby reach ∧ s.alloc.grants[c] = some z ∧ s.gates[c].state = .atZone z ∧
      s.gates[c].pending = false

/-- The speed a fan runs at for a speed asked: raised to its minimum speed and lowered to 100 (R80). -/
def runningSpeed (s : State) (c : Chan) (speed : Nat) : Nat := min (max speed s.store.cfg.channels[c].minSpeed) 100

/-- A fan's record once it has taken its feed's permit for a target at a speed (R84). -/
def startedRecord (s : State) (c : Chan) (speed : Nat) : FanRecord :=
  { s.fans[c] with
    state := .starting, runOutput := true, commanded := runningSpeed s c speed, goodGates := 0,
    timer := some (.startWindow s.store.cfg.channels[c].startWindow), window := s.store.cfg.channels[c].startWindow }

/-- A fan's record once its run output has turned off for a reason (R85, R86, R87). -/
def stoppedRecord (f : FanRecord) (reason : StopReason) : FanRecord :=
  { f with
    state := .stopping, runOutput := false, commanded := 0, stopReason := reason, timer := some (.rundown 120), settle := none }

/-- A fan took its feed's permit: it is STARTING with its record, out of the queue, and its way out is held open (R84, R95, R102, R107). -/
def tookPermit (s t : State) (c : Chan) (before behind : List Chan) (speed : Nat) : Prop :=
  (t.queue (feedOf s c)).permit = some c ∧ (t.queue (feedOf s c)).fans = before ++ behind ∧
    t.fans = s.fans.set c (startedRecord s c speed) ∧
    (∀ z, s.store.cfg.channels[c].role = .zone z → c ∈ t.dampers[z].blocking) ∧
    (∀ reach, s.store.cfg.channels[c].role = .standby reach → t.gates[c].answered = true)

/-- A fan waits in its feed's queue with an open path, the permit is free, and every fan before it waits for its path (R95). -/
def firstOpen (s : State) (c : Chan) (before behind : List Chan) (speed : Nat) (marked : Bool) : Prop :=
  (s.queue (feedOf s c)).permit = none ∧ (s.queue (feedOf s c)).fans = before ++ c :: behind ∧
    (∀ d ∈ before, ¬ openPath s d) ∧ openPath s c ∧ s.fans[c].target = .on speed marked

/-- A target of a zone's evaluation is taken by a fan and not discarded: a standby fan's only with the zone's grant (R80). -/
def acceptsTarget (s : State) (z : Zone) (c : Chan) : Prop :=
  ∀ reach, s.store.cfg.channels[c].role = .standby reach → s.alloc.grants[c] = some z

/-- A target takes the forced mark from a fan (R90). -/
def losesMark (s : State) (c : Chan) (target : FanTarget) : Prop := s.fans[c].target.marked = true ∧ target.marked = false

/-- A target brings a fan the forced mark (R83, R89). -/
def gainsMark (s : State) (c : Chan) (target : FanTarget) : Prop := s.fans[c].target.marked = false ∧ target.marked = true

/-- A fan has used its retries up and is to lock out (R90). -/
def outOfRetries (s : State) (c : Chan) : Prop :=
  s.store.cfg.channels[c].retryLimit ≤ s.fans[c].retryCount ∧ s.store.cfg.channels[c].action = .lockOut

/-- The availability report of a fan, by its role (R93); the allocator's says whether the fan left SERVICE (log entry 21). -/
def availabilitySent (s : State) (c : Chan) (leftService : Bool) : List Instr :=
  match s.store.cfg.channels[c].role with
  | .zone z => [.evaluationRequest z]
  | .standby _ => [.standbyAvailabilityReport c leftService]
  | .unused => []

/-- A fan's place in a queue it joins (R94): a marked fan directly behind the last marked fan, or at the head; any other at the tail. -/
def joinedAs (s : State) (c : Chan) (marked : Bool) (q q' : List Chan) : Prop :=
  (marked = false → q' = q ++ [c]) ∧
    (marked = true → ∃ front behind, q = front ++ behind ∧ q' = front ++ c :: behind ∧
      (∀ d ∈ front.getLast?, s.fans[d].target.marked = true) ∧ ∀ d ∈ behind, s.fans[d].target.marked = false)

/-- A state's queue of a feed, holding some fans, was examined (R95): while its permit is held, or no fan of it has an open path, it stands as
it is; with the permit free, the first fan whose path is open takes it and is STARTING, its way out held open (R84, R102, R107). -/
def examinedAs (u t : State) (f : Feed) (q : List Chan) : Prop :=
  ((u.queue f).permit ≠ none ∨ (∀ d ∈ q, ¬ openPath u d) →
    t.queue f = { u.queue f with fans := q } ∧ ∀ d ∈ q, t.fans[d] = u.fans[d]) ∧
  ∀ before d behind speed marked, (u.queue f).permit = none → q = before ++ d :: behind → (∀ e ∈ before, ¬ openPath u e) →
    openPath u d → u.fans[d].target = .on speed marked →
    t.queue f = { fans := before ++ behind, permit := some d } ∧ t.fans[d] = startedRecord u d speed ∧
      (∀ e ∈ before ++ behind, t.fans[e] = u.fans[e]) ∧
      (∀ z, u.store.cfg.channels[d].role = .zone z → d ∈ t.dampers[z].blocking) ∧
      (∀ reach, u.store.cfg.channels[d].role = .standby reach → t.gates[d].answered = true)

/-- One fan's record was replaced, and the queue of its feed, then holding some fans, was examined; the other feed's queue and the fans of no
queue stand as they were. -/
def replacedAndExamined (s t : State) (c : Chan) (r : FanRecord) (permit : Option Chan) (q : List Chan) : Prop :=
  examinedAs (({ s with fans := s.fans.set c r } : State).setQueue (feedOf s c) { fans := (s.queue (feedOf s c)).fans, permit := permit })
      t (feedOf s c) q ∧
    (∀ f, f ≠ feedOf s c → t.queue f = s.queue f) ∧ (c ∉ q → t.fans[c] = r) ∧
    ∀ d : Chan, d ≠ c → d ∉ q → t.fans[d] = s.fans[d]

/-- A fan's record after a failed attempt (R88, R91, R93): the count goes up, the failure is recorded, and the limit, the effective action and
the stored target decide the next state; the condition becomes active as the count comes to the limit, and a fan locked out or failed sends its
availability report. -/
def attemptDecided (s t : State) (c : Chan) (f : FanRecord) (kind : FailKind) (l : List Instr) : Prop :=
  let limit := s.store.cfg.channels[c].retryLimit
  let persists := f.target.marked = true ∨ s.store.cfg.channels[c].action = .persist
  (∃ state timer condition,
    t.fans[c] =
      { f with
        state := state, timer := timer, retryCount := f.retryCount + 1, lastFailure := some kind, failedCondition := condition }) ∧
    (limit ≤ f.retryCount + 1 → ¬ persists →
      t.fans[c].state = (if kind = .speedLost then .failed else .lockedOut) ∧ t.fans[c].timer = none) ∧
    (f.retryCount + 1 < limit ∨ persists →
      (f.target.isOn = true →
        t.fans[c].state = .retryWait ∧ t.fans[c].timer = some (.retryWait s.store.cfg.channels[c].retryWait)) ∧
      (f.target.isOn = false → t.fans[c].state = .off ∧ t.fans[c].timer = none)) ∧
    (t.fans[c].failedCondition = true ↔ f.failedCondition = true ∨ f.retryCount + 1 = limit) ∧
    (f.failedCondition = false → f.retryCount + 1 = limit → .conditionActiveReport .fanFailed c.val ∈ l) ∧
    (t.fans[c].state = .lockedOut ∨ t.fans[c].state = .failed → ∀ i ∈ availabilitySent s c false, i ∈ l) ∧
    .fanStateReport c ∈ l

/-! ### Standby allocation -/

/-- A standby fan is usable: its role is STANDBY, it is available, and its gate is not JAMMED (R111). -/
def usableFan (s : State) (c : Chan) : Prop :=
  (∃ reach, s.store.cfg.channels[c].role = .standby reach) ∧ s.fans[c].state ≠ .failed ∧ s.fans[c].state ≠ .service ∧
    s.fans[c].state ≠ .lockedOut ∧ s.gates[c].state ≠ .jammed

/-- A zone lies in a standby fan's reach (R77). -/
def inReach (s : State) (c : Chan) (z : Zone) : Prop :=
  ∃ reach, s.store.cfg.channels[c].role = .standby reach ∧ reach.getLsbD z.val = true

/-- The sum of the rated flows of the fans granted to a zone (R111). -/
def grantedFlow (s : State) (a : Allocator) (z : Zone) : Nat :=
  (((List.finRange 16).filter fun c : Chan => a.grants[c] == some z).map fun c : Chan => s.store.cfg.channels[c].ratedFlow).sum

/-- A request is covered by the grants: never a FIRE request (R111). -/
def isCovered (s : State) (a : Allocator) (e : StandbyEntry) : Prop :=
  ∃ cls amount, e.call = .flow cls amount ∧ amount ≤ grantedFlow s a e.zone

/-- The zones and calls of the request list, oldest first (R110). -/
def callsOf (a : Allocator) : List (Zone × StandbyCall) := a.requests.map fun e => (e.zone, e.call)

/-- Two calls are of one class (R110). -/
def sameClass : StandbyCall → StandbyCall → Bool
  | .fire, .fire => true
  | .flow c _, .flow d _ => c == d
  | _, _ => false

/-- The request list after a zone's call: appended, replaced in its place, or moved to the young end with its new class (R110). -/
def called (l : List (Zone × StandbyCall)) (z : Zone) (call : StandbyCall) : List (Zone × StandbyCall) :=
  match l.find? fun e => e.1 == z with
  | none => l ++ [(z, call)]
  | some old =>
    if sameClass old.2 call then l.map fun e => if e.1 = z then (z, call) else e
    else (l.filter fun e => e.1 != z) ++ [(z, call)]

/-- The parking command of R116 is among some events: of a grant that ends, or of a gate to be proved. -/
def parked (s : State) (c : Chan) (l : List Instr) : Prop :=
  (s.store.cfg.parking = .closed → .gateCommand c .closed ∈ l) ∧
    (s.store.cfg.parking = .home → inReach s c s.store.cfg.channels[c].homeZone →
      .gateCommand c (.zone s.store.cfg.channels[c].homeZone) ∈ l) ∧
    (s.store.cfg.parking = .home → ¬ inReach s c s.store.cfg.channels[c].homeZone → .gateCommand c .closed ∈ l) ∧
    (s.store.cfg.parking = .last → s.gates[c].state = .jammed → .gateCommand c s.gates[c].target ∈ l)

/-- The actions of R115 for the difference of one fan's grant are among some events, and none for a grant that stands. -/
def carriedOut (s : State) (c : Chan) (before after : Option Zone) (l : List Instr) : Prop :=
  (∀ z, before ≠ after → after = some z → .gateCommand c (.zone z) ∈ l) ∧
    (before ≠ after → .grantReport c .a ∈ l ∧ .grantReport c .b ∈ l) ∧
    (before ≠ after → before.isSome = true → .standbyOffTarget c ∈ l) ∧
    (∀ z, before ≠ after → before = some z ∨ after = some z → .evaluationRequest z ∈ l) ∧
    (before.isSome = true → after = none → parked s c l) ∧
    (before = after → .standbyOffTarget c ∉ l ∧ .grantReport c .a ∉ l ∧ .grantReport c .b ∉ l)

/-- An allocation run on a list of calls (R112, R115, R117): the list keeps its order, the grants can stand, the differences are carried out,
and the cover timers, of which one that runs is not started again, and the SHORTFALL conditions follow. -/
def ranOn (i : Instr) (s t : State) (calls : List (Zone × StandbyCall)) : Prop :=
  onlyChanges [.alloc, .inFlight] s t ∧ callsOf t.alloc = calls ∧
    (∀ (c : Chan) (z : Zone), t.alloc.grants[c] = some z → usableFan s c ∧ inReach s c z ∧ ∃ e ∈ t.alloc.requests, e.zone = z) ∧
    (∀ e ∈ t.alloc.requests, (e.cover = none ↔ e.call = .fire ∨ isCovered s t.alloc e) ∧
      (∀ n ∈ e.cover, n = 60 ∨ ∃ d ∈ s.alloc.requests, d.zone = e.zone ∧ d.cover = some n) ∧
      (∀ d ∈ s.alloc.requests, d.zone = e.zone → d.cover ≠ none → e.cover ≠ none → e.cover = d.cover) ∧
      ((∀ d ∈ s.alloc.requests, d.zone = e.zone → d.cover = none) → e.cover ≠ none → e.cover = some 60)) ∧
    (∀ z : Zone, t.alloc.shortfall[z] = true ↔
      s.alloc.shortfall[z] = true ∧ ∃ e ∈ t.alloc.requests, e.zone = z ∧ e.call ≠ .fire ∧ ¬ isCovered s t.alloc e) ∧
    ∃ l, sent i s t l ∧ (∀ c : Chan, carriedOut s c s.alloc.grants[c] t.alloc.grants[c] l) ∧
      ∀ z : Zone, .conditionActiveReport .shortfall z.val ∉ l ∧
        (.conditionClearReport .shortfall z.val ∈ l ↔ s.alloc.shortfall[z] = true ∧ t.alloc.shortfall[z] = false)

/-- What a run leaves no request to ask for (R113, R114): an uncovered request has no free usable fan in its reach; a FIRE request leaves no
usable fan of its reach with another class, and keeps the fans it had; an uncovered GAS-ALARM leaves none with a lower class. -/
def servedBy (s t : State) : Prop :=
  (∀ e ∈ t.alloc.requests, ¬ isCovered s t.alloc e → ∀ c : Chan, usableFan s c → inReach s c e.zone → t.alloc.grants[c] ≠ none) ∧
    (∀ e ∈ t.alloc.requests, e.call = .fire →
      (∀ c : Chan, usableFan s c → inReach s c e.zone →
        ∃ d ∈ t.alloc.requests, d.call = .fire ∧ t.alloc.grants[c] = some d.zone) ∧
      ∀ c : Chan, s.alloc.grants[c] = some e.zone → usableFan s c → inReach s c e.zone → t.alloc.grants[c] = some e.zone) ∧
    ∀ e ∈ t.alloc.requests, ∀ amount, e.call = .flow .gasAlarm amount → ¬ isCovered s t.alloc e →
      ∀ c : Chan, usableFan s c → inReach s c e.zone →
        ∃ d ∈ t.alloc.requests, t.alloc.grants[c] = some d.zone ∧ (d.call = .fire ∨ ∃ a, d.call = .flow .gasAlarm a)

/-- Of the fans with a property, the one preferred for a zone: the lowest-numbered whose gate is AT the zone, or, where no such gate is, the
lowest-numbered of them all (R113, R114). -/
def preferredFor (s : State) (z : Zone) (p : Chan → Prop) (c : Chan) : Prop :=
  p c ∧
    ((s.gates[c].state = .atZone z ∧ ∀ d, d < c → p d → s.gates[d].state ≠ .atZone z) ∨
      ((∀ d, p d → s.gates[d].state ≠ .atZone z) ∧ ∀ d, d < c → ¬ p d))

/-- A fan free for a zone under some grants: usable, ungranted and in reach (R111). -/
def freeIn (s : State) (g : Grants) (z : Zone) (c : Chan) : Prop := usableFan s c ∧ g[c] = none ∧ inReach s c z

/-- A fan granted to one zone that lies in the reach of another. -/
def heldInReach (s : State) (g : Grants) (holder z : Zone) (c : Chan) : Prop := g[c] = some holder ∧ inReach s c z

/-- A request of one class preempts one of another: FIRE every other class, GAS-ALARM the two lowest (R113, R114). -/
def preempts : StandbyCall → StandbyCall → Bool
  | .fire, .flow _ _ => true
  | .flow .gasAlarm _, .flow .failureCover _ => true
  | .flow .gasAlarm _, .flow .shortfall _ => true
  | _, _ => false

/-- A request may lose a fan to a zone's request. -/
def canLose (s : State) (g : Grants) (r holder : Zone × StandbyCall) : Prop :=
  preempts r.2 holder.2 = true ∧ ∃ c, heldInReach s g holder.1 r.1 c

/-- The holder a request preempts: of the lowest class that can lose a fan to it, the youngest in list order (R113, R114). -/
def holderFor (s : State) (calls : List (Zone × StandbyCall)) (g : Grants) (r holder : Zone × StandbyCall) : Prop :=
  canLose s g r holder ∧ ∃ older younger, calls = older ++ holder :: younger ∧
    (∀ d ∈ older, canLose s g r d → classRank d.2 ≤ classRank holder.2) ∧
    ∀ d ∈ younger, canLose s g r d → classRank d.2 < classRank holder.2

/-- The fan a request takes next: the free one preferred, or, with none free in its reach, the one preferred of the holder it preempts (R113,
R114). -/
def pickedFor (s : State) (calls : List (Zone × StandbyCall)) (g : Grants) (r : Zone × StandbyCall) (c : Chan) : Prop :=
  preferredFor s r.1 (freeIn s g r.1) c ∨
    (∀ d, ¬ freeIn s g r.1 d) ∧
      ∃ holder, holderFor s calls g r holder ∧ preferredFor s r.1 (heldInReach s g holder.1 r.1) c

/-- One round over some requests in order: each takes one fan, or is left empty-handed (R113). -/
def roundTaken (s : State) (calls : List (Zone × StandbyCall)) : List (Zone × StandbyCall) → Grants → Grants → Prop
  | [], g, h => h = g
  | r :: rest, g, h =>
    (∃ c, pickedFor s calls g r c ∧ roundTaken s calls rest (g.set c (some r.1)) h) ∨
      ((∀ c, ¬ pickedFor s calls g r c) ∧ roundTaken s calls rest g h)

/-- The FIRE requests of a list of calls, oldest first. -/
def firesOf (calls : List (Zone × StandbyCall)) : List (Zone × StandbyCall) := calls.filter fun r => r.2 == .fire

/-- The rounds of the FIRE requests, through the grants each leaves, until one in which no FIRE request takes a fan (R113). -/
def roundsTaken (s : State) (calls : List (Zone × StandbyCall)) : List Grants → Grants → Grants → Prop
  | [], g, h => h = g ∧ ∀ r ∈ firesOf calls, ∀ c, ¬ pickedFor s calls g r c
  | m :: rest, g, h =>
    (∃ r ∈ firesOf calls, ∃ c, pickedFor s calls g r c) ∧ roundTaken s calls (firesOf calls) g m ∧ roundsTaken s calls rest m h

/-- A request is covered under some grants (R111). -/
def coveredIn (s : State) (g : Grants) (r : Zone × StandbyCall) : Prop :=
  ∃ cls amount, r.2 = .flow cls amount ∧ amount ≤ grantedFlow s { s.alloc with grants := g } r.1

/-- A request takes some fans one after another, until it is covered or can take no more (R114). -/
def fansTaken (s : State) (calls : List (Zone × StandbyCall)) (r : Zone × StandbyCall) : List Chan → Grants → Grants → Prop
  | [], g, h => h = g ∧ (coveredIn s g r ∨ ∀ c, ¬ pickedFor s calls g r c)
  | c :: rest, g, h => ¬ coveredIn s g r ∧ pickedFor s calls g r c ∧ fansTaken s calls r rest (g.set c (some r.1)) h

/-- Some requests are served in turn (R114). -/
def servedInTurn (s : State) (calls : List (Zone × StandbyCall)) : List (Zone × StandbyCall) → Grants → Grants → Prop
  | [], g, h => h = g
  | r :: rest, g, h => ∃ taken m, fansTaken s calls r taken g m ∧ servedInTurn s calls rest m h

/-- The requests of a class in list order, oldest first. -/
def callsOfClass (calls : List (Zone × StandbyCall)) (rank : Nat) : List (Zone × StandbyCall) :=
  calls.filter fun r => classRank r.2 == rank

/-- The flow a zone keeps without a fan, where the fans of higher number have been looked at and those of lower number not yet (R112). -/
def keptWithout (s : State) (before after : Grants) (z : Zone) (c : Chan) : Nat :=
  (((List.finRange 16).filter fun d : Chan => (d < c && before[d] == some z) || (c < d && after[d] == some z)).map fun d : Chan =>
    s.store.cfg.channels[d].ratedFlow).sum

/-- The grants a run decides for a list of calls, in the steps of R112 to R114: grants that cannot stand end (log entry 37), surplus fans are
released in descending channel number, the FIRE requests are served in rounds, and then the other classes in their order and within each the
oldest first. -/
def grantsDecided (s : State) (calls : List (Zone × StandbyCall)) (before after : Grants) : Prop :=
  ∃ stood kept fired : Grants, ∃ rounds,
    (∀ (c : Chan) (z : Zone), stood[c] = some z ↔
      before[c] = some z ∧ usableFan s c ∧ inReach s c z ∧ ∃ call, (z, call) ∈ calls) ∧
    (∀ (c : Chan) (z : Zone), kept[c] = some z ↔
      stood[c] = some z ∧ ∀ cls amount, (z, StandbyCall.flow cls amount) ∈ calls → keptWithout s stood kept z c < amount) ∧
    roundsTaken s calls rounds kept fired ∧
    servedInTurn s calls (callsOfClass calls 1 ++ callsOfClass calls 2 ++ callsOfClass calls 3) fired after

/-! ### Sensor heads -/

/-- A raw reading saturated to a limit (R123). -/
def saturated (limit : Nat) (raw : Int) : Nat := if raw < 0 then 0 else min limit raw.toNat

/-- A head's value after a good reply: seeded by the reading, or smoothed in VALID and HOLDING (R124). -/
def smoothedTo (r : HeadRecord) (old : Option Nat) (reading : Nat) : Nat :=
  if r.state = .valid ∨ r.state = .holding then
    match old with
    | some v => (3 * v + reading + 2) / 4
    | none => reading
  else reading

/-- A head's record after a good reply (R122 to R125). -/
def goodReplyRecord (s : State) (h : HeadAddr) (drift : Bool) (rawCo rawNo2 : Int) : HeadRecord :=
  { zone := s.sensors.heads[h].zone, state := .valid
    co := some (smoothedTo s.sensors.heads[h] s.sensors.heads[h].co (saturated 500 rawCo))
    no2 := some (smoothedTo s.sensors.heads[h] s.sensors.heads[h].no2 (saturated 200 rawNo2))
    rawCo := some (saturated 500 rawCo), rawNo2 := some (saturated 200 rawNo2)
    lastStatus := some (if drift then .drift else .ok), drift := drift, misses := 0, hold := some 60
    lastGood := some s.store.minute }

/-- A head's record after a miss with a status, none for NO-REPLY (R122, R125). -/
def missedRecord (r : HeadRecord) (status : Option ReplyStatus) : HeadRecord :=
  { r with
    misses := min 255 (r.misses + 1), lastStatus := status
    state := if r.state = .valid ∧ 3 ≤ r.misses + 1 then .holding else r.state }

/-- A value and its successor stand on two sides of a level (R129). -/
def crossed (level : Nat) (before after : Option Nat) : Prop :=
  ∃ x ∈ before, ∃ y ∈ after, ¬ (level ≤ x ↔ level ≤ y)

/-- The record of a head when its configured zone is applied at the start of a cycle (R127). -/
def headApplied (r : HeadRecord) (zone : Option Zone) : HeadRecord :=
  if zone = none then
    { zone := none, state := .waiting, co := none, no2 := none, rawCo := none, rawNo2 := none, lastStatus := none, drift := false,
      misses := 0, hold := none, lastGood := none }
  else { r with zone := zone }

/-- A zone is blind: it has a head in force and each of them is LOST (R131). -/
def isBlind (l : SensorLine) (z : Zone) : Prop :=
  (∃ h : HeadAddr, l.heads[h].zone = some z) ∧ ∀ h : HeadAddr, l.heads[h].zone = some z → l.heads[h].state = .lost

/-! ### The Fire Interface -/

/-- The state a loop resistance in ohms gives an enabled contact input (R132, R133). -/
def contactStateFor (ohms : Nat) : ContactState :=
  if 400 ≤ ohms ∧ ohms ≤ 2000 then .alarm else if 2000 < ohms ∧ ohms ≤ 12000 then .normal else .lineFault

/-- Two loop resistances lie in one band (R132). -/
def sameBand (a b : Nat) : Prop :=
  (a < 400 ↔ b < 400) ∧ (a ≤ 2000 ↔ b ≤ 2000) ∧ (a ≤ 12000 ↔ b ≤ 12000)

/-- What a contact input's change of state sends: its fault condition's change, and the latch it sets (R133 to R136). -/
def contactSends (s : State) (z : Zone) (state : ContactState) : List Instr :=
  (if s.fire.contacts[z].state = .lineFault ∧ state ≠ .lineFault then [.conditionClearReport .fireInputFault z.val] else []) ++
    (if s.fire.contacts[z].state ≠ .lineFault ∧ state = .lineFault then [.conditionActiveReport .fireInputFault z.val] else []) ++
    (if state = .alarm ∧ s.fire.latches[z] = false then [.conditionActiveReport .fire z.val, .evaluationRequest z] else [])

/-- The Fire Interface after a contact input came to a state: only ALARM sets the latch (R133, R135). -/
def contactTaken (f : FireInterface) (z : Zone) (state : ContactState) : FireInterface :=
  { f with
    contacts := f.contacts.set z { state := state, confirm := none }
    latches := if state = .alarm then f.latches.set z true else f.latches }

/-- A capability word is valid (R139). -/
def validWord (w : CapabilityWord) : Prop := (1 ≤ w.panelId ∧ w.panelId ≤ 250) ∧ 1 ≤ w.zoneCount ∧ w.zoneCount ≤ 8

/-- Two capability words are equal but for the accept marker (R140). -/
def agrees (v w : CapabilityWord) : Prop := { v with accept := false } = { w with accept := false }

/-- The link in BACKOFF (R141). -/
def backedOff (f : FireInterface) : FireInterface :=
  { f with link := .backoff, heard := none, hearingTimer := none, stateTimer := some 5 }

/-- The latches and commands after a reset: a contact in ALARM holds its latch (R137, R138, R146). -/
def resetOf (f : FireInterface) : FireInterface :=
  { f with
    latches := Vector.ofFn fun z : Zone => f.latches[z] && decide (f.contacts[z].state = .alarm)
    commands := Vector.replicate 8 none }

/-- What a reset sends for a zone (R136, R137, R146). -/
def resetSends (f : FireInterface) (z : Zone) : List Instr :=
  if f.latches[z] = true ∧ f.contacts[z].state ≠ .alarm then [.conditionClearReport .fire z.val, .evaluationRequest z]
  else if f.commands[z] ≠ none then [.evaluationRequest z]
  else []

/-- The link is LINKED to a panel whose capability declares a feature (R145, R146). -/
def panelDeclares (s : State) (feature : CapabilityWord → Bool) : Prop :=
  s.fire.link = .linked ∧ ∃ w, s.fire.capability = some w ∧ feature w = true

/-! ### The hazard list -/

/-- An id is the first from the next id upward that none of some entries holds, passing from 65535 to 1 (R150). -/
def firstFreeId (entries : List HazardEntry) (next id : Nat) : Prop :=
  ∃ n, id = (next - 1 + n) % 65535 + 1 ∧ (∀ e ∈ entries, e.id ≠ id) ∧
    ∀ k, k < n → ∃ e ∈ entries, e.id = (next - 1 + k) % 65535 + 1

/-- An entry of a condition (R149). -/
def entryOf (e : HazardEntry) (kind : HazardKind) (source : Nat) : Prop := e.kind = kind ∧ e.source = source

/-- The list holds some entries, and after them one more for a condition, with the first free id and the depot minute (R150, R151). -/
def appended (s t : State) (kept : List HazardEntry) (kind : HazardKind) (source : Nat) (unlisted : Bool) : Prop :=
  ∃ id, firstFreeId kept s.hazards.nextId id ∧
    t.hazards =
      { entries := kept ++ [{ id := id, kind := kind, source := source, state := .activeUnack, minute := s.store.minute }]
        nextId := id % 65535 + 1, unlisted := unlisted, attention := true }

/-- The attention output an entry list and UNLISTED call for (R156). -/
def lamp (entries : List HazardEntry) (unlisted : Bool) : Bool :=
  unlisted || entries.any fun e => decide (e.state ≠ .activeAck)

/-- An entry in another state. -/
def HazardEntry.withState (e : HazardEntry) (state : HazardState) : HazardEntry := { e with state := state }

/-- The entries after all are acknowledged: cleared ones leave, the rest are ACTIVE-ACK (R155, step 1). -/
def allAcknowledged (l : List HazardEntry) : List HazardEntry :=
  (l.filter fun e => decide (e.state ≠ .clearedUnack)).map fun e => e.withState .activeAck

/-- A re-list sweep over some entries: the active conditions with no entry, in order, as far as there is room; UNLISTED when some are left
out (R155, step 3). -/
def swept (s t : State) (kept : List HazardEntry) : Prop :=
  let missing := (activeConditions s).filter fun k => kept.all fun e => !(e.kind == k.1 && e.source == k.2)
  ∃ fresh : List HazardEntry, t.hazards.entries = kept ++ fresh ∧
    fresh.map (fun e => (e.kind, e.source)) = missing.take (48 - kept.length) ∧
    (∀ e ∈ fresh, e.state = .activeUnack ∧ e.minute = s.store.minute) ∧
    t.hazards.unlisted = decide (48 - kept.length < missing.length)

/-! ### Configuration -/

/-- The item, index and value of a configuration write, whichever row brings it (R164, 10.1). -/
def writeOf : Instr → Option (Nat × Nat × Nat)
  | .writeConfig item index value => some (item, index, value)
  | .windowBaseWrite index value => some (1, index, value)
  | .tailLengthWrite index value => some (2, index, value)
  | .gasLevelWrite f index value => some (gasLevelItem f, index, value)
  | .floorCeilingWrite f index value => some (floorCeilingItem f, index, value)
  | .adjacencyWrite index value => some (37, index, value)
  | .contactEnabledWrite index value => some (38, index, value)
  | .stallMapWrite f index value => some (stallMapItem f, index, value)
  | .channelPlacementWrite f index value => some (placementItem f, index, value)
  | .minimumSpeedWrite index value => some (55, index, value)
  | _ => none

/-- The ranges of the items that are plain numbers and are clamped against nothing else (10.1). -/
def plainRange : CfgItem → Option (Nat × Nat)
  | .windowBase => some (0, 9903)
  | .tail => some (0, 63)
  | .engineRun | .warmUp | .startWindow _ => some (5, 60)
  | .anticipationWeight => some (0, 2000)
  | .anticipationLead => some (0, 60)
  | .coStart => some (0, 500)
  | .coFactor | .no2Factor => some (0, 1000)
  | .no2Start => some (0, 200)
  | .gasCeiling | .floorTerm | .thermalFloor _ => some (0, 60000)
  | .weight _ _ => some (0, 4000)
  | .baseFlow _ => some (0, 20000)
  | .quietEntry _ | .damperTimeout _ | .retryWait _ => some (10, 120)
  | .pulse _ => some (0, 59)
  | .space _ => some (0, 239)
  | .stall .zone _ | .homeZone _ => some (0, 7)
  | .placement .ratedFlow _ => some (500, 20000)
  | .ratedRpm _ => some (300, 3600)
  | .pulses _ => some (1, 8)
  | .minSpeed _ => some (15, 60)
  | _ => none

/-- A value names nothing in an item that carries a code, or the item is read only (R172). -/
def namesNothing (k : CfgItem) (v : Nat) : Prop :=
  match k with
  | .saveState | .lastSave => True
  | .parking => 2 < v
  | .placement .feed _ | .action _ | .contactEnabled _ | .stall .enabled _ => 1 < v
  | .placement .role _ => 2 < v / 256
  | .adjacency _ => 1 < v % 256
  | _ => False

/-- A write its owning rule refuses in the present state (R3, R78, R172). -/
def refusedNow (s : State) (k : CfgItem) : Prop :=
  match k with
  | .stall _ n => s.roster.stalls[n].occupant ≠ none ∨ 0 < s.roster.stalls[n].level
  | .placement _ c => s.fans[c].state ≠ .service
  | _ => False

/-- A configuration write was taken: the answer carries the item as it now stands, and no other item changed but the adjacency of the second
zone of an adjacency write (R172, R71). -/
def writeTaken (i : Instr) (s t : State) (item index value : Nat) (k : CfgItem) : Prop :=
  (∃ status, (status = .done ∨ status = .doneClamped) ∧
    answering s t 0x38 status (bytesOf 1 item ++ bytesOf 1 index ++ bytesOf 2 (itemValue t.store k))) ∧
    onlyChanges [.roster, .fans, .fire, .store, .port, .inFlight] s t ∧ t.store = { s.store with cfg := t.store.cfg } ∧
    (∀ k' : CfgItem, k' ≠ k → (∀ a b, k = .adjacency a → k' = .adjacency b → b.val ≠ min (value / 256) 7) →
      itemValue t.store k' = itemValue s.store k') ∧
    ((∀ n, k ≠ .contactEnabled n) → sent i s t [.responseSent])

/-! ### The laws of the blocks -/

/-- A stall entry under a tail length: the two laws of its residue (R4), and a residue stands only at an enabled stall (R3). -/
def StallLaw (tail : Nat) (cfg : StallCfg) (e : StallEntry) : Prop :=
  e.steps ≤ tail ∧ (e.steps = 0 → e.level = 0) ∧ (0 < e.level → cfg.enabled = true)

/-- An occupant record: its stall is enabled, its class may hold its activity, a charger circuit is an ELECTRIC's (R8, R12), and an
allowance runs exactly in ENGINE-RUN and WARM-UP (R14). -/
def OccupantLaw (cfg : StallCfg) (o : Occupant) : Prop :=
  cfg.enabled = true ∧ mayHold o.cls o.activity = true ∧ (o.charger.isSome = true → o.cls = .electric) ∧
    o.allowance.isSome = o.activity.isRunning

/-- No tag stands in two records (R8). -/
def TagLaw (r : Roster) : Prop :=
  ∀ (i j : StallIdx) (o p : Occupant),
    r.stalls[i].occupant = some o → r.stalls[j].occupant = some p → o.tag = p.tag → i = j

/-- The laws of the Stall Roster (R3, R4, R8, R12, R14). -/
def RosterLaw (s : State) : Prop :=
  (∀ i : StallIdx, StallLaw s.store.cfg.tail s.store.cfg.stalls[i] s.roster.stalls[i]) ∧
    (∀ (i : StallIdx) (o : Occupant), s.roster.stalls[i].occupant = some o → OccupantLaw s.store.cfg.stalls[i] o) ∧
    TagLaw s.roster

/-- The clear delay runs only under a set gas-high latch (R54, R57), and the again flag stands only while GATHERING (R33). -/
def ZoneLaw (u : ZoneUnit) : Prop :=
  (u.gasHigh = false → u.clearDelay = .idle) ∧ (u.evalState = .idle → u.again = false ∧ u.abandoned = false)

/-- A fan discharges exactly in STARTING and RUNNING, at a speed between its minimum speed and 100 percent, and at a speed of 0 otherwise
(R79); a fan in SERVICE has an off target (R92), one that waits, starts or runs an on target (R82 to R89), and a fan in STARTING holds its
feed's permit (R94, R95). -/
def FanLaw (s : State) (c : Chan) : Prop :=
  s.fans[c].runOutput = s.fans[c].state.turning ∧ (s.fans[c].runOutput = false → s.fans[c].commanded = 0) ∧
    (s.fans[c].runOutput = true → s.store.cfg.channels[c].minSpeed ≤ s.fans[c].commanded ∧ s.fans[c].commanded ≤ 100) ∧
    (s.fans[c].state = .service → s.fans[c].target = .off) ∧
    (s.fans[c].state = .queued ∨ s.fans[c].state = .retryWait ∨ s.fans[c].state = .starting ∨ s.fans[c].state = .running →
      s.fans[c].target.isOn = true) ∧
    (s.fans[c].state = .starting ↔ (s.queue (feedOf s c)).permit = some c)

/-- A Start Queue holds only QUEUED fans of its feed, each once, every such fan stands in it, and its permit is held by a fan of the feed
(R94). -/
def QueueLaw (s : State) (f : Feed) : Prop :=
  (s.queue f).fans.Nodup ∧ (∀ c : Chan, c ∈ (s.queue f).fans ↔ s.fans[c].state = .queued ∧ feedOf s c = f) ∧
    (∀ c : Chan, (s.queue f).permit = some c → s.fans[c].state = .starting ∧ feedOf s c = f)

/-- The laws of the fans and their Start Queues (R79, R92, R94, R95). -/
def FansLaw (s : State) : Prop := (∀ c : Chan, FanLaw s c) ∧ (∀ f : Feed, QueueLaw s f)

/-- A rundown ended, the fan's record f as it then stood (R82, R87, R88): a commanded stop leaves OFF, or the queue with an on target stored; a
failed attempt leaves its decision, with no other fan and no queue touched. -/
def rundownEnded (s t : State) (c : Chan) (f : FanRecord) (l : List Instr) : Prop :=
  (f.stopReason = .commanded → f.target = .off →
    onlyChanges [.fans, .inFlight] s t ∧ l = [.fanStateReport c] ∧ t.fans = s.fans.set c { f with state := .off, timer := none }) ∧
  (f.stopReason = .commanded → f.target.isOn = true → FansLaw s →
    onlyChanges [.fans, .queueA, .queueB, .dampers, .gates, .inFlight] s t ∧ .fanStateReport c ∈ l ∧
    ∃ q, joinedAs s c f.target.marked (s.queue (feedOf s c)).fans q ∧
      replacedAndExamined s t c { f with state := .queued, timer := none } (s.queue (feedOf s c)).permit q) ∧
  ∀ kind, f.stopReason = .failure kind → f.retryCount < 255 →
    onlyChanges [.fans, .inFlight] s t ∧ (∀ d : Chan, d ≠ c → t.fans[d] = s.fans[d]) ∧ attemptDecided s t c f kind l

/-- A damper's travel timer runs exactly in OPENING and CLOSING (R99, R101 to R103), and its jam condition agrees with its state (R104). -/
def DamperLaw (d : DamperRecord) : Prop :=
  (d.timer.isSome = true ↔ d.state = .opening ∨ d.state = .closing) ∧ (d.state = .jammed → d.jamCondition = true) ∧
    (d.state = .opened ∨ d.state = .closed → d.jamCondition = false)

/-- A gate's travel timer runs exactly in TRAVELLING (R107, R108), its jam condition agrees with its state (R108), and a gate out of use
keeps no condition (R106). -/
def GateLaw (g : GateRecord) : Prop :=
  (g.timer.isSome = true ↔ g.state = .travelling) ∧ (g.state = .jammed → g.jamCondition = true) ∧
    (g.state.isAt = true ∨ g.state = .closed → g.jamCondition = false) ∧ (g.inUse = false → g = GateRecord.unused)

/-- The request list holds one request of a zone at most, FIRE requests have no cover timer, a grant is to a zone that has a request, and a
SHORTFALL condition is that of a zone whose request is not FIRE (R110, R111, R112, R117). -/
def AllocLaw (a : Allocator) : Prop :=
  (a.requests.map StandbyEntry.zone).Nodup ∧ (∀ e ∈ a.requests, e.call = .fire → e.cover = none) ∧
    (∀ (c : Chan) (z : Zone), a.grants[c] = some z → ∃ e ∈ a.requests, e.zone = z) ∧
    (∀ z : Zone, a.shortfall[z] = true → ∃ e ∈ a.requests, e.zone = z ∧ e.call ≠ .fire)

/-- A head's smoothed values are absent exactly in WAITING and in their saturation ranges (R120, R124), its hold timer runs exactly in VALID
and HOLDING (R126), its miss count holds at 255 (R122), and an unconfigured head's record is empty (R127). -/
def HeadLaw (r : HeadRecord) : Prop :=
  (r.co.isSome = !decide (r.state = .waiting)) ∧ (r.no2.isSome = !decide (r.state = .waiting)) ∧
    (∀ v, r.co = some v → v ≤ 500) ∧ (∀ v, r.no2 = some v → v ≤ 200) ∧ (r.hold.isSome = r.state.counts) ∧ r.misses ≤ 255 ∧
    (r.zone = none → r = HeadRecord.initial none)

/-- The laws of the sensor line: those of its heads, only configured heads are polled (R119, R121, R127), and ZONE-BLIND is active exactly
while a zone is blind (R131). -/
def SensorLaw (l : SensorLine) : Prop :=
  (∀ h : HeadAddr, HeadLaw l.heads[h]) ∧ (∀ h : HeadAddr, h ∈ l.due ∨ l.window = some h → l.heads[h].zone.isSome = true) ∧
    (∀ z : Zone, l.zoneBlind[z] = blind l.heads z)

/-- Each timer of the panel link runs exactly in its states (R140 to R142), FIRE-LINK-LOST is not active while LINKED (R143), and a contact
input is DISABLED exactly when it is not enabled, with no confirmation then (R132, R133). -/
def FireLaw (s : State) : Prop :=
  (s.fire.supervision.isSome = true ↔ s.fire.link = .linked) ∧
    (s.fire.stateTimer.isSome = true ↔ s.fire.link = .agreeing ∨ s.fire.link = .checking ∨ s.fire.link = .backoff) ∧
    (s.fire.hearingTimer.isSome = true → s.fire.link = .hearing ∧ s.fire.heard.isSome = true) ∧
    (s.fire.link = .linked → s.fire.lostCondition = false ∧ s.fire.capability.isSome = true) ∧
    (∀ z : Zone, (s.fire.contacts[z].state = .disabled ↔ s.store.cfg.zones[z].contactEnabled = false) ∧
      (s.fire.contacts[z].state = .disabled → s.fire.contacts[z].confirm = none))

/-- The laws of the hazard list: at most 48 entries, distinct ids from 1 to 65535, one entry of a kind and source, a next id from 1 to 65535,
and the attention output asserted exactly when an entry is unacknowledged or UNLISTED is set (R149, R150, R156). -/
def HazardLaw (h : HazardList) : Prop :=
  h.entries.length ≤ 48 ∧ (h.entries.map HazardEntry.id).Nodup ∧ (∀ e ∈ h.entries, 1 ≤ e.id ∧ e.id ≤ 65535) ∧
    (h.entries.map fun e => (e.kind, e.source)).Nodup ∧ (1 ≤ h.nextId ∧ h.nextId ≤ 65535) ∧
    (h.attention = true ↔ h.unlisted = true ∨ ∃ e ∈ h.entries, e.state ≠ .activeAck)

/-- The items of a zone in their ranges, the floor not above the ceiling (R41, R42, R63, R99). -/
def ZoneCfgLaw (zc : ZoneCfg) : Prop :=
  zc.baseFlow ≤ 20000 ∧ zc.floor ≤ 20000 ∧ zc.ceiling ≤ 60000 ∧ zc.floor ≤ zc.ceiling ∧ zc.thermalFloor ≤ 60000 ∧
    (10 ≤ zc.quietEntry ∧ zc.quietEntry ≤ 120) ∧ zc.pulse ≤ 59 ∧ zc.space ≤ 239 ∧
    (10 ≤ zc.damperTimeout ∧ zc.damperTimeout ≤ 120)

/-- The items of a channel in their ranges, a standby fan's reach never empty (R77). -/
def ChanCfgLaw (cc : ChanCfg) : Prop :=
  (500 ≤ cc.ratedFlow ∧ cc.ratedFlow ≤ 20000) ∧ (300 ≤ cc.ratedRpm ∧ cc.ratedRpm ≤ 3600) ∧ (1 ≤ cc.pulses ∧ cc.pulses ≤ 8) ∧
    (15 ≤ cc.minSpeed ∧ cc.minSpeed ≤ 60) ∧ (5 ≤ cc.startWindow ∧ cc.startWindow ≤ 60) ∧
    (10 ≤ cc.retryWait ∧ cc.retryWait ≤ 120) ∧ cc.retryLimit ∈ [1, 2, 4, 8] ∧ cc.role ≠ .standby 0

/-- The adjacency of the zones is symmetric, and no zone is adjacent to itself (R71). -/
def AdjacencyLaw (cfg : Cfg) : Prop :=
  ∀ a b : Zone, cfg.zones[a].adjacency.getLsbD b.val = cfg.zones[b].adjacency.getLsbD a.val ∧
    cfg.zones[a].adjacency.getLsbD a.val = false

/-- The module-wide items in their ranges, each clear level not above its high level (10.1, R59). -/
def CfgWideLaw (cfg : Cfg) : Prop :=
  cfg.windowBase ≤ 9903 ∧ cfg.tail ≤ 63 ∧ (5 ≤ cfg.engineRun ∧ cfg.engineRun ≤ 60) ∧ (5 ≤ cfg.warmUp ∧ cfg.warmUp ≤ 60) ∧
    cfg.anticipationWeight ≤ 2000 ∧ cfg.anticipationLead ≤ 60 ∧ cfg.coStart ≤ 500 ∧ cfg.coFactor ≤ 1000 ∧
    cfg.no2Start ≤ 200 ∧ cfg.no2Factor ≤ 1000 ∧ cfg.gasCeiling ≤ 60000 ∧ cfg.floorTerm ≤ 60000 ∧ cfg.coHigh ≤ 500 ∧
    cfg.coClear ≤ cfg.coHigh ∧ cfg.no2High ≤ 200 ∧ cfg.no2Clear ≤ cfg.no2High ∧
    (∀ k : Fin 20, cfg.weights[k] ≤ 4000)

/-- A working configuration within the table of 10.1. -/
def CfgLaw (cfg : Cfg) : Prop :=
  CfgWideLaw cfg ∧ (∀ z : Zone, ZoneCfgLaw cfg.zones[z]) ∧ (∀ c : Chan, ChanCfgLaw cfg.channels[c]) ∧ AdjacencyLaw cfg

/-- The working configuration, the copy being saved and the non-volatile image are within the table, and the clock is a clock (10.1, R174,
R176). -/
def StoreLaw (st : ConfigStore) : Prop :=
  CfgLaw st.cfg ∧ (∀ c, st.saving = some c → CfgLaw c) ∧ (∀ c, st.nv = .image c → CfgLaw c) ∧ st.minute ≤ 1439 ∧
    st.seconds ≤ 59

/-- In LISTENING the port's buffer is empty; in RECEIVING it begins with the start byte and, once it has its payload length byte, is shorter
than the frame that byte gives, the length at most 64; in ANSWERING it is empty and an answer stands (R160, R161). -/
def PortLaw (p : LinkPort) : Prop :=
  (p.state = .listening → p.buffer = []) ∧
    (p.state = .receiving → p.buffer.head? = some 0x3C#8 ∧
      (4 ≤ p.buffer.length → fieldAt p.buffer 3 1 ≤ 64 ∧ p.buffer.length < fieldAt p.buffer 3 1 + 6)) ∧
    (p.state = .answering → p.buffer = [] ∧ p.response.isSome = true)

/-- Every law of the device and of its blocks. -/
def Lawful (s : State) : Prop :=
  RosterLaw s ∧ (∀ z : Zone, ZoneLaw s.zones[z]) ∧ FansLaw s ∧ (∀ z : Zone, DamperLaw s.dampers[z]) ∧
    (∀ c : Chan, GateLaw s.gates[c]) ∧ AllocLaw s.alloc ∧ SensorLaw s.sensors ∧ FireLaw s ∧ HazardLaw s.hazards ∧
    StoreLaw s.store ∧ PortLaw s.port

end Sys2Proof.Machine
end

