-- ==== Sys2Proof/Certificates/Slice0/Obligations.lean ====
section
/-! DEFINITION. The statements for the provers, chapter by chapter. Each says for which states and operands a command completes, what it then
changes, and that nothing else changes; the last say what every step keeps. -/

open Sys2Proof Sys2Proof.Machine

/-! ### The block as a whole -/

/-- A step takes the command at the front of the queue and runs it on the rest of the state. -/
def Obligations.FrontOfQueueRunsExec : Prop :=
  ∀ (i : Instr) (rest : List Instr) (s : State), step { s with pending := i :: rest } = exec i { s with pending := rest }

/-- What a step does on an empty queue: its own next event, or a second passes, in which every timer that is not due counts down and every expiry
that is due is taken, each once and in one order. The order of these, and the second as the unit of time, are the model's choice (log entries 1
and 5). -/
def Obligations.EmptyQueueStepTakesOwnEvent : Prop :=
  ∀ s : State, s.pending = [] →
    (s.powered = false → step s = .next s) ∧
    (s.powered = true →
      (∀ i rest, s.inFlight = i :: rest → step s = exec i s) ∧
      (s.inFlight = [] →
        (∀ h, s.sensors.window = some h → step s = exec .replyWindowEnd s) ∧
        (s.sensors.window = none →
          (s.port.state = .receiving → step s = exec .frameSilenceTimeout s) ∧
          (s.port.state ≠ .receiving →
            ∃ u due t, countedDown s u ∧ (∀ i, i ∈ due ↔ fallsDue s i) ∧ (due.Pairwise fun i j => duePlace i < duePlace j) ∧
              takenInTurn due u t ∧ step s = .next t) ∧
          (s.port.state ≠ .receiving → expiries s = [] →
            ∃ t, step s = .next t ∧ onlyChanges [.roster, .zones, .fans, .dampers, .gates, .alloc, .sensors, .fire, .store] s t ∧
              t.store.seconds = s.store.seconds + 1 ∧ t.store.minute = s.store.minute ∧
              (∀ z : Zone, t.zones[z].evalTimer + 1 = s.zones[z].evalTimer) ∧
              t.sensors.cycleTimer + 1 = s.sensors.cycleTimer))))

/-- No command and no step ends in a fault or a refusal, since the manual gives every event an effect; a command changes only the state of the
block that takes it, the port that answers it, and what is on its way between the blocks; a step takes one command off the queue. -/
def Obligations.EveryCommandGoesOnWithinItsParts : Prop :=
  (∀ (i : Instr) (s : State), ∃ t, exec i s = .next t ∧ onlyChanges (touches i) s t) ∧
    ∀ s : State, ∃ t, step s = .next t ∧ t.pending = s.pending.tail

/-! ### The supervisory link -/

/-- A request with any status other than DONE and DONE-CLAMPED leaves every block as it was, and its payload is empty; a request the port cannot
accept, because it is ANSWERING or the module has no address, has no effect and no answer (log entry 10). -/
def Obligations.RefusedOrDroppedRequestChangesNothing : Prop :=
  ∀ (i : Instr) (s t : State), isRequest i = true → exec i s = .next t →
    (ready s → ∀ r, t.port.response = some r → r.status ≠ .done → r.status ≠ .doneClamped →
      onlyChanges [.port, .inFlight] s t ∧ sent i s t [.responseSent] ∧ r.payload = []) ∧
    (s.powered = true → s.port.state = .answering ∨ s.port.address = 0 →
      onlyChanges [.port, .inFlight] s t ∧ sent i s t [] ∧ t.port.response = s.port.response ∧
        (s.port.state = .answering → t.port = s.port) ∧ (s.port.state ≠ .answering → t.port.state = .listening))

/-- Every request the port accepts is answered, by an answer of at most 64 payload bytes, and the port is ANSWERING until the answer has
left. -/
def Obligations.EveryRequestIsAnswered : Prop :=
  ∀ (i : Instr) (s : State), isRequest i = true → ready s →
    ∃ (t : State) (code : Nat) (status : Status) (payload : List Byte),
      exec i s = .next t ∧ answering s t code status payload ∧ payload.length ≤ 64 ∧ t.inFlight.getLast? = some .responseSent

/-- The code and payload of every command of the command table are dispatched to that command, with every field as it was sent. -/
def Obligations.DispatchInvertsEncoding : Prop :=
  ∀ (i : Instr) (code : Nat) (payload : List Byte) (s : State), i.wellFormed = true → requestBytes i = some (code, payload) →
    dispatchRequest code payload s = exec i s

/-- The bytes of a whole request frame, taken one after another by a LISTENING port, run the request it carries. -/
def Obligations.FrameBytesRunTheRequest : Prop :=
  ∀ (s : State) (code : Nat) (payload : List Byte), s.powered = true → s.port.state = .listening → s.port.buffer = [] →
    s.inFlight = [] → 1 ≤ s.port.address → s.port.address ≤ 31 → code < 256 → payload.length ≤ 64 →
      takeEach ((requestFrame s.port.address code payload).map .supervisoryByteReceived) s =
        dispatchRequest code payload
          (s.setPort
            { s.port with state := .receiving, buffer := (requestFrame s.port.address code payload).dropLast })

/-- A byte that does not complete a frame: 3Ch starts a frame in LISTENING, a byte in RECEIVING is stored or, as a payload length above 64,
discards the frame, and any other byte is discarded. -/
def Obligations.BytesAreReceived : Prop :=
  ∀ (b : Byte) (s : State), s.powered = true →
    ∃ t, exec (.supervisoryByteReceived b) s = .next t ∧
      (s.port.state = .listening → b = 0x3C#8 →
        t = (s.taken (.supervisoryByteReceived b)).setPort { s.port with state := .receiving, buffer := [b] }) ∧
      (s.port.state = .listening → b ≠ 0x3C#8 → t = s.taken (.supervisoryByteReceived b)) ∧
      (s.port.state = .answering → t = s.taken (.supervisoryByteReceived b)) ∧
      (s.port.state = .receiving → s.port.buffer.length = 3 → 64 < b.toNat →
        onlyChanges [.port, .inFlight] s t ∧ t.port = { s.port with state := .listening, buffer := [] }) ∧
      (s.port.state = .receiving →
        (s.port.buffer.length < 3 ∨ s.port.buffer.length = 3 ∧ b.toNat ≤ 64 ∨
          4 ≤ s.port.buffer.length ∧ s.port.buffer.length + 1 < (s.port.buffer.getD 3 0).toNat + 6) →
        t = (s.taken (.supervisoryByteReceived b)).setPort { s.port with buffer := s.port.buffer ++ [b] })

/-- A silence discards the frame being received and changes nothing in the other states; a discarded frame returns the port to LISTENING; the
end of a response returns it from ANSWERING to LISTENING. -/
def Obligations.PortReturnsToListening : Prop :=
  ∀ s : State, s.powered = true →
    (∃ t, exec .frameSilenceTimeout s = .next t ∧ onlyChanges [.port, .inFlight] s t ∧
      t.port = if s.port.state = .receiving then { s.port with state := .listening, buffer := [] } else s.port) ∧
    (∃ t, exec .requestFrameDiscarded s = .next t ∧ onlyChanges [.port, .inFlight] s t ∧
      t.port = if s.port.state = .answering then s.port else { s.port with state := .listening, buffer := [] }) ∧
    (∃ t, exec .responseSent s = .next t ∧ onlyChanges [.port, .inFlight] s t ∧ t.inFlight = s.inFlight.erase .responseSent ∧
      t.port = if s.port.state = .answering then { s.port with state := .listening, buffer := [] } else s.port)

/-- A code that is not in the table is answered UNKNOWN-COMMAND, and a payload of another length than its command's BAD-LENGTH, whatever the
state of the module. -/
def Obligations.UnknownAndMalformedRequests : Prop :=
  (∀ (code : Nat) (payload : List Byte) (s : State), ready s → requestLength code = none →
    dispatchRequest code payload s = exec (.unknownCommand code) s ∧
    ∃ t, exec (.unknownCommand code) s = .next t ∧ answering s t code .unknownCommand [] ∧
      sent (.unknownCommand code) s t [.responseSent] ∧ onlyChanges [.port, .inFlight] s t) ∧
  (∀ (code n : Nat) (payload : List Byte) (s : State), ready s → requestLength code = some n → payload.length ≠ n →
    dispatchRequest code payload s = exec (.badLength code) s ∧
    ∃ t, exec (.badLength code) s = .next t ∧ answering s t code .badLength [] ∧
      sent (.badLength code) s t [.responseSent] ∧ onlyChanges [.port, .inFlight] s t)

/-- SET-CLOCK, READ-CLOCK, a broadcast SET-CLOCK, and the end of a depot clock minute. -/
def Obligations.DepotClock : Prop :=
  ∀ s : State,
    (ready s → ∀ minute : Nat,
      (minute ≤ 1439 → ∃ t, exec (.setClock minute) s = .next t ∧ answering s t 0x03 .done [] ∧
        t.store = { s.store with minute := minute, seconds := 0, clockSet := true } ∧
        sent (.setClock minute) s t [.responseSent] ∧ onlyChanges [.store, .port, .inFlight] s t) ∧
      (1439 < minute → ∃ t, exec (.setClock minute) s = .next t ∧ answering s t 0x03 .fieldRange [] ∧ t.store = s.store)) ∧
    (ready s → ∃ t, exec .readClock s = .next t ∧
      answering s t 0x02 .done (bytesOf 2 s.store.minute ++ bytesOf 1 (if s.store.clockSet then 1 else 0)) ∧
      onlyChanges [.port, .inFlight] s t) ∧
    (s.powered = true → s.port.state ≠ .answering → ∀ (code : Nat) (payload : List Byte),
      ∃ t, exec (.broadcastSetClock code payload) s = .next t ∧ onlyChanges [.store, .port, .inFlight] s t ∧
        t.port = { s.port with state := .listening, buffer := [] } ∧
        sent (.broadcastSetClock code payload) s t [] ∧
        (∀ high low : Byte, code = 0x03 → payload = [high, low] → 256 * high.toNat + low.toNat ≤ 1439 →
          t.store = { s.store with minute := 256 * high.toNat + low.toNat, seconds := 0, clockSet := true }) ∧
        (∀ high low : Byte, payload = [high, low] → 1439 < 256 * high.toNat + low.toNat → t.store = s.store) ∧
        (code ≠ 0x03 ∨ payload.length ≠ 2 → t.store = s.store)) ∧
    (s.powered = true → ∃ t, exec .depotClockMinute s = .next t ∧ onlyChanges [.store, .inFlight] s t ∧
      t.store = { s.store with seconds := 0, minute := (s.store.minute + 1) % 1440 })

/-! ### Power -/

/-- Power-on and the release of the reset line bring every block to its starting state, read from the non-volatile copy and the inputs; the
first polling cycle has begun with every configured head due. -/
def Obligations.PowerOnStartsEveryBlock : Prop :=
  ∀ s : State, ∃ t, exec .powerOn s = .next t ∧ exec .resetLineRelease s = .next t ∧ t.powered = true ∧ t.pins = s.pins ∧
    t.pending = s.pending ∧
    (∀ c, s.store.nv = .image c → s.store.saving = none → t.store.cfg = c ∧ t.store.defaulted = false ∧ t.store.nv = .image c) ∧
    ((∀ c, s.store.nv ≠ .image c) ∨ s.store.saving ≠ none → t.store.cfg = Cfg.factory ∧ t.store.defaulted = true) ∧
    t.store.saving = none ∧ t.store.lastSave = .none ∧ t.store.minute = 0 ∧ t.store.seconds = 0 ∧ t.store.clockSet = false ∧
    (∀ i : StallIdx, t.roster.stalls[i] = { level := 0, steps := 0, occupant := none }) ∧ t.roster.cursor = 0 ∧
    (∀ z : Zone, t.zones[z].mode = .normal ∧ t.zones[z].gasHigh = false ∧ t.zones[z].clearDelay = .idle ∧
      t.zones[z].quiet = .delay (60 * t.store.cfg.zones[z].quietEntry) ∧ t.zones[z].evalState = .gathering ∧
      t.zones[z].request = none ∧ t.zones[z].evalTimer = 10 ∧ .stallSumRequest z ∈ t.inFlight) ∧
    (∀ c : Chan, t.fans[c].state = .off ∧ t.fans[c].target = .off ∧ t.fans[c].runOutput = false ∧ t.fans[c].retryCount = 0 ∧
      t.fans[c].failedCondition = false ∧ t.fans[c].commanded = 0 ∧ t.fans[c].measured = 0 ∧ t.fans[c].goodGates = 0 ∧
      t.fans[c].lowGates = 0 ∧ t.fans[c].stopReason = .commanded ∧ t.fans[c].lastFailure = none ∧ t.fans[c].timer = none ∧
      t.fans[c].settle = none) ∧
    t.queueA = { fans := [], permit := none } ∧ t.queueB = { fans := [], permit := none } ∧
    (∀ z : Zone,
      (s.pins.openSwitch[z] = true → s.pins.closedSwitch[z] = false →
        t.dampers[z].state = .opened ∧ t.dampers[z].request = .noRequest ∧ t.dampers[z].timer = none) ∧
      (s.pins.openSwitch[z] = false → s.pins.closedSwitch[z] = true →
        t.dampers[z].state = .closed ∧ t.dampers[z].request = .noRequest ∧ t.dampers[z].timer = none) ∧
      (s.pins.openSwitch[z] = s.pins.closedSwitch[z] →
        t.dampers[z].state = .closing ∧ t.dampers[z].request = .close ∧
          t.dampers[z].timer = some t.store.cfg.zones[z].damperTimeout) ∧
      t.dampers[z].blocking = [] ∧ t.dampers[z].closePending = false) ∧
    (∀ c : Chan, (t.gates[c].inUse = true ↔ ∃ reach, t.store.cfg.channels[c].role = .standby reach) ∧
      (t.gates[c].inUse = true →
        (∀ z, s.pins.feedback[c] = .zone z → t.gates[c].state = .atZone z ∧ t.gates[c].target = .zone z) ∧
        (s.pins.feedback[c] = .closed → t.gates[c].state = .closed ∧ t.gates[c].target = .closed) ∧
        (s.pins.feedback[c] = .between →
          t.gates[c].state = .travelling ∧ t.gates[c].target = .closed ∧ t.gates[c].timer = some 90))) ∧
    t.alloc.requests = [] ∧ (∀ c : Chan, t.alloc.grants[c] = none) ∧ (∀ z : Zone, t.alloc.shortfall[z] = false) ∧
    (∀ h : HeadAddr, t.sensors.heads[h].state = .waiting ∧ t.sensors.heads[h].zone = t.store.cfg.heads[h] ∧
      t.sensors.heads[h].co = none ∧ t.sensors.heads[h].misses = 0 ∧ t.sensors.heads[h].hold = none) ∧
    t.sensors.window = none ∧ t.sensors.cycleTimer = 5 ∧ (∀ z : Zone, t.sensors.zoneBlind[z] = false) ∧
    t.sensors.due = ((List.finRange 32).filter fun h : HeadAddr => t.store.cfg.heads[h].isSome) ∧
    (.headPoll ∈ t.inFlight ↔ t.sensors.due ≠ []) ∧
    (∀ z : Zone, (t.fire.latches[z] = true ↔ t.fire.contacts[z].state = .alarm) ∧ t.fire.commands[z] = none ∧
      (t.fire.contacts[z].state = .disabled ↔ t.store.cfg.zones[z].contactEnabled = false) ∧
      (t.fire.contacts[z].state = .alarm ↔
        t.store.cfg.zones[z].contactEnabled = true ∧ 400 ≤ s.pins.loopOhms[z] ∧ s.pins.loopOhms[z] ≤ 2000) ∧
      (t.fire.contacts[z].state = .alarm →
        .conditionActiveReport .fire z.val ∈ t.inFlight ∧ .evaluationRequest z ∈ t.inFlight) ∧
      (t.fire.contacts[z].state = .lineFault → .conditionActiveReport .fireInputFault z.val ∈ t.inFlight)) ∧
    t.fire.link = .hearing ∧ t.fire.capability = none ∧ t.fire.linkLost = false ∧ t.fire.lostCondition = false ∧
    t.hazards = { entries := [], nextId := 1, unlisted := false, attention := false } ∧
    t.port.state = .listening ∧ t.port.buffer = [] ∧ t.port.address = s.pins.addressSwitches ∧
    t.port.fastBaud = s.pins.fastBaudStrap

/-- The loss of the supply stops the module, and a save in progress leaves a non-volatile copy that fails its check; until power-on or the release
of the reset line a stopped module takes events without effect and only its inputs change (log entry 9). -/
def Obligations.PowerLossStopsTheModule : Prop :=
  (∀ s : State, ∃ t, exec .powerLoss s = .next t ∧ t.powered = false ∧ onlyChanges [.powered, .store, .inFlight] s t ∧
    t.store = { s.store with saving := none, nv := if s.store.saving.isSome then .unreadable else s.store.nv }) ∧
  ∀ (i : Instr) (s t : State), s.powered = false → i ≠ .powerOn → i ≠ .resetLineRelease → i ≠ .powerLoss →
    exec i s = .next t → onlyChanges [.pins, .inFlight] s t

/-- The state after reset is the starting state of power-on with a blank non-volatile copy and the inputs of log entry 7, and it keeps every
law. -/
def Obligations.ResetIsAStartingState : Prop := exec .powerOn State.reset = .next State.reset ∧ Lawful State.reset

/-! ### The stall roster -/

/-- The check table of R10: the first check that fails gives the answer, with nothing changed and nothing sent; a command that passes them
all is answered DONE, or END-OF-ROSTER for a walk that finds no stall. -/
def Obligations.RecordCommandsAreChecked : Prop :=
  ∀ (i : Instr) (s : State), isRecordCommand i = true → i.wellFormed = true → ready s → RosterLaw s →
    (∀ status, tableFault i s = some status →
      ∃ t code, exec i s = .next t ∧ answering s t code status [] ∧ sent i s t [.responseSent] ∧
        onlyChanges [.port, .inFlight] s t) ∧
    (tableFault i s = none →
      ∃ t code status payload, exec i s = .next t ∧ answering s t code status payload ∧
        (status = .done ∨ status = .endOfRoster ∧ ∃ label, i = .walkFirst label))

/-- ARRIVE creates the record at its stall and keeps the residue. -/
def Obligations.ArriveCreatesRecord : Prop :=
  ∀ (s : State) (label tag cls act charger departure : Nat) (i : StallIdx) (c : VehicleClass) (a : Activity),
    ready s → label = s.store.cfg.windowBase + i.val → 1 ≤ tag → tag ≤ 65534 → cls = c.code → act = a.code →
    mayHold c a = true → departure = 65535 ∨ departure < 1440 →
    charger = 255 ∨ 1 ≤ charger ∧ charger ≤ 48 ∧ c = .electric →
    s.store.cfg.stalls[i].enabled = true → s.roster.stalls[i].occupant = none →
    (∀ (j : StallIdx) (o : Occupant), s.roster.stalls[j].occupant = some o → o.tag ≠ tag) →
    ∃ t, exec (.arrive label tag cls act charger departure) s = .next t ∧
      t.roster =
        { s.roster with
          stalls := s.roster.stalls.set i
            { s.roster.stalls[i] with
              occupant := some
                { tag := tag, cls := c, activity := a, since := s.store.minute, allowance := fullAllowance s.store.cfg a,
                  charger := if charger = 255 then none else some charger,
                  departure := if departure = 65535 then none else some departure, lapsed := false } } } ∧
      answering s t 0x10 .done (stallRecord t i) ∧
      sent (.arrive label tag cls act charger departure) s t
        ((if a = .thermalWatch then [.conditionActiveReport .batteryThermal i.val] else []) ++
          [.evaluationRequest s.store.cfg.stalls[i].zone, .responseSent]) ∧
      onlyChanges [.roster, .port, .inFlight] s t

/-- RELOCATE moves the whole record and leaves both residues; the condition and the evaluation requests follow the record. -/
def Obligations.RelocateMovesRecord : Prop :=
  ∀ (s : State) (tag newLabel : Nat) (i j : StallIdx) (o : Occupant),
    ready s → newLabel = s.store.cfg.windowBase + j.val → 1 ≤ tag → tag ≤ 65534 →
    s.roster.stalls[i].occupant = some o → o.tag = tag → TagLaw s.roster →
    s.store.cfg.stalls[j].enabled = true → s.roster.stalls[j].occupant = none →
    ∃ t, exec (.relocate tag newLabel) s = .next t ∧
      t.roster =
        { s.roster with
          stalls := (s.roster.stalls.set i { s.roster.stalls[i] with occupant := none }).set j
            { s.roster.stalls[j] with occupant := some o } } ∧
      answering s t 0x11 .done (stallRecord t j) ∧
      sent (.relocate tag newLabel) s t
        ((if o.activity = .thermalWatch then
            [.conditionClearReport .batteryThermal i.val, .conditionActiveReport .batteryThermal j.val]
          else []) ++
          (if s.store.cfg.stalls[i].zone = s.store.cfg.stalls[j].zone then [.evaluationRequest s.store.cfg.stalls[i].zone]
           else [.evaluationRequest s.store.cfg.stalls[i].zone, .evaluationRequest s.store.cfg.stalls[j].zone]) ++
          [.responseSent]) ∧
      onlyChanges [.roster, .port, .inFlight] s t

/-- ACTIVITY changes a record's activity in one action, or renews the record in place when it names the present activity. -/
def Obligations.ActivityChangesRecord : Prop :=
  ∀ (s : State) (label act : Nat) (i : StallIdx) (o : Occupant) (a : Activity),
    ready s → label = s.store.cfg.windowBase + i.val → act = a.code → s.roster.stalls[i].occupant = some o →
    mayHold o.cls o.activity = true → mayHold o.cls a = true → ¬(o.activity = .thermalWatch ∧ a = .charging) →
    ∃ t, exec (.activity label act) s = .next t ∧ answering s t 0x12 .done (stallRecord t i) ∧
      onlyChanges [.roster, .port, .inFlight] s t ∧
      (a = o.activity →
        t.roster =
          { s.roster with
            stalls := s.roster.stalls.set i
              { s.roster.stalls[i] with
                occupant := some
                  { o with
                    lapsed := false
                    allowance :=
                      if a = .engineRun ∨ a = .warmUp then fullAllowance s.store.cfg a else o.allowance } } } ∧
        sent (.activity label act) s t [.responseSent]) ∧
      (a ≠ o.activity →
        t.roster =
          { s.roster with
            stalls := s.roster.stalls.set i
              { entryLeft s.store.cfg o s.roster.stalls[i] with
                occupant := some
                  { o with activity := a, since := s.store.minute, allowance := fullAllowance s.store.cfg a, lapsed := false } } } ∧
        sent (.activity label act) s t
          ((if o.activity = .thermalWatch then [.conditionClearReport .batteryThermal i.val]
            else if a = .thermalWatch then [.conditionActiveReport .batteryThermal i.val] else []) ++
            [.evaluationRequest s.store.cfg.stalls[i].zone, .responseSent]))

/-- RENEW restarts the allowance of a running engine and sends no evaluation request; SET-DEPARTURE sets or removes the departure. -/
def Obligations.RenewAndSetDeparture : Prop :=
  ∀ (s : State) (label : Nat) (i : StallIdx) (o : Occupant),
    ready s → label = s.store.cfg.windowBase + i.val → s.roster.stalls[i].occupant = some o →
    (o.activity = .engineRun ∨ o.activity = .warmUp →
      ∃ t, exec (.renew label) s = .next t ∧
        t.roster =
          { s.roster with
            stalls := s.roster.stalls.set i
              { s.roster.stalls[i] with
                occupant := some { o with lapsed := false, allowance := fullAllowance s.store.cfg o.activity } } } ∧
        answering s t 0x13 .done (stallRecord t i) ∧ sent (.renew label) s t [.responseSent] ∧
        onlyChanges [.roster, .port, .inFlight] s t) ∧
    (∀ departure : Nat, departure = 65535 ∨ departure < 1440 →
      ∃ t, exec (.setDeparture label departure) s = .next t ∧
        t.roster =
          { s.roster with
            stalls := s.roster.stalls.set i
              { s.roster.stalls[i] with
                occupant := some { o with departure := if departure = 65535 then none else some departure } } } ∧
        answering s t 0x14 .done (stallRecord t i) ∧
        sent (.setDeparture label departure) s t [.evaluationRequest s.store.cfg.stalls[i].zone, .responseSent] ∧
        onlyChanges [.roster, .port, .inFlight] s t)

/-- DEPART retires the record and leaves the residue of its activity; an allowance that runs out parks the record in the same way. -/
def Obligations.DepartAndExpiryLeaveResidue : Prop :=
  ∀ (s : State) (i : StallIdx) (o : Occupant), s.roster.stalls[i].occupant = some o →
    (ready s → ∀ label, label = s.store.cfg.windowBase + i.val →
      ∃ t, exec (.depart label) s = .next t ∧
        t.roster =
          { s.roster with
            stalls := s.roster.stalls.set i { entryLeft s.store.cfg o s.roster.stalls[i] with occupant := none } } ∧
        answering s t 0x15 .done (stallRecord t i) ∧
        sent (.depart label) s t
          ((if o.activity = .thermalWatch then [.conditionClearReport .batteryThermal i.val] else []) ++
            [.evaluationRequest s.store.cfg.stalls[i].zone, .responseSent]) ∧
        onlyChanges [.roster, .port, .inFlight] s t) ∧
    (s.powered = true → o.activity = .engineRun ∨ o.activity = .warmUp →
      ∃ t, exec (.allowanceExpiry i) s = .next t ∧
        t.roster =
          { s.roster with
            stalls := s.roster.stalls.set i
              { entryLeft s.store.cfg o s.roster.stalls[i] with
                occupant := some { o with activity := .parked, since := s.store.minute, allowance := none, lapsed := true } } } ∧
        sent (.allowanceExpiry i) s t [.evaluationRequest s.store.cfg.stalls[i].zone] ∧
        onlyChanges [.roster, .inFlight] s t)

/-- The stall record has the layout of R171, byte by byte; READ-STALL and FIND-TAG change nothing; the walk finds the first occupied stall at or
above its start, or above the cursor, and does not wrap round; where it finds none it answers END-OF-ROSTER and the cursor stays. -/
def Obligations.RosterReadsAndWalk : Prop :=
  ∀ s : State, ready s →
    (∀ i : StallIdx, stallRecord s i = recordBytes s i ∧ (stallRecord s i).length = 23) ∧
    (∀ (label : Nat) (i : StallIdx), label = s.store.cfg.windowBase + i.val →
      ∃ t, exec (.readStall label) s = .next t ∧ answering s t 0x18 .done (stallRecord s i) ∧
        (stallRecord s i).length = 23 ∧ (stallRecord s i).take 3 = bytesOf 2 label ++ bytesOf 1 i.val ∧
        sent (.readStall label) s t [.responseSent] ∧ onlyChanges [.port, .inFlight] s t) ∧
    (∀ (tag : Nat) (i : StallIdx) (o : Occupant), 1 ≤ tag → tag ≤ 65534 → s.roster.stalls[i].occupant = some o → o.tag = tag →
      TagLaw s.roster →
      ∃ t, exec (.findTag tag) s = .next t ∧ answering s t 0x19 .done (stallRecord s i) ∧
        sent (.findTag tag) s t [.responseSent] ∧ onlyChanges [.port, .inFlight] s t) ∧
    (∀ (label : Nat) (start i : StallIdx), label = s.store.cfg.windowBase + start.val → start ≤ i →
      s.roster.stalls[i].occupant ≠ none →
      (∀ j : StallIdx, start ≤ j → j < i → s.roster.stalls[j].occupant = none) →
      ∃ t, exec (.walkFirst label) s = .next t ∧ t.roster = { s.roster with cursor := i } ∧
        answering s t 0x1A .done (stallRecord s i) ∧ onlyChanges [.roster, .port, .inFlight] s t) ∧
    (∀ (label : Nat) (start : StallIdx), label = s.store.cfg.windowBase + start.val →
      (∀ j : StallIdx, start ≤ j → s.roster.stalls[j].occupant = none) →
      ∃ t, exec (.walkFirst label) s = .next t ∧ t.roster = s.roster ∧ answering s t 0x1A .endOfRoster [] ∧
        sent (.walkFirst label) s t [.responseSent] ∧ onlyChanges [.port, .inFlight] s t) ∧
    (∀ i : StallIdx, s.roster.cursor < i → s.roster.stalls[i].occupant ≠ none →
      (∀ j : StallIdx, s.roster.cursor < j → j < i → s.roster.stalls[j].occupant = none) →
      ∃ t, exec .walkNext s = .next t ∧ t.roster = { s.roster with cursor := i } ∧
        answering s t 0x1B .done (stallRecord s i) ∧ onlyChanges [.roster, .port, .inFlight] s t) ∧
    ((∀ j : StallIdx, s.roster.cursor < j → s.roster.stalls[j].occupant = none) →
      ∃ t, exec .walkNext s = .next t ∧ t.roster = s.roster ∧ answering s t 0x1B .endOfRoster [])

/-- A stall sum request is answered from the roster as it stands, and then the residues of the zone's enabled stalls lose one step; the
roster's restart empties it without setting a residue and ends every BATTERY-THERMAL condition. -/
def Obligations.StallSumAndRosterRestart : Prop :=
  ∀ (s : State) (z : Zone), s.powered = true →
    (∃ t, exec .rosterRestart s = .next t ∧ onlyChanges [.roster, .inFlight] s t ∧ t.roster.cursor = 0 ∧
      (∀ i : StallIdx, t.roster.stalls[i] = { level := 0, steps := 0, occupant := none }) ∧
      sent .rosterRestart s t
        (((List.finRange 96).filter fun i : StallIdx =>
          s.roster.stalls[i].occupant.any fun o => o.activity == .thermalWatch).map fun i =>
          .conditionClearReport .batteryThermal i.val)) ∧
    ∃ t, exec (.stallSumRequest z) s = .next t ∧ onlyChanges [.roster, .inFlight] s t ∧ t.roster.cursor = s.roster.cursor ∧
      (∀ i : StallIdx,
        t.roster.stalls[i] =
          if s.store.cfg.stalls[i].enabled = true ∧ s.store.cfg.stalls[i].zone = z ∧ 0 < s.roster.stalls[i].steps then
            { s.roster.stalls[i] with
              steps := s.roster.stalls[i].steps - 1
              level := if s.roster.stalls[i].steps = 1 then 0 else s.roster.stalls[i].level }
          else s.roster.stalls[i]) ∧
      ∃ answer : RosterAnswer, sent (.stallSumRequest z) s t [.evaluationComplete z answer] ∧
        answer.sum =
          (((List.finRange 96).filter fun i : StallIdx =>
              s.store.cfg.stalls[i].enabled && s.store.cfg.stalls[i].zone == z).map fun i =>
            ((s.roster.stalls[i].occupant.map fun o => weightOf s.store.cfg o.cls o.activity).getD 0) +
              (if s.store.cfg.tail = 0 then 0
               else s.roster.stalls[i].level * s.roster.stalls[i].steps / s.store.cfg.tail)).sum ∧
        (answer.thermal = true ↔ ∃ (i : StallIdx) (o : Occupant), s.store.cfg.stalls[i].enabled = true ∧
          s.store.cfg.stalls[i].zone = z ∧ s.roster.stalls[i].occupant = some o ∧ o.activity = .thermalWatch) ∧
        (answer.residue = true ↔ ∃ i : StallIdx, s.store.cfg.stalls[i].enabled = true ∧ s.store.cfg.stalls[i].zone = z ∧
          0 < s.roster.stalls[i].steps) ∧
        (s.store.clockSet = false → answer.count = 0) ∧
        (s.store.clockSet = true → s.store.minute ≤ 1439 →
          answer.count =
            ((List.finRange 96).filter fun i : StallIdx =>
              s.store.cfg.stalls[i].enabled && s.store.cfg.stalls[i].zone == z &&
                s.roster.stalls[i].occupant.any fun o =>
                  o.cls != .electric && o.activity == .parked &&
                    o.departure.any fun d =>
                      decide ((d + 1440 - s.store.minute) % 1440 ≤ s.store.cfg.anticipationLead)).length)

/-! ### The zone units -/

/-- An evaluation request, a timer expiry and the allocator's cleared report are evaluation events: an IDLE zone begins an evaluation, a
GATHERING one owes another. -/
def Obligations.EvaluationEventsBeginOrOwe : Prop :=
  ∀ (s : State) (z : Zone), s.powered = true →
    (∃ t, exec (.evaluationRequest z) s = .next t ∧ t.zones = s.zones.set z (eventTaken s.zones[z]) ∧
      sent (.evaluationRequest z) s t (eventSends z s.zones[z]) ∧ onlyChanges [.zones, .inFlight] s t) ∧
    (∃ t, exec (.evaluationTimerExpiry z) s = .next t ∧
      t.zones = s.zones.set z (eventTaken { s.zones[z] with evalTimer := 10 }) ∧
      sent (.evaluationTimerExpiry z) s t (eventSends z s.zones[z]) ∧ onlyChanges [.zones, .inFlight] s t) ∧
    (∃ t, exec (.standbyClearedReport z) s = .next t ∧
      t.zones = s.zones.set z (eventTaken { s.zones[z] with request := none }) ∧
      sent (.standbyClearedReport z) s t (eventSends z s.zones[z]) ∧ onlyChanges [.zones, .inFlight] s t)

/-- The clear delay that runs out becomes RUN-OUT; the entry, pulse and space timers pass to DUE, SPACE and PULSE; each is an evaluation
event. -/
def Obligations.ZonePhaseTimersRunOut : Prop :=
  ∀ (s : State) (z : Zone) (n : Nat), s.powered = true →
    (s.zones[z].clearDelay = .running n →
      ∃ t, exec (.clearDelayRunOut z) s = .next t ∧
        t.zones = s.zones.set z (eventTaken { s.zones[z] with clearDelay := .runOut }) ∧
        sent (.clearDelayRunOut z) s t (eventSends z s.zones[z]) ∧ onlyChanges [.zones, .inFlight] s t) ∧
    (s.zones[z].quiet = .delay n →
      ∃ t, exec (.quietEntryTimerExpiry z) s = .next t ∧
        t.zones = s.zones.set z (eventTaken { s.zones[z] with quiet := .due }) ∧
        sent (.quietEntryTimerExpiry z) s t (eventSends z s.zones[z]) ∧ onlyChanges [.zones, .inFlight] s t) ∧
    (s.zones[z].quiet = .pulse n →
      ∃ t, exec (.pulseTimerExpiry z) s = .next t ∧
        t.zones = s.zones.set z
          (eventTaken { s.zones[z] with quiet := .space (60 * (s.store.cfg.zones[z].space + 1)) }) ∧
        sent (.pulseTimerExpiry z) s t (eventSends z s.zones[z]) ∧ onlyChanges [.zones, .inFlight] s t) ∧
    (s.zones[z].quiet = .space n →
      ∃ t, exec (.spaceTimerExpiry z) s = .next t ∧
        t.zones = s.zones.set z
          (eventTaken { s.zones[z] with quiet := .pulse (60 * (s.store.cfg.zones[z].pulse + 1)) }) ∧
        sent (.spaceTimerExpiry z) s t (eventSends z s.zones[z]) ∧ onlyChanges [.zones, .inFlight] s t)

/-- A zone's restart resets it; an IDLE zone begins a fresh evaluation, a GATHERING one first waits for the outstanding answer, which it
discards. -/
def Obligations.ZoneRestartDiscardsAnswer : Prop :=
  ∀ (s : State) (z : Zone), s.powered = true →
    (∃ t, exec (.zoneRestart z) s = .next t ∧ onlyChanges [.zones, .inFlight] s t ∧
      t.zones = s.zones.set z
        { ZoneUnit.initial s.store.cfg.zones[z].quietEntry with
          abandoned := decide (s.zones[z].evalState = .gathering) } ∧
      sent (.zoneRestart z) s t
        ((if s.zones[z].gasHigh = true then [.conditionClearReport .gasHigh z.val] else []) ++
          (if s.zones[z].evalState = .idle then [.stallSumRequest z] else []))) ∧
    (∀ answer : RosterAnswer, s.zones[z].evalState = .gathering → s.zones[z].abandoned = true →
      ∃ t, exec (.evaluationComplete z answer) s = .next t ∧ onlyChanges [.zones, .inFlight] s t ∧
        t.zones = s.zones.set z { s.zones[z] with abandoned := false } ∧
        sent (.evaluationComplete z answer) s t [.stallSumRequest z])

/-- An evaluation that completes finds its gas term, its raw demand, and its demand between floor and ceiling as the mode adjusts it; the
other zones are untouched, and a zone that owes an evaluation begins it at once. -/
def Obligations.EvaluationFindsDemand : Prop :=
  ∀ (s : State) (z : Zone) (answer : RosterAnswer), gathering s z →
    ∃ t, exec (.evaluationComplete z answer) s = .next t ∧ onlyChanges [.zones, .inFlight] s t ∧
      (∀ y : Zone, y ≠ z → t.zones[y] = s.zones[y]) ∧
      t.zones[z].baseFlow = s.store.cfg.zones[z].baseFlow ∧ t.zones[z].stallSum = answer.sum ∧
      t.zones[z].anticipationCount = answer.count ∧
      t.zones[z].anticipation = s.store.cfg.anticipationWeight * answer.count ∧
      largestOf s z HeadRecord.co t.zones[z].co ∧ largestOf s z HeadRecord.no2 t.zones[z].no2 ∧
      ((∀ h : HeadAddr, s.sensors.heads[h].zone ≠ some z) → t.zones[z].gasSource = some .noHeads ∧ t.zones[z].gasTerm = 0) ∧
      ((∃ h : HeadAddr, s.sensors.heads[h].zone = some z) → (∀ h : HeadAddr, ¬ countsIn s z h) →
        t.zones[z].gasSource = some .floorTerm ∧ t.zones[z].gasTerm = s.store.cfg.floorTerm) ∧
      ((∃ h : HeadAddr, countsIn s z h) →
        t.zones[z].gasSource = some .readings ∧
        t.zones[z].gasTerm =
          min s.store.cfg.gasCeiling
            (max (s.store.cfg.coFactor * (t.zones[z].co.getD 0 - s.store.cfg.coStart))
              (s.store.cfg.no2Factor * (t.zones[z].no2.getD 0 - s.store.cfg.no2Start)))) ∧
      t.zones[z].rawDemand =
        t.zones[z].baseFlow + t.zones[z].stallSum + t.zones[z].anticipation + t.zones[z].gasTerm ∧
      t.zones[z].clampedDemand =
        min (max t.zones[z].rawDemand s.store.cfg.zones[z].floor) s.store.cfg.zones[z].ceiling ∧
      (t.zones[z].mode = .normal ∨ t.zones[z].mode = .fireExtract ∨ t.zones[z].mode = .manualOn ∨ t.zones[z].mode = .quiet →
        t.zones[z].demand = t.zones[z].clampedDemand) ∧
      (t.zones[z].mode = .thermal →
        t.zones[z].demand =
          min (max t.zones[z].clampedDemand s.store.cfg.zones[z].thermalFloor) s.store.cfg.zones[z].ceiling) ∧
      (t.zones[z].mode = .gasAlarm → t.zones[z].demand = s.store.cfg.zones[z].ceiling) ∧
      (t.zones[z].mode = .smokeHold ∨ t.zones[z].mode = .manualOff → t.zones[z].demand = 0) ∧
      t.zones[z].again = false ∧ t.zones[z].abandoned = false ∧ t.zones[z].evalTimer = s.zones[z].evalTimer ∧
      (s.zones[z].again = false → t.zones[z].evalState = .idle) ∧
      (s.zones[z].again = true → t.zones[z].evalState = .gathering ∧ t.inFlight.getLast? = some (.stallSumRequest z))

/-- The mode is that of the highest rank whose condition holds, from the latch and the quiet phase brought up to date by the same
evaluation, the phase by the whole table of R64. That the quiet test holds on a floor term of 0 is the model's choice (log entry 40). -/
def Obligations.EvaluationChoosesMode : Prop :=
  ∀ (s : State) (z : Zone) (answer : RosterAnswer), gathering s z →
    ∃ t, exec (.evaluationComplete z answer) s = .next t ∧ ∃ l, sent (.evaluationComplete z answer) s t l ∧
      (s.fire.commands[z] = some .on → t.zones[z].mode = .manualOn) ∧
      (s.fire.commands[z] = some .off → t.zones[z].mode = .manualOff) ∧
      (s.fire.commands[z] = none → s.fire.latches[z] = true → t.zones[z].mode = .fireExtract) ∧
      (s.fire.commands[z] = none → s.fire.latches[z] = false →
        (adjacentFire s z → t.zones[z].mode = .smokeHold) ∧
        (¬ adjacentFire s z →
          (t.zones[z].gasHigh = true → t.zones[z].mode = .gasAlarm) ∧
          (t.zones[z].gasHigh = false → answer.thermal = true → t.zones[z].mode = .thermal) ∧
          (t.zones[z].gasHigh = false → answer.thermal = false →
            ((∃ n, t.zones[z].quiet = .pulse n ∨ t.zones[z].quiet = .space n) → t.zones[z].mode = .quiet) ∧
            ((∀ n, t.zones[z].quiet ≠ .pulse n ∧ t.zones[z].quiet ≠ .space n) → t.zones[z].mode = .normal)))) ∧
      (s.zones[z].gasHigh = false → t.zones[z].clearDelay = .idle ∧
        (t.zones[z].gasHigh = true ↔
          (∃ v ∈ t.zones[z].co, s.store.cfg.coHigh ≤ v) ∨ ∃ v ∈ t.zones[z].no2, s.store.cfg.no2High ≤ v)) ∧
      (s.zones[z].gasHigh = true →
        ((∃ v ∈ t.zones[z].co, v < s.store.cfg.coClear) ∧ (∃ v ∈ t.zones[z].no2, v < s.store.cfg.no2Clear) →
          (s.zones[z].clearDelay = .idle → t.zones[z].gasHigh = true ∧ t.zones[z].clearDelay = .running 60) ∧
          (∀ n, s.zones[z].clearDelay = .running n → t.zones[z].gasHigh = true ∧ t.zones[z].clearDelay = .running n) ∧
          (s.zones[z].clearDelay = .runOut → t.zones[z].gasHigh = false ∧ t.zones[z].clearDelay = .idle)) ∧
        (¬((∃ v ∈ t.zones[z].co, v < s.store.cfg.coClear) ∧ ∃ v ∈ t.zones[z].no2, v < s.store.cfg.no2Clear) →
          t.zones[z].gasHigh = true ∧ t.zones[z].clearDelay = .idle)) ∧
      (s.zones[z].gasHigh ≠ t.zones[z].gasHigh →
        (if t.zones[z].gasHigh then .conditionActiveReport .gasHigh z.val else .conditionClearReport .gasHigh z.val)
          ∈ l) ∧
      (¬(s.zones[z].mode = .fireExtract ↔ t.zones[z].mode = .fireExtract) →
        ∀ b : Zone, s.store.cfg.zones[z].adjacency.getLsbD b.val = true → .evaluationRequest b ∈ l) ∧
      quietFollows s.store.cfg.zones[z] (quietHolds s z answer t.zones[z]) s.zones[z].quiet t.zones[z].quiet

/-- In the staged modes the stage count rises to the fewest fans that carry the demand, and falls to the smallest count from there at which they
would run at no more than four fifths, being held where there is none; the speed is the demand over the staged capacity, rounded up; the shortfall
is what the available fans cannot carry. The mode and the shortfall decide the standby request, whose change is sent; the zone's fans and the
standby fans it holds get their targets and the damper its request. Three points are the model's choice: the standby targets use the request that
stands after the evaluation, its amount as the shortfall (log entry 33), the targets go by the role a channel has, whatever grant it has left (log
entry 43), and a standby fan FAILED or LOCKED-OUT whose grant still stands gets its target, the forced mark included (log entry 49). -/
def Obligations.StagingCarriesDemand : Prop :=
  ∀ (s : State) (z : Zone) (answer : RosterAnswer), gathering s z →
    ∃ t, exec (.evaluationComplete z answer) s = .next t ∧ ∃ l, sent (.evaluationComplete z answer) s t l ∧
      ∃ targets, .fanTargets z targets ∈ l ∧ (targets.map fun p => p.1.val).Pairwise (· < ·) ∧
      (∀ p ∈ targets, (s.store.cfg.channels[p.1].role = .zone z ∧ s.fans[p.1].state ≠ .service) ∨ holdsStandby s z p.1) ∧
      (stagedMode t.zones[z].mode →
        let fans := availableFans s z
        let q := firstRated s fans
        let k := t.zones[z].stageCount
        let d := t.zones[z].demand
        k ≤ fans.length ∧ (d ≤ q k ∨ k = fans.length) ∧ (d = 0 → k = 0) ∧ (0 < d → fans ≠ [] → 1 ≤ k) ∧
        (k < s.zones[z].stageCount → k = fans.length ∨ 5 * d ≤ 4 * q k) ∧
        (s.zones[z].stageCount < k → ∀ j, j < k → q j < d) ∧
        stageFollows q fans.length d s.zones[z].stageCount k ∧
        t.zones[z].shortfall = d - q fans.length ∧
        (k = 0 → t.zones[z].speed = none ∧ .damperRequest z .noRequest ∈ l) ∧
        (1 ≤ k → .damperRequest z .openPlain ∈ l) ∧
        (1 ≤ k → 0 < q k → ∃ p, t.zones[z].speed = some p ∧ 100 * d ≤ p * q k ∧ p * q k < 100 * d + q k) ∧
        (∀ c ∈ fans.take k, (c, FanTarget.on (runningSpeed s c (t.zones[z].speed.getD 0)) false) ∈ targets) ∧
        (∀ c : Chan, s.store.cfg.channels[c].role = .zone z → s.fans[c].state ≠ .service → c ∉ fans.take k →
          (c, FanTarget.off) ∈ targets)) ∧
      (t.zones[z].mode = .gasAlarm →
        t.zones[z].request =
          if t.zones[z].shortfall = 0 then none else some (.flow .gasAlarm t.zones[z].shortfall)) ∧
      (t.zones[z].mode = .normal ∨ t.zones[z].mode = .thermal →
        (t.zones[z].shortfall = 0 → t.zones[z].request = none) ∧
        (0 < t.zones[z].shortfall → coverDue s z → t.zones[z].request = some (.flow .failureCover t.zones[z].shortfall)) ∧
        (0 < t.zones[z].shortfall → ¬ coverDue s z → t.zones[z].request = some (.flow .shortfall t.zones[z].shortfall))) ∧
      l.filter isRequestEvent = requestSends z s.zones[z].request t.zones[z].request ∧
      (∀ cls amount, t.zones[z].request = some (.flow cls amount) → 0 < grantedFlow s s.alloc z →
        ∃ p, 100 * amount ≤ p * grantedFlow s s.alloc z ∧ p * grantedFlow s s.alloc z < 100 * amount + grantedFlow s s.alloc z ∧
          ∀ c : Chan, holdsStandby s z c → (c, FanTarget.on (runningSpeed s c p) false) ∈ targets) ∧
      (t.zones[z].request = some .fire → ∀ c : Chan, holdsStandby s z c → (c, FanTarget.on 100 true) ∈ targets) ∧
      (t.zones[z].request = none → ∀ c : Chan, holdsStandby s z c → ∀ target, (c, target) ∉ targets) ∧
      (t.zones[z].mode = .quiet →
        t.zones[z].request = none ∧ t.zones[z].shortfall = 0 ∧ .damperRequest z .openPlain ∈ l ∧
        (∀ c rest n, t.zones[z].quiet = .pulse n → availableFans s z = c :: rest →
          t.zones[z].stageCount = 1 ∧ t.zones[z].speed = some s.store.cfg.channels[c].minSpeed ∧
          (c, FanTarget.on (runningSpeed s c s.store.cfg.channels[c].minSpeed) false) ∈ targets ∧
          ∀ d : Chan, d ≠ c → s.store.cfg.channels[d].role = .zone z → s.fans[d].state ≠ .service →
            (d, FanTarget.off) ∈ targets) ∧
        ((∃ n, t.zones[z].quiet = .space n) ∨ availableFans s z = [] →
          t.zones[z].stageCount = 0 ∧ t.zones[z].speed = none ∧
          ∀ c : Chan, s.store.cfg.channels[c].role = .zone z → s.fans[c].state ≠ .service → (c, FanTarget.off) ∈ targets)) ∧
      (t.zones[z].mode = .fireExtract ∨ t.zones[z].mode = .manualOn →
        t.zones[z].request = some .fire ∧ t.zones[z].shortfall = 0 ∧ .damperRequest z .openForced ∈ l ∧
        t.zones[z].stageCount =
          ((List.finRange 16).filter fun c : Chan =>
            s.store.cfg.channels[c].role == .zone z && s.fans[c].state != .service).length ∧
        t.zones[z].speed = (if t.zones[z].stageCount = 0 then none else some 100) ∧
        ∀ c : Chan, s.store.cfg.channels[c].role = .zone z → s.fans[c].state ≠ .service → (c, FanTarget.on 100 true) ∈ targets) ∧
      (t.zones[z].mode = .smokeHold ∨ t.zones[z].mode = .manualOff →
        t.zones[z].stageCount = 0 ∧ t.zones[z].speed = none ∧ t.zones[z].request = none ∧ t.zones[z].shortfall = 0 ∧
        .damperRequest z .close ∈ l ∧
        ∀ c : Chan, s.store.cfg.channels[c].role = .zone z → s.fans[c].state ≠ .service → (c, FanTarget.off) ∈ targets)

/-! ### The fans and their start queues -/

/-- The targets of one evaluation are one event: the fans they start join their feed's queue in ascending channel number, at the tail, and then
each queue that gained a fan is examined once. -/
def Obligations.TargetsJoinQueueInOrder : Prop :=
  ∀ (s : State) (z : Zone) (targets : List (Chan × FanTarget)), s.powered = true → FansLaw s → ascending targets = true →
    (∀ p ∈ targets, s.fans[p.1].state = .off ∧ s.fans[p.1].target = .off ∧ acceptsTarget s z p.1 ∧
      ∃ speed, p.2 = .on speed false) →
    ∃ t joined, exec (.fanTargets z targets) s = .next t ∧
      onlyChanges [.fans, .queueA, .queueB, .dampers, .gates, .inFlight] s t ∧
      (∀ p ∈ targets, joined[p.1] = { s.fans[p.1] with state := .queued, target := p.2, timer := none }) ∧
      (∀ c : Chan, c ∉ targets.map Prod.fst → joined[c] = s.fans[c]) ∧
      (∀ f : Feed, (∃ p ∈ targets, feedOf s p.1 = f) →
        examinedAs { s with fans := joined } t f
          ((s.queue f).fans ++ (targets.map Prod.fst).filter fun c => decide (feedOf s c = f))) ∧
      (∀ f : Feed, (∀ p ∈ targets, feedOf s p.1 ≠ f) →
        t.queue f = s.queue f ∧ ∀ c ∈ (s.queue f).fans, t.fans[c] = s.fans[c]) ∧
      (∀ c : Chan, c ∉ targets.map Prod.fst → s.fans[c].state ≠ .queued → t.fans[c] = s.fans[c]) ∧
      (s.queueA.permit ≠ none → s.queueB.permit ≠ none →
        onlyChanges [.fans, .queueA, .queueB, .inFlight] s t ∧
          sent (.fanTargets z targets) s t ((targets.map Prod.fst).map .fanStateReport))

/-- A fan in OFF, LOCKED-OUT, FAILED or RETRY-WAIT that is given the forced mark joins its queue, and a QUEUED one is taken from its place and
placed again: directly behind the last marked fan, or at the head. A fan that leaves LOCKED-OUT or FAILED so sends its availability report. The
queue is then examined, and its first fan with an open path takes a free permit. That the mark clears a LOCKED-OUT or FAILED standby fan too, while
its grant still stands, is the model's choice (log entry 49). -/
def Obligations.ForcedMarkGoesToTheFront : Prop :=
  ∀ (s : State) (z : Zone) (c : Chan) (speed : Nat) (front behind : List Chan), s.powered = true → FansLaw s →
    acceptsTarget s z c → s.fans[c].target.marked = false →
    s.fans[c].state = .off ∨ s.fans[c].state = .lockedOut ∨ s.fans[c].state = .failed ∨ s.fans[c].state = .queued ∨
      s.fans[c].state = .retryWait →
    (s.queue (feedOf s c)).fans.erase c = front ++ behind → (∀ d ∈ front.getLast?, s.fans[d].target.marked = true) →
    (∀ d ∈ behind, s.fans[d].target.marked = false) →
    ∃ t l, exec (.fanTargets z [(c, .on speed true)]) s = .next t ∧ sent (.fanTargets z [(c, .on speed true)]) s t l ∧
      onlyChanges [.fans, .queueA, .queueB, .dampers, .gates, .inFlight] s t ∧
      (s.fans[c].state ≠ .queued → .fanStateReport c ∈ l) ∧
      ((s.queue (feedOf s c)).permit ≠ none → onlyChanges [.fans, .queueA, .queueB, .inFlight] s t) ∧
      let cleared := s.fans[c].state = .lockedOut ∨ s.fans[c].state = .failed
      (cleared → ∀ i ∈ availabilitySent s c false, i ∈ l) ∧
      replacedAndExamined s t c
        { s.fans[c] with
          state := .queued, target := .on speed true
          timer := if s.fans[c].state = .queued then s.fans[c].timer else none
          retryCount := if cleared then 0 else s.fans[c].retryCount
          lastFailure := if cleared then none else s.fans[c].lastFailure }
        (s.queue (feedOf s c)).permit (front ++ c :: behind)

/-- A target, by the state of the fan it reaches. One that equals the stored one, that reaches a fan in SERVICE, or that a standby fan's zone
sends without its grant, has no effect. In STOPPING, and unmarked in LOCKED-OUT and FAILED, it is stored. In RUNNING and STARTING a new speed
applies at once, in RUNNING a higher one starts the settle time with the start window in force (log entry 41), and an off target stops the fan; in
QUEUED and RETRY-WAIT an on target that gives no mark is stored in place and an off target brings the fan to OFF, but a fan out of retries that
loses the mark is locked out. That such a lock-out leaves the FAN-FAILED condition as it was is the model's reading (log entry 15). -/
def Obligations.TargetsAreTakenByState : Prop :=
  ∀ (s : State) (z : Zone) (c : Chan) (target : FanTarget), s.powered = true →
    ∃ t l, exec (.fanTargets z [(c, target)]) s = .next t ∧ sent (.fanTargets z [(c, target)]) s t l ∧
      (¬ acceptsTarget s z c ∨ s.fans[c].state = .service ∨ s.fans[c].target = target → onlyChanges [.inFlight] s t ∧ l = []) ∧
      (acceptsTarget s z c → s.fans[c].target ≠ target →
        (s.fans[c].state = .stopping ∨ (s.fans[c].state = .lockedOut ∨ s.fans[c].state = .failed) ∧ target.marked = false →
          onlyChanges [.fans, .inFlight] s t ∧ l = [] ∧ t.fans = s.fans.set c { s.fans[c] with target := target }) ∧
        (s.fans[c].state = .off → target = .off →
          onlyChanges [.fans, .inFlight] s t ∧ l = [] ∧ t.fans = s.fans.set c { s.fans[c] with target := .off }) ∧
        (s.fans[c].state = .running → ∀ speed marked, target = .on speed marked →
          onlyChanges [.fans, .inFlight] s t ∧ l = [] ∧
          t.fans = s.fans.set c
            { s.fans[c] with
              target := target, commanded := runningSpeed s c speed
              lowGates := if s.fans[c].commanded < runningSpeed s c speed then 0 else s.fans[c].lowGates
              settle :=
                if s.fans[c].commanded < runningSpeed s c speed then some s.fans[c].window else s.fans[c].settle }) ∧
        (s.fans[c].state = .running → target = .off →
          onlyChanges [.fans, .inFlight] s t ∧ l = [.fanStateReport c] ∧
          t.fans = s.fans.set c (stoppedRecord { s.fans[c] with target := .off } .commanded)) ∧
        (s.fans[c].state = .starting → ∀ speed marked, target = .on speed marked →
          onlyChanges [.fans, .inFlight] s t ∧ l = [] ∧
          t.fans = s.fans.set c { s.fans[c] with target := target, commanded := runningSpeed s c speed }) ∧
        (s.fans[c].state = .starting → target = .off → FansLaw s →
          onlyChanges [.fans, .queueA, .queueB, .dampers, .gates, .inFlight] s t ∧ .fanStateReport c ∈ l ∧
          replacedAndExamined s t c (stoppedRecord { s.fans[c] with target := .off } .commanded) none
            (s.queue (feedOf s c)).fans) ∧
        (s.fans[c].state = .queued ∨ s.fans[c].state = .retryWait → ¬(losesMark s c target ∧ outOfRetries s c) →
          (target.isOn = true → ¬ gainsMark s c target →
            onlyChanges [.fans, .inFlight] s t ∧ l = [] ∧ t.fans = s.fans.set c { s.fans[c] with target := target }) ∧
          (target = .off → FansLaw s →
            onlyChanges [.fans, .queueA, .queueB, .inFlight] s t ∧ l = [.fanStateReport c] ∧
            t.fans = s.fans.set c
              { s.fans[c] with
                state := .off, target := .off
                timer := if s.fans[c].state = .retryWait then none else s.fans[c].timer } ∧
            ∀ f, t.queue f = { s.queue f with fans := (s.queue f).fans.erase c })) ∧
        (s.fans[c].state = .queued ∨ s.fans[c].state = .retryWait → losesMark s c target → outOfRetries s c → FansLaw s →
          onlyChanges [.fans, .queueA, .queueB, .inFlight] s t ∧ l = .fanStateReport c :: availabilitySent s c false ∧
          t.fans = s.fans.set c
            { s.fans[c] with
              state := if s.fans[c].lastFailure = some .speedLost then .failed else .lockedOut
              target := target, timer := none } ∧
          ∀ f, t.queue f = { s.queue f with fans := (s.queue f).fans.erase c }))

/-- The allocator's off target stops a fan that runs or starts, frees the permit of a start, takes a fan that waits out of its queue or its retry
wait, and is stored by one that stops; a fan out of retries that loses the mark by it is locked out, with the FAN-FAILED condition as it was (log
entry 15). It has no effect at a fan in SERVICE or one whose target is off. -/
def Obligations.StandbyOffTargetStopsFan : Prop :=
  ∀ (s : State) (c : Chan), s.powered = true →
    (s.fans[c].target = .off ∨ s.fans[c].state = .service →
      ∃ t, exec (.standbyOffTarget c) s = .next t ∧ onlyChanges [.inFlight] s t ∧ sent (.standbyOffTarget c) s t []) ∧
    (s.fans[c].target.isOn = true →
      (s.fans[c].state = .running →
        ∃ t, exec (.standbyOffTarget c) s = .next t ∧ onlyChanges [.fans, .inFlight] s t ∧
          t.fans = s.fans.set c (stoppedRecord { s.fans[c] with target := .off } .commanded) ∧
          sent (.standbyOffTarget c) s t [.fanStateReport c]) ∧
      (s.fans[c].state = .queued ∨ s.fans[c].state = .retryWait →
        ¬(s.fans[c].target.marked = true ∧ outOfRetries s c) → FansLaw s →
        ∃ t, exec (.standbyOffTarget c) s = .next t ∧ onlyChanges [.fans, .queueA, .queueB, .inFlight] s t ∧
          t.fans = s.fans.set c
            { s.fans[c] with
              state := .off, target := .off
              timer := if s.fans[c].state = .retryWait then none else s.fans[c].timer } ∧
          (t.queue (feedOf s c)).fans = (s.queue (feedOf s c)).fans.erase c ∧
          (t.queue (feedOf s c)).permit = (s.queue (feedOf s c)).permit ∧
          (∀ f, f ≠ feedOf s c → t.queue f = s.queue f) ∧ sent (.standbyOffTarget c) s t [.fanStateReport c]) ∧
      (s.fans[c].state = .queued ∨ s.fans[c].state = .retryWait → s.fans[c].target.marked = true → outOfRetries s c →
        FansLaw s →
        ∃ t, exec (.standbyOffTarget c) s = .next t ∧ onlyChanges [.fans, .queueA, .queueB, .inFlight] s t ∧
          t.fans = s.fans.set c
            { s.fans[c] with
              state := if s.fans[c].lastFailure = some .speedLost then .failed else .lockedOut
              target := .off, timer := none } ∧
          (∀ f, t.queue f = { s.queue f with fans := (s.queue f).fans.erase c }) ∧
          sent (.standbyOffTarget c) s t (.fanStateReport c :: availabilitySent s c false)) ∧
      (s.fans[c].state = .starting → FansLaw s →
        ∃ t l, exec (.standbyOffTarget c) s = .next t ∧ sent (.standbyOffTarget c) s t l ∧ .fanStateReport c ∈ l ∧
          onlyChanges [.fans, .queueA, .queueB, .dampers, .gates, .inFlight] s t ∧
          replacedAndExamined s t c (stoppedRecord { s.fans[c] with target := .off } .commanded) none
            (s.queue (feedOf s c)).fans ∧
          ((∀ d ∈ (s.queue (feedOf s c)).fans, ¬ openPath s d) →
            onlyChanges [.fans, .queueA, .queueB, .inFlight] s t ∧
            t.fans = s.fans.set c (stoppedRecord { s.fans[c] with target := .off } .commanded) ∧
            t.queue (feedOf s c) = { s.queue (feedOf s c) with permit := none } ∧ l = [.fanStateReport c])) ∧
      (s.fans[c].state = .off ∨ s.fans[c].state = .stopping ∨ s.fans[c].state = .lockedOut ∨ s.fans[c].state = .failed →
        ∃ t, exec (.standbyOffTarget c) s = .next t ∧ onlyChanges [.fans, .inFlight] s t ∧
          t.fans = s.fans.set c { s.fans[c] with target := .off } ∧ sent (.standbyOffTarget c) s t []))

/-- While the permit is free, a report of an opened way and a path check give it to the first queued fan whose path is open, which starts; with
the permit held, or no path open, the queue stays as it is. -/
def Obligations.FirstOpenFanTakesPermit : Prop :=
  ∀ (s : State) (z : Zone) (g c : Chan), s.powered = true → FansLaw s →
    (∀ before behind speed marked, firstOpen s c before behind speed marked →
      ∃ t₁ t₂ t₃ t₄, exec (.damperOpenReport z (feedOf s c)) s = .next t₁ ∧ tookPermit s t₁ c before behind speed ∧
        exec (.gateAtReport g (feedOf s c)) s = .next t₂ ∧ tookPermit s t₂ c before behind speed ∧
        exec (.grantReport g (feedOf s c)) s = .next t₃ ∧ tookPermit s t₃ c before behind speed ∧
        exec (.pathCheck c) s = .next t₄ ∧ tookPermit s t₄ c before behind speed ∧
        sent (.pathCheck c) s t₄ [.fanStateReport c]) ∧
    (∀ f : Feed, (s.queue f).permit ≠ none ∨ (∀ d ∈ (s.queue f).fans, ¬ openPath s d) →
      ∃ t₁ t₂ t₃, exec (.damperOpenReport z f) s = .next t₁ ∧ onlyChanges [.inFlight] s t₁ ∧
        exec (.gateAtReport g f) s = .next t₂ ∧ onlyChanges [.inFlight] s t₂ ∧
        exec (.grantReport g f) s = .next t₃ ∧ onlyChanges [.inFlight] s t₃)

/-- Every gate stores the measured rpm; the second good gate in a row ends a start and frees its permit, the third low gate in a row outside the
settle time stops the fan, and a gate that passes the rundown test ends a rundown: a commanded one in OFF, or in the queue with an on target
stored, and a failed attempt by its decision. In the other states nothing else changes. -/
def Obligations.TachometerGates : Prop :=
  ∀ (s : State) (c : Chan) (edges : Nat), s.powered = true → FansLaw s →
    ∃ t, exec (.tachGateComplete c edges) s = .next t ∧ ∃ l, sent (.tachGateComplete c edges) s t l ∧
      (∀ d : Chan, d ≠ c → s.fans[d].state ≠ .queued → t.fans[d] = s.fans[d]) ∧
      let rpm := edges * 60 / s.store.cfg.channels[c].pulses
      let expected := s.store.cfg.channels[c].ratedRpm * s.fans[c].commanded / 100
      let measured := { s.fans[c] with measured := rpm }
      t.fans[c].measured = rpm ∧
      (s.fans[c].state = .starting → expected ≤ 2 * rpm → s.fans[c].goodGates = 0 →
        onlyChanges [.fans, .inFlight] s t ∧ l = [] ∧ t.fans = s.fans.set c { measured with goodGates := 1 }) ∧
      (s.fans[c].state = .starting → expected ≤ 2 * rpm → 1 ≤ s.fans[c].goodGates →
        onlyChanges [.fans, .queueA, .queueB, .dampers, .gates, .inFlight] s t ∧ .fanStateReport c ∈ l ∧
        replacedAndExamined s t c
          { measured with
            state := .running, goodGates := 2, lowGates := 0, timer := some (.cleanRun 600), settle := none,
            failedCondition := false }
          none (s.queue (feedOf s c)).fans ∧
        (s.fans[c].failedCondition = true →
          .conditionClearReport .fanFailed c.val ∈ l ∧ ∀ i ∈ availabilitySent s c false, i ∈ l)) ∧
      (s.fans[c].state = .starting → 2 * rpm < expected →
        onlyChanges [.fans, .inFlight] s t ∧ l = [] ∧ t.fans = s.fans.set c { measured with goodGates := 0 }) ∧
      (s.fans[c].state = .running → s.fans[c].settle ≠ none →
        onlyChanges [.fans, .inFlight] s t ∧ l = [] ∧ t.fans = s.fans.set c measured) ∧
      (s.fans[c].state = .running → s.fans[c].settle = none → 10 * rpm < 7 * expected → s.fans[c].lowGates < 2 →
        onlyChanges [.fans, .inFlight] s t ∧ l = [] ∧
        t.fans = s.fans.set c { measured with lowGates := s.fans[c].lowGates + 1 }) ∧
      (s.fans[c].state = .running → s.fans[c].settle = none → 10 * rpm < 7 * expected → 2 ≤ s.fans[c].lowGates →
        onlyChanges [.fans, .inFlight] s t ∧ l = [.fanStateReport c] ∧
        t.fans = s.fans.set c (stoppedRecord { measured with lowGates := 3 } (.failure .speedLost))) ∧
      (s.fans[c].state = .running → s.fans[c].settle = none → 7 * expected ≤ 10 * rpm →
        onlyChanges [.fans, .inFlight] s t ∧ l = [] ∧ t.fans = s.fans.set c { measured with lowGates := 0 }) ∧
      (s.fans[c].state = .stopping → s.store.cfg.channels[c].ratedRpm ≤ 10 * rpm →
        onlyChanges [.fans, .inFlight] s t ∧ l = [] ∧ t.fans = s.fans.set c measured) ∧
      (s.fans[c].state = .stopping → 10 * rpm < s.store.cfg.channels[c].ratedRpm → rundownEnded s t c measured l) ∧
      (s.fans[c].state ≠ .starting → s.fans[c].state ≠ .running → s.fans[c].state ≠ .stopping →
        onlyChanges [.fans, .inFlight] s t ∧ l = [] ∧ t.fans = s.fans.set c measured)

/-- A start window that runs out stops the fan and frees its permit, and its queue is examined; the settle time and the clean-run time end as the
manual gives; a retry wait that runs out puts the fan in its queue, at the tail or, with the forced mark, behind the last marked fan, and the queue
is examined. -/
def Obligations.FanTimersRunOut : Prop :=
  ∀ (s : State) (c : Chan), s.powered = true →
    (s.fans[c].state = .starting → FansLaw s →
      ∃ t l, exec (.startWindowRunOut c) s = .next t ∧ sent (.startWindowRunOut c) s t l ∧ .fanStateReport c ∈ l ∧
        (t.queue (feedOf s c)).permit ≠ some c ∧ t.fans[c] = stoppedRecord s.fans[c] (.failure .startFailed) ∧
        onlyChanges [.fans, .queueA, .queueB, .dampers, .gates, .inFlight] s t ∧
        replacedAndExamined s t c (stoppedRecord s.fans[c] (.failure .startFailed)) none (s.queue (feedOf s c)).fans ∧
        ((∀ d ∈ (s.queue (feedOf s c)).fans, ¬ openPath s d) →
          onlyChanges [.fans, .queueA, .queueB, .inFlight] s t ∧
          t.fans = s.fans.set c (stoppedRecord s.fans[c] (.failure .startFailed)) ∧
          t.queue (feedOf s c) = { s.queue (feedOf s c) with permit := none } ∧ l = [.fanStateReport c])) ∧
    (∃ t, exec (.settleTimeExpiry c) s = .next t ∧ onlyChanges [.fans, .inFlight] s t ∧
      t.fans = s.fans.set c { s.fans[c] with settle := none }) ∧
    (∀ n, s.fans[c].timer = some (.cleanRun n) →
      ∃ t, exec (.cleanRunExpiry c) s = .next t ∧ onlyChanges [.fans, .inFlight] s t ∧
        t.fans = s.fans.set c { s.fans[c] with retryCount := 0, timer := none }) ∧
    (FansLaw s → s.fans[c].state = .retryWait →
      ∃ t l, exec (.retryWaitExpiry c) s = .next t ∧ sent (.retryWaitExpiry c) s t l ∧ .fanStateReport c ∈ l ∧
        onlyChanges [.fans, .queueA, .queueB, .dampers, .gates, .inFlight] s t ∧
        (∃ q, joinedAs s c s.fans[c].target.marked (s.queue (feedOf s c)).fans q ∧
          replacedAndExamined s t c { s.fans[c] with state := .queued, timer := none } (s.queue (feedOf s c)).permit q) ∧
        (s.fans[c].target.marked = false → (s.queue (feedOf s c)).permit ≠ none →
          onlyChanges [.fans, .queueA, .queueB, .inFlight] s t ∧
          t.fans = s.fans.set c { s.fans[c] with state := .queued, timer := none } ∧
          t.queue (feedOf s c) = { s.queue (feedOf s c) with fans := (s.queue (feedOf s c)).fans ++ [c] } ∧
          l = [.fanStateReport c]))

/-- The end of a rundown: a commanded stop brings the fan to OFF, and with an on target stored it joins its queue at once; a failed attempt adds to
the retry count and decides the next state by the retry limit, the effective action and the stored target, with the availability report of a fan
that is locked out or failed, and FAN-FAILED becomes active when the count comes to the limit and only then (log entry 15). -/
def Obligations.RundownDecidesNextState : Prop :=
  ∀ (s : State) (c : Chan), s.powered = true → s.fans[c].state = .stopping →
    ∃ t, exec (.rundownLimitExpiry c) s = .next t ∧ ∃ l, sent (.rundownLimitExpiry c) s t l ∧ rundownEnded s t c s.fans[c] l

/-- FAN-SERVICE takes a fan into SERVICE with its timers stopped and its target off, and out of SERVICE to OFF, its gate then in use by its role;
it takes a fan from LOCKED-OUT and FAILED to OFF with its target kept, and to its queue at once when that is on (log entry 44). A restart clears
the fans in LOCKED-OUT and FAILED alone. Each of these sends the fan's availability report; that it says whether the fan left SERVICE (log entry
21), and the empty payload of the answer DONE (log entry 48), are the model's choice. -/
def Obligations.ServiceAndRestartClearFans : Prop :=
  ∀ s : State,
    (∀ (channel : Nat) (c : Chan), ready s → channel = c.val → s.fans[c].state ≠ .service →
      ∃ t l, exec (.fanService channel 1) s = .next t ∧ sent (.fanService channel 1) s t l ∧ answering s t 0x30 .done [] ∧
        .fanStateReport c ∈ l ∧ (∀ i ∈ availabilitySent s c false, i ∈ l) ∧
        t.fans[c] =
          { s.fans[c] with
            state := .service, target := .off, runOutput := false, commanded := 0, timer := none, settle := none } ∧
        (FansLaw s → c ∉ (t.queue (feedOf s c)).fans ∧ (t.queue (feedOf s c)).permit ≠ some c) ∧
        (s.fans[c].state ≠ .starting →
          onlyChanges [.fans, .queueA, .queueB, .port, .inFlight] s t ∧ ∀ d : Chan, d ≠ c → t.fans[d] = s.fans[d])) ∧
    (∀ (channel : Nat) (c : Chan), ready s → channel = c.val →
      ∃ t, exec (.fanService channel 0) s = .next t ∧ ∃ l, sent (.fanService channel 0) s t l ∧ answering s t 0x30 .done [] ∧
        let cleared := { s.fans[c] with state := .off, retryCount := 0, lastFailure := none, failedCondition := false, timer := none }
        (s.fans[c].state ≠ .service → s.fans[c].state ≠ .lockedOut → s.fans[c].state ≠ .failed →
          onlyChanges [.port, .inFlight] s t ∧ l = [.responseSent]) ∧
        (s.fans[c].state = .service →
          onlyChanges [.fans, .gates, .port, .inFlight] s t ∧ t.fans = s.fans.set c { cleared with target := .off } ∧
          (∀ d : Chan, d ≠ c → t.gates[d] = s.gates[d]) ∧
          ((∃ reach, s.store.cfg.channels[c].role = .standby reach) → t.gates[c].inUse = true) ∧
          ((∀ reach, s.store.cfg.channels[c].role ≠ .standby reach) → t.gates[c].inUse = false)) ∧
        (s.fans[c].state = .lockedOut ∨ s.fans[c].state = .failed →
          (s.fans[c].target = .off →
            onlyChanges [.fans, .port, .inFlight] s t ∧ t.fans = s.fans.set c cleared) ∧
          (s.fans[c].target.isOn = true → FansLaw s →
            onlyChanges [.fans, .queueA, .queueB, .dampers, .gates, .port, .inFlight] s t ∧
            ∃ q, joinedAs s c s.fans[c].target.marked (s.queue (feedOf s c)).fans q ∧
              replacedAndExamined s t c { cleared with state := .queued } (s.queue (feedOf s c)).permit q)) ∧
        (s.fans[c].state = .service ∨ s.fans[c].state = .lockedOut ∨ s.fans[c].state = .failed →
          .fanStateReport c ∈ l ∧ (∀ i ∈ availabilitySent s c (s.fans[c].state == .service), i ∈ l) ∧
            (s.fans[c].failedCondition = true → .conditionClearReport .fanFailed c.val ∈ l))) ∧
    (∀ channel setting : Nat, ready s → 15 < channel ∨ 1 < setting →
      ∃ t, exec (.fanService channel setting) s = .next t ∧ answering s t 0x30 .fieldRange []) ∧
    (s.powered = true →
      ∃ t l, exec .fanRestart s = .next t ∧ sent .fanRestart s t l ∧ onlyChanges [.fans, .inFlight] s t ∧
        ∀ c : Chan,
          (s.fans[c].state = .lockedOut ∨ s.fans[c].state = .failed →
            .fanStateReport c ∈ l ∧ (∀ i ∈ availabilitySent s c false, i ∈ l) ∧
              (s.fans[c].failedCondition = true → .conditionClearReport .fanFailed c.val ∈ l)) ∧
          t.fans[c] =
            if s.fans[c].state = .lockedOut ∨ s.fans[c].state = .failed then
              { s.fans[c] with
                state := .off, target := .off, retryCount := 0, lastFailure := none, failedCondition := false, timer := none }
            else s.fans[c])

/-! ### Dampers and gates -/

/-- A damper request that differs from the stored one is stored and taken by the damper's state: an open request begins or reverses a travel at
once, a close request waits for the fans of the blocking set, and no request moves nothing. -/
def Obligations.DamperRequestsAreTaken : Prop :=
  ∀ (s : State) (z : Zone) (request : DamperRequest), s.powered = true →
    ∃ t, exec (.damperRequest z request) s = .next t ∧
      ∃ l, sent (.damperRequest z request) s t l ∧ onlyChanges [.dampers, .inFlight] s t ∧
      (∀ y : Zone, y ≠ z → t.dampers[y] = s.dampers[y]) ∧ t.dampers[z].blocking = s.dampers[z].blocking ∧
      t.dampers[z].request = request ∧
      (s.dampers[z].request = request → t.dampers = s.dampers) ∧
      (s.dampers[z].request ≠ request → request = .openPlain ∨ request = .openForced →
        t.dampers[z].closePending = false ∧
        (s.dampers[z].state = .opening ∨ s.dampers[z].state = .opened →
          t.dampers[z].state = s.dampers[z].state ∧ t.dampers[z].timer = s.dampers[z].timer) ∧
        (s.dampers[z].state = .closed ∨ s.dampers[z].state = .closing ∨ s.dampers[z].state = .jammed →
          (s.pins.openSwitch[z] = true ∧ s.pins.closedSwitch[z] = false →
            t.dampers[z].state = .opened ∧ t.dampers[z].timer = none ∧ .damperOpenReport z .a ∈ l ∧
              .damperOpenReport z .b ∈ l) ∧
          (¬(s.pins.openSwitch[z] = true ∧ s.pins.closedSwitch[z] = false) →
            t.dampers[z].state = .opening ∧ t.dampers[z].timer = some s.store.cfg.zones[z].damperTimeout))) ∧
      (s.dampers[z].request ≠ request → request = .close →
        (s.dampers[z].state = .closed ∨ s.dampers[z].state = .closing →
          t.dampers[z] = { s.dampers[z] with request := request }) ∧
        (s.dampers[z].state = .opened ∨ s.dampers[z].state = .opening ∨ s.dampers[z].state = .jammed →
          (s.dampers[z].blocking ≠ [] → t.dampers[z] = { s.dampers[z] with request := request, closePending := true }) ∧
          (s.dampers[z].blocking = [] →
            (s.pins.openSwitch[z] = false ∧ s.pins.closedSwitch[z] = true →
              t.dampers[z].state = .closed ∧ t.dampers[z].timer = none) ∧
            (¬(s.pins.openSwitch[z] = false ∧ s.pins.closedSwitch[z] = true) →
              t.dampers[z].state = .closing ∧ t.dampers[z].timer = some s.store.cfg.zones[z].damperTimeout)))) ∧
      (s.dampers[z].request ≠ request → request = .noRequest →
        t.dampers[z] = { s.dampers[z] with request := request, closePending := false })

/-- The table of R103: what each change of the switch reading does in each state of the damper; a change of the switches that leaves the
reading as it was is none. Reaching OPEN is reported to both Start Queues, a position reached ends the condition, and entering or leaving JAMMED
asks the zone to evaluate. -/
def Obligations.EndSwitchesMoveDamper : Prop :=
  ∀ (s : State) (z : Zone) (openSwitch closedSwitch : Bool), s.powered = true →
    ∃ t, exec (.endSwitchChange z openSwitch closedSwitch) s = .next t ∧
      ∃ l, sent (.endSwitchChange z openSwitch closedSwitch) s t l ∧ onlyChanges [.dampers, .pins, .inFlight] s t ∧
      t.pins =
        { s.pins with
          openSwitch := s.pins.openSwitch.set z openSwitch, closedSwitch := s.pins.closedSwitch.set z closedSwitch } ∧
      (∀ y : Zone, y ≠ z → t.dampers[y] = s.dampers[y]) ∧
      (readingOf openSwitch closedSwitch = reading s z → t.dampers = s.dampers) ∧
      (readingOf openSwitch closedSwitch ≠ reading s z →
        (s.dampers[z].state = .closed →
          t.dampers[z].state = if readingOf openSwitch closedSwitch = .fullyClosed then .closed else .jammed) ∧
        (s.dampers[z].state = .opened →
          t.dampers[z].state = if readingOf openSwitch closedSwitch = .fullyOpen then .opened else .jammed) ∧
        (s.dampers[z].state = .opening →
          (readingOf openSwitch closedSwitch = .fullyOpen → t.dampers[z].state = .opened ∧ t.dampers[z].timer = none) ∧
          (readingOf openSwitch closedSwitch ≠ .fullyOpen → t.dampers = s.dampers)) ∧
        (s.dampers[z].state = .closing →
          (readingOf openSwitch closedSwitch = .fullyClosed → t.dampers[z].state = .closed ∧ t.dampers[z].timer = none) ∧
          (readingOf openSwitch closedSwitch ≠ .fullyClosed → t.dampers = s.dampers)) ∧
        (s.dampers[z].state = .jammed →
          t.dampers[z].state =
            if readingOf openSwitch closedSwitch = .fullyOpen ∧ s.dampers[z].request ≠ .close then .opened
            else if readingOf openSwitch closedSwitch = .fullyClosed ∧
              (s.dampers[z].request = .close ∨ s.dampers[z].request = .noRequest) then .closed
            else .jammed)) ∧
      t.dampers[z].request = s.dampers[z].request ∧ t.dampers[z].blocking = s.dampers[z].blocking ∧
      (s.dampers[z].state ≠ .jammed → t.dampers[z].state = .jammed →
        t.dampers[z].timer = none ∧ .evaluationRequest z ∈ l ∧ t.dampers[z].jamCondition = true ∧
          (s.dampers[z].jamCondition = false → .conditionActiveReport .damperJammed z.val ∈ l)) ∧
      (s.dampers[z].state ≠ .opened → t.dampers[z].state = .opened → .damperOpenReport z .a ∈ l ∧ .damperOpenReport z .b ∈ l) ∧
      (s.dampers[z].state ≠ t.dampers[z].state → t.dampers[z].state = .opened ∨ t.dampers[z].state = .closed →
        t.dampers[z].timer = none ∧ t.dampers[z].openOutput = false ∧ t.dampers[z].closeOutput = false ∧
        t.dampers[z].jamCondition = false ∧
          (s.dampers[z].jamCondition = true → .conditionClearReport .damperJammed z.val ∈ l)) ∧
      (s.dampers[z].state = .jammed → t.dampers[z].state ≠ .jammed → .evaluationRequest z ∈ l)

/-- A travel timer that runs out jams a damper that opens or closes and a gate that travels, with the condition reported. -/
def Obligations.TravelTimeoutsJam : Prop :=
  ∀ s : State, s.powered = true →
    (∀ z : Zone, s.dampers[z].state = .opening ∨ s.dampers[z].state = .closing →
      ∃ t, exec (.damperTravelTimeout z) s = .next t ∧ onlyChanges [.dampers, .inFlight] s t ∧
        t.dampers = s.dampers.set z { s.dampers[z] with state := .jammed, timer := none, jamCondition := true } ∧
        sent (.damperTravelTimeout z) s t
          ((if s.dampers[z].jamCondition then [] else [.conditionActiveReport .damperJammed z.val]) ++
            [.evaluationRequest z])) ∧
    (∀ c : Chan, s.gates[c].inUse = true → s.gates[c].state = .travelling →
      ∃ t, exec (.gateTravelTimeout c) s = .next t ∧ onlyChanges [.gates, .inFlight] s t ∧
        t.gates = s.gates.set c { s.gates[c] with state := .jammed, timer := none, jamCondition := true } ∧
        sent (.gateTravelTimeout c) s t
          ((if s.gates[c].jamCondition then [] else [.conditionActiveReport .gateJammed c.val]) ++ [.gateJamReport c]))

/-- A gate command moves the gate toward its target, waits while the fan may discharge through it, and is no change when it repeats the
stored target at a gate that is not jammed. -/
def Obligations.GateCommandsMoveGate : Prop :=
  ∀ (s : State) (c : Chan) (target : GateTarget), s.powered = true →
    ∃ t, exec (.gateCommand c target) s = .next t ∧ onlyChanges [.gates, .inFlight] s t ∧
      (s.gates[c].inUse = false → t.gates = s.gates) ∧
      (s.gates[c].target = target → s.gates[c].state ≠ .jammed → t.gates = s.gates) ∧
      (s.gates[c].inUse = true → s.gates[c].target ≠ target ∨ s.gates[c].state = .jammed →
        ((s.gates[c].lastReport = .starting ∨ s.gates[c].lastReport = .running ∨ s.gates[c].lastReport = .stopping ∨
            s.gates[c].lastReport = .service ∨ s.gates[c].answered = true) →
          t.gates = s.gates.set c { s.gates[c] with target := target, pending := true }) ∧
        (s.gates[c].lastReport ≠ .starting → s.gates[c].lastReport ≠ .running → s.gates[c].lastReport ≠ .stopping →
          s.gates[c].lastReport ≠ .service → s.gates[c].answered = false →
          (∀ z, target = .zone z → s.gates[c].state = .atZone z →
            t.gates = s.gates.set c { s.gates[c] with target := target, pending := false }) ∧
          (s.gates[c].state ≠ GateTarget.reached target →
            t.gates = s.gates.set c
              { s.gates[c] with
                target := target, pending := false, output := target, state := .travelling, timer := some 90
                jamCondition := s.gates[c].jamCondition })))

/-- The feedback that enters the band of the command output ends a travel or a jam there; a gate at rest whose feedback leaves its band is
jammed. -/
def Obligations.GateFeedbackSetsPosition : Prop :=
  ∀ (s : State) (c : Chan) (band : GateBand), s.powered = true →
    ∃ t, exec (.gateFeedbackBandChange c band) s = .next t ∧
      ∃ l, sent (.gateFeedbackBandChange c band) s t l ∧ onlyChanges [.gates, .pins, .inFlight] s t ∧
      t.pins = { s.pins with feedback := s.pins.feedback.set c band } ∧
      (∀ d : Chan, d ≠ c → t.gates[d] = s.gates[d]) ∧
      (s.gates[c].inUse = false ∨ s.pins.feedback[c] = band → t.gates = s.gates) ∧
      (s.gates[c].inUse = true → s.pins.feedback[c] ≠ band →
        (s.gates[c].state = .travelling ∨ s.gates[c].state = .jammed →
          (∀ z, s.gates[c].output = .zone z → band = .zone z →
            t.gates[c].state = .atZone z ∧ t.gates[c].timer = none ∧ t.gates[c].jamCondition = false ∧
              .gateAtReport c .a ∈ l ∧ .gateAtReport c .b ∈ l) ∧
          (s.gates[c].output = .closed → band = .closed →
            t.gates[c].state = .closed ∧ t.gates[c].timer = none ∧ t.gates[c].jamCondition = false) ∧
          (band ≠ GateTarget.band s.gates[c].output → t.gates = s.gates)) ∧
        (∀ z, s.gates[c].state = .atZone z → band ≠ .zone z →
          t.gates[c].state = .jammed ∧ t.gates[c].jamCondition = true ∧ .gateJamReport c ∈ l) ∧
        (s.gates[c].state = .closed → band ≠ .closed →
          t.gates[c].state = .jammed ∧ t.gates[c].jamCondition = true ∧ .gateJamReport c ∈ l))

/-- A fan's state report: a fan that turns holds its zone's damper open, one that does not lets go of it, the last to let go lets a pending
close begin, and a gate whose fan may let it move takes its pending target; a gate with none records the report alone. A gate whose fan has left
SERVICE in another role than STANDBY goes out of use. -/
def Obligations.FanStateReportsReachDampersAndGates : Prop :=
  ∀ (s : State) (c : Chan), s.powered = true →
    (∀ z, s.gates[c].inUse = false → s.store.cfg.channels[c].role = .zone z →
      ∃ t, exec (.fanStateReport c) s = .next t ∧ onlyChanges [.dampers, .inFlight] s t ∧
        (s.fans[c].state = .starting ∨ s.fans[c].state = .running →
          t.dampers = s.dampers.set z { s.dampers[z] with blocking := s.dampers[z].blocking.insert c }) ∧
        (s.fans[c].state ≠ .starting → s.fans[c].state ≠ .running → ∀ y : Zone,
          c ∉ t.dampers[y].blocking ∧ (∀ d : Chan, d ≠ c → (d ∈ t.dampers[y].blocking ↔ d ∈ s.dampers[y].blocking)) ∧
          (c ∉ s.dampers[y].blocking → t.dampers[y] = s.dampers[y]) ∧
          (c ∈ s.dampers[y].blocking → s.dampers[y].closePending = true → (∀ d ∈ s.dampers[y].blocking, d = c) →
            t.dampers[y].closePending = false ∧
            (s.pins.openSwitch[y] = false ∧ s.pins.closedSwitch[y] = true → t.dampers[y].state = .closed) ∧
            (¬(s.pins.openSwitch[y] = false ∧ s.pins.closedSwitch[y] = true) →
              t.dampers[y].state = .closing ∧ t.dampers[y].timer = some s.store.cfg.zones[y].damperTimeout)) ∧
          (c ∈ s.dampers[y].blocking → s.dampers[y].closePending = false ∨ (∃ d ∈ s.dampers[y].blocking, d ≠ c) →
            t.dampers[y].state = s.dampers[y].state ∧ t.dampers[y].closePending = s.dampers[y].closePending))) ∧
    (∀ reach, s.gates[c].inUse = false → s.store.cfg.channels[c].role = .standby reach → s.fans[c].state = .off →
      (∀ y : Zone, c ∉ s.dampers[y].blocking) →
      ∃ t, exec (.fanStateReport c) s = .next t ∧ t.gates[c].inUse = true ∧ t.gates[c].lastReport = .off ∧
        t.gates[c].state =
          match s.pins.feedback[c] with
          | .zone z => .atZone z
          | .closed => .closed
          | .between => .travelling) ∧
    (∀ reach, s.store.cfg.channels[c].role = .standby reach →
      s.gates[c].inUse = true → s.gates[c].pending = true → (∀ y : Zone, c ∉ s.dampers[y].blocking) →
      (s.fans[c].state = .off ∨ s.fans[c].state = .queued ∨ s.fans[c].state = .retryWait ∨ s.fans[c].state = .lockedOut ∨
        s.fans[c].state = .failed →
      ∃ t, exec (.fanStateReport c) s = .next t ∧
        ∃ l, sent (.fanStateReport c) s t l ∧ onlyChanges [.gates, .inFlight] s t ∧ t.gates[c].pending = false ∧
        t.gates[c].lastReport = s.fans[c].state ∧ t.gates[c].answered = false ∧
        (s.gates[c].state ≠ GateTarget.reached s.gates[c].target →
          t.gates[c].state = .travelling ∧ t.gates[c].output = s.gates[c].target ∧ t.gates[c].timer = some 90) ∧
        (∀ z, s.gates[c].target = .zone z → s.gates[c].state = .atZone z →
          t.gates[c].state = .atZone z ∧ .gateAtReport c .a ∈ l ∧ .gateAtReport c .b ∈ l)) ∧
      (s.fans[c].state = .starting ∨ s.fans[c].state = .running ∨ s.fans[c].state = .stopping ∨ s.fans[c].state = .service →
      ∃ t, exec (.fanStateReport c) s = .next t ∧ onlyChanges [.gates, .inFlight] s t ∧ t.gates[c].pending = true ∧
        t.gates[c].state = s.gates[c].state ∧ t.gates[c].lastReport = s.fans[c].state)) ∧
    (∀ reach, s.store.cfg.channels[c].role = .standby reach →
      s.gates[c].inUse = true → s.gates[c].pending = false → (∀ y : Zone, c ∉ s.dampers[y].blocking) →
      ∃ t, exec (.fanStateReport c) s = .next t ∧ onlyChanges [.gates, .inFlight] s t ∧ sent (.fanStateReport c) s t [] ∧
        t.gates = s.gates.set c { s.gates[c] with lastReport := s.fans[c].state, answered := false }) ∧
    (s.gates[c].inUse = true → s.fans[c].state ≠ .service → (∀ reach, s.store.cfg.channels[c].role ≠ .standby reach) →
      ∃ t, exec (.fanStateReport c) s = .next t ∧ ∃ l, sent (.fanStateReport c) s t l ∧
        onlyChanges [.dampers, .gates, .inFlight] s t ∧
        t.gates = s.gates.set c
          { inUse := false, state := .closed, target := .closed, pending := false, output := .closed, timer := none,
            jamCondition := false, lastReport := .off, answered := false } ∧
        (s.gates[c].jamCondition = true → .conditionClearReport .gateJammed c.val ∈ l))

/-! ### The standby allocator -/

/-- Each event the allocator runs on is taken into the list oldest first and followed by a run that ends what cannot stand, carries the
differences out and keeps the cover timers. Three points are the model's choice: a change for a zone the list holds no request for is appended
(log entry 20), the availability report carries whether its fan left SERVICE (log entry 21), and a run ends a grant whose zone has left the fan's
reach (log entry 37). -/
def Obligations.AllocationRunsOnItsEvents : Prop :=
  ∀ (s : State), s.powered = true → AllocLaw s.alloc →
    (∀ (z : Zone) (call : StandbyCall),
      (∃ t, exec (.standbyRequestRaise z call) s = .next t ∧
        ranOn (.standbyRequestRaise z call) s t (called (callsOf s.alloc) z call)) ∧
      ∃ t, exec (.standbyRequestChange z call) s = .next t ∧
        ranOn (.standbyRequestChange z call) s t (called (callsOf s.alloc) z call)) ∧
    (∀ z : Zone, ∃ t, exec (.standbyRequestWithdraw z) s = .next t ∧
      ranOn (.standbyRequestWithdraw z) s t ((callsOf s.alloc).filter fun e => e.1 != z)) ∧
    (∀ c : Chan, ∃ t, exec (.gateJamReport c) s = .next t ∧ ranOn (.gateJamReport c) s t (callsOf s.alloc)) ∧
    (∀ (c : Chan) (leftService : Bool), ∃ t, exec (.standbyAvailabilityReport c leftService) s = .next t ∧
      ranOn (.standbyAvailabilityReport c leftService) s t (callsOf s.alloc) ∧
      (leftService = true → s.gates[c].state = .jammed → t.alloc.grants[c] = none →
        ∃ l, sent (.standbyAvailabilityReport c leftService) s t l ∧ parked s c l))

/-- A run decides the grants in the steps of R112 to R114: surplus fans are released in descending channel number, fires take a fan each in rounds,
and the other requests are served in class and list order, a gate AT the zone and then the lowest channel preferred, and the youngest holder of the
lowest class preempted. So fires take every usable fan in their reach, a gas alarm takes the fans of lower classes, and no request that is not
covered is left a free fan. That a grant whose zone has left the fan's reach ends first is the model's choice (log entry 37). -/
def Obligations.AllocationRunServesRequests : Prop :=
  ∀ (i : Instr) (s t : State), s.powered = true → AllocLaw s.alloc →
    ((∃ z call, i = .standbyRequestRaise z call ∨ i = .standbyRequestChange z call) ∨ (∃ z, i = .standbyRequestWithdraw z) ∨
      (∃ c, i = .gateJamReport c) ∨ ∃ c left, i = .standbyAvailabilityReport c left) →
    exec i s = .next t → servedBy s t ∧ grantsDecided s (callsOf t.alloc) s.alloc.grants t.alloc.grants

/-- A cover timer that runs out makes the zone's SHORTFALL condition active; the allocator's restart ends every grant and tells every zone. -/
def Obligations.CoverTimerAndAllocatorRestart : Prop :=
  ∀ s : State, s.powered = true →
    (∀ (z : Zone) (e : StandbyEntry) (n : Nat), AllocLaw s.alloc → e ∈ s.alloc.requests → e.zone = z → e.cover = some n →
      ∃ t, exec (.coverTimerExpiry z) s = .next t ∧ onlyChanges [.alloc, .inFlight] s t ∧
        t.alloc =
          { s.alloc with
            requests := s.alloc.requests.map fun d => if d.zone = z then { d with cover := none } else d
            shortfall := s.alloc.shortfall.set z true } ∧
        sent (.coverTimerExpiry z) s t
          (if s.alloc.shortfall[z] = true then [] else [.conditionActiveReport .shortfall z.val])) ∧
    (∀ z : Zone, (∀ e ∈ s.alloc.requests, e.zone = z → e.cover = none) →
      ∃ t, exec (.coverTimerExpiry z) s = .next t ∧ onlyChanges [.inFlight] s t) ∧
    ∃ t, exec .allocatorRestart s = .next t ∧ onlyChanges [.alloc, .inFlight] s t ∧ t.alloc.requests = [] ∧
      (∀ c : Chan, t.alloc.grants[c] = none) ∧ (∀ z : Zone, t.alloc.shortfall[z] = false) ∧
      ∃ l, sent .allocatorRestart s t l ∧
        (∀ c : Chan, s.alloc.grants[c] ≠ none →
          .standbyOffTarget c ∈ l ∧ parked s c l ∧ .grantReport c .a ∈ l ∧ .grantReport c .b ∈ l) ∧
        ∀ z : Zone, .standbyClearedReport z ∈ l ∧ (s.alloc.shortfall[z] = true → .conditionClearReport .shortfall z.val ∈ l)

/-! ### The sensor line -/

/-- A cycle starts by applying the zone items and polls each configured head in ascending address; a poll opens the reply window of the next
head due. -/
def Obligations.PollingCycleAppliesZonesAndPolls : Prop :=
  ∀ s : State, s.powered = true →
    (SensorLaw s.sensors →
      ∃ t, exec .pollCycleStart s = .next t ∧ onlyChanges [.sensors, .inFlight] s t ∧ t.sensors.cycleTimer = 5 ∧
        (∀ h : HeadAddr, t.sensors.heads[h] =
          if s.sensors.heads[h].zone = s.store.cfg.heads[h] then s.sensors.heads[h]
          else headApplied s.sensors.heads[h] s.store.cfg.heads[h]) ∧
        t.sensors.due = ((List.finRange 32).filter fun h : HeadAddr => s.store.cfg.heads[h].isSome) ∧
        (∀ h, s.sensors.window = some h → t.sensors.window = if s.store.cfg.heads[h] = none then none else some h) ∧
        (s.sensors.window = none → t.sensors.window = none) ∧ (∀ z : Zone, t.sensors.zoneBlind[z] = true ↔ isBlind t.sensors z) ∧
        ∃ l, sent .pollCycleStart s t l ∧
          (∀ h : HeadAddr, s.sensors.heads[h].state = .lost → s.store.cfg.heads[h] = none →
            .conditionClearReport .sensorLost h.val ∈ l) ∧
          (∀ z : Zone, .evaluationRequest z ∈ l ↔ ∃ h : HeadAddr, s.sensors.heads[h].zone ≠ s.store.cfg.heads[h] ∧
            (s.sensors.heads[h].state = .valid ∨ s.sensors.heads[h].state = .holding) ∧
            (s.sensors.heads[h].zone = some z ∨ s.store.cfg.heads[h] = some z)) ∧
          (.headPoll ∈ l ↔ t.sensors.window = none ∧ t.sensors.due ≠ [])) ∧
    ∃ t, exec .headPoll s = .next t ∧ onlyChanges [.sensors, .inFlight] s t ∧ sent .headPoll s t [] ∧
      (∀ h rest, s.sensors.window = none → s.sensors.due = h :: rest →
        t.sensors = { s.sensors with window := some h, due := rest }) ∧
      (s.sensors.window ≠ none ∨ s.sensors.due = [] → t.sensors = s.sensors)

/-- A poll ends by a good reply, whose readings are saturated and smoothed, or by a miss; a reply that fails its check or names another head is
discarded with the window open; a hold timer that runs out loses its head. -/
def Obligations.PollsEndInReplyOrMiss : Prop :=
  ∀ (s : State) (h : HeadAddr), s.powered = true →
    (s.sensors.window = some h → ∀ rawCo rawNo2 : Int,
      (∀ drift : Bool,
        ∃ t, exec (.headReply h.val (if drift then .drift else .ok) rawCo rawNo2 true) s = .next t ∧
          onlyChanges [.sensors, .inFlight] s t ∧
          t.sensors =
            { s.sensors with
              heads := s.sensors.heads.set h (goodReplyRecord s h drift rawCo rawNo2)
              zoneBlind := t.sensors.zoneBlind, window := none } ∧
          (s.sensors.heads[h].state ≠ .lost → t.sensors.zoneBlind = s.sensors.zoneBlind) ∧
          ∃ l, sent (.headReply h.val (if drift then .drift else .ok) rawCo rawNo2 true) s t l ∧
            (s.sensors.heads[h].state = .lost → .conditionClearReport .sensorLost h.val ∈ l ∧
              ∀ z, s.sensors.heads[h].zone = some z → t.sensors.zoneBlind[z] = false ∧
                (s.sensors.zoneBlind[z] = true → .conditionClearReport .zoneBlind z.val ∈ l)) ∧
            (∀ z, .evaluationRequest z ∈ l ↔ s.sensors.heads[h].zone = some z ∧
              (s.sensors.heads[h].state = .waiting ∨ s.sensors.heads[h].state = .lost ∨
                crossed s.store.cfg.coHigh s.sensors.heads[h].co t.sensors.heads[h].co ∨
                crossed s.store.cfg.coClear s.sensors.heads[h].co t.sensors.heads[h].co ∨
                crossed s.store.cfg.no2High s.sensors.heads[h].no2 t.sensors.heads[h].no2 ∨
                crossed s.store.cfg.no2Clear s.sensors.heads[h].no2 t.sensors.heads[h].no2)) ∧
            (.headPoll ∈ l ↔ s.sensors.due ≠ [])) ∧
      (∀ fault : Bool,
        ∃ t, exec (.headReply h.val (if fault then .fault else .warming) rawCo rawNo2 true) s = .next t ∧
          onlyChanges [.sensors, .inFlight] s t ∧
          t.sensors =
            { s.sensors with
              heads := s.sensors.heads.set h (missedRecord s.sensors.heads[h] (some (if fault then .fault else .warming)))
              window := none } ∧
          sent (.headReply h.val (if fault then .fault else .warming) rawCo rawNo2 true) s t
            (if s.sensors.due = [] then [] else [.headPoll])) ∧
      (∀ (address : Nat) (status : ReplyStatus) (checkHolds : Bool), checkHolds = false ∨ address ≠ h.val →
        ∃ t, exec (.headReply address status rawCo rawNo2 checkHolds) s = .next t ∧ onlyChanges [.inFlight] s t)) ∧
    (s.sensors.window = some h →
      ∃ t, exec .replyWindowEnd s = .next t ∧ onlyChanges [.sensors, .inFlight] s t ∧
        t.sensors =
          { s.sensors with heads := s.sensors.heads.set h (missedRecord s.sensors.heads[h] none), window := none } ∧
        sent .replyWindowEnd s t (if s.sensors.due = [] then [] else [.headPoll])) ∧
    (∀ n, s.sensors.heads[h].hold = some n → s.sensors.heads[h].state = .valid ∨ s.sensors.heads[h].state = .holding →
      ∃ t, exec (.holdTimerExpiry h) s = .next t ∧ onlyChanges [.sensors, .inFlight] s t ∧
        t.sensors =
          { s.sensors with
            heads := s.sensors.heads.set h { s.sensors.heads[h] with state := .lost, hold := none }
            zoneBlind := t.sensors.zoneBlind } ∧
        ∃ l, sent (.holdTimerExpiry h) s t (.conditionActiveReport .sensorLost h.val :: l) ∧
          ∀ z, s.sensors.heads[h].zone = some z → .evaluationRequest z ∈ l ∧
            (t.sensors.zoneBlind[z] = true ↔ isBlind t.sensors z) ∧
            (s.sensors.zoneBlind[z] = false → t.sensors.zoneBlind[z] = true → .conditionActiveReport .zoneBlind z.val ∈ l))

/-! ### The fire interface -/

/-- A contact input confirms a new band for one second before it takes its state; ALARM sets the fire latch, and a write of contact enabled acts
at once. -/
def Obligations.ContactInputsAreConfirmed : Prop :=
  ∀ (s : State) (z : Zone), s.powered = true →
    (∀ ohms : Nat, ∃ t, exec (.contactBandChange z ohms) s = .next t ∧ onlyChanges [.fire, .pins, .inFlight] s t ∧
      sent (.contactBandChange z ohms) s t [] ∧ t.pins = { s.pins with loopOhms := s.pins.loopOhms.set z ohms } ∧
      (sameBand ohms s.pins.loopOhms[z] ∨ s.fire.contacts[z].state = .disabled → t.fire = s.fire) ∧
      (¬ sameBand ohms s.pins.loopOhms[z] → s.fire.contacts[z].state ≠ .disabled →
        t.fire =
          { s.fire with
            contacts := s.fire.contacts.set z
              { state := s.fire.contacts[z].state
                confirm := if contactStateFor ohms = s.fire.contacts[z].state then none else some 1 } })) ∧
    (∀ n, s.fire.contacts[z].confirm = some n →
      ∃ t, exec (.contactConfirmationExpiry z) s = .next t ∧ onlyChanges [.fire, .inFlight] s t ∧
        t.fire = contactTaken s.fire z (contactStateFor s.pins.loopOhms[z]) ∧
        sent (.contactConfirmationExpiry z) s t (contactSends s z (contactStateFor s.pins.loopOhms[z]))) ∧
    (ready s → s.fire.contacts[z].state ≠ .disabled →
      ∃ t, exec (.contactEnabledWrite z.val 0) s = .next t ∧ t.fire = contactTaken s.fire z .disabled ∧
        t.store.cfg.zones[z].contactEnabled = false ∧
        sent (.contactEnabledWrite z.val 0) s t (contactSends s z .disabled ++ [.responseSent])) ∧
    (ready s → s.fire.contacts[z].state = .disabled →
      ∃ t, exec (.contactEnabledWrite z.val 1) s = .next t ∧
        t.fire = contactTaken s.fire z (contactStateFor s.pins.loopOhms[z]) ∧ t.store.cfg.zones[z].contactEnabled = true ∧
        sent (.contactEnabledWrite z.val 1) s t (contactSends s z (contactStateFor s.pins.loopOhms[z]) ++ [.responseSent]))

/-- The bring-up of the panel link word by word and timer by timer, and its loss when supervision runs out. -/
def Obligations.PanelLinkIsBroughtUp : Prop :=
  ∀ (s : State), s.powered = true →
    (∀ w : CapabilityWord, ∃ t, exec (.capabilityWord w) s = .next t ∧ onlyChanges [.fire, .inFlight] s t ∧
      (s.fire.link = .hearing →
        (¬ validWord w → t.fire = { s.fire with heard := none, hearingTimer := none }) ∧
        (validWord w → w.accept = true → t.fire = s.fire) ∧
        (validWord w → w.accept = false →
          (s.fire.heard = none →
            t.fire = { s.fire with heard := some { word := w, count := 1 }, hearingTimer := some 10 }) ∧
          (∀ run, s.fire.heard = some run →
            (¬ agrees run.word w →
              t.fire = { s.fire with heard := some { word := w, count := 1 }, hearingTimer := some 10 }) ∧
            (agrees run.word w → run.count < 2 → t.fire = { s.fire with heard := some { run with count := run.count + 1 } }) ∧
            (agrees run.word w → 2 ≤ run.count →
              t.fire.link = .agreeing ∧ t.fire.hearingTimer = none ∧ t.fire.stateTimer = some 2 ∧
                t.fire.sentWord = some
                  { panelId := run.word.panelId, zoneCount := 8, fireService := true, resetWord := true, accept := true })))) ∧
      (∀ run, s.fire.heard = some run →
        (s.fire.link = .agreeing →
          (¬ validWord w ∨ w.accept = true ∧ ¬ agrees run.word w → t.fire = backedOff s.fire) ∧
          (validWord w → w.accept = false → t.fire = s.fire) ∧
          (validWord w → w.accept = true → agrees run.word w →
            t.fire = { s.fire with link := .checking, stateTimer := some 2 })) ∧
        (s.fire.link = .checking →
          (¬ validWord w ∨ ¬ agrees run.word w → t.fire = backedOff s.fire) ∧
          (validWord w → agrees run.word w →
            t.fire =
              { s.fire with
                link := .linked, capability := some run.word, stateTimer := none, supervision := some 35
                lostCondition := false } ∧
            sent (.capabilityWord w) s t (if s.fire.lostCondition then [.conditionClearReport .fireLinkLost 0] else [])))) ∧
      (s.fire.link = .linked ∨ s.fire.link = .backoff → t.fire = s.fire)) ∧
    (∃ t, exec .panelFrameDiscarded s = .next t ∧ onlyChanges [.inFlight] s t) ∧
    (∀ n, s.fire.hearingTimer = some n →
      ∃ t, exec .hearingTimerExpiry s = .next t ∧ onlyChanges [.fire, .inFlight] s t ∧
        t.fire = { s.fire with heard := none, hearingTimer := none }) ∧
    (∃ t, exec .stateTimerExpiry s = .next t ∧ onlyChanges [.fire, .inFlight] s t ∧
      (s.fire.link = .agreeing ∨ s.fire.link = .checking → t.fire = backedOff s.fire) ∧
      (s.fire.link = .backoff →
        t.fire = { s.fire with link := .hearing, heard := none, hearingTimer := none, stateTimer := none })) ∧
    (s.fire.link = .linked →
      ∃ t, exec .supervisionTimerExpiry s = .next t ∧ onlyChanges [.fire, .inFlight] s t ∧
        t.fire =
          { s.fire with
            link := .hearing, heard := none, hearingTimer := none, stateTimer := none, supervision := none, linkLost := true
            lostCondition := true } ∧
        sent .supervisionTimerExpiry s t (if s.fire.lostCondition then [] else [.conditionActiveReport .fireLinkLost 0]))

/-- The words of a LINKED panel set latches and commands within its declared features; a panel reset and FIRE-RESET clear them, a contact in
ALARM holding its latch; READ-LINK clears the link-lost flag of a working link. That FIRE-RESET carried out is answered with an empty payload is
the model's choice (log entry 48). -/
def Obligations.FireWordsAndResets : Prop :=
  ∀ (s : State), s.powered = true →
    (∀ flags : BitVec 8, ∃ t, exec (.statusFrame flags) s = .next t ∧ onlyChanges [.fire, .inFlight] s t ∧
      (s.fire.link ≠ .linked → t.fire = s.fire ∧ sent (.statusFrame flags) s t []) ∧
      (∀ w, s.fire.link = .linked → s.fire.capability = some w →
        t.fire = { s.fire with supervision := some 35, latches := t.fire.latches } ∧
        (∀ z : Zone, t.fire.latches[z] = true ↔
          s.fire.latches[z] = true ∨ flags.getLsbD z.val = true ∧ z.val < w.zoneCount) ∧
        ∃ l, sent (.statusFrame flags) s t l ∧ ∀ z : Zone,
          (.evaluationRequest z ∈ l ↔ s.fire.latches[z] = false ∧ t.fire.latches[z] = true) ∧
          (.conditionActiveReport .fire z.val ∈ l ↔ s.fire.latches[z] = false ∧ t.fire.latches[z] = true))) ∧
    (∀ (z : Zone) (word : FireServiceWord), ∃ t, exec (.fireServiceCommand z.val word) s = .next t ∧
      onlyChanges [.fire, .inFlight] s t ∧
      let after : Option FireCommand := match word with | .on => some .on | .off => some .off | .auto => none
      (panelDeclares s (fun w => w.fireService && decide (z.val < w.zoneCount)) →
        t.fire = { s.fire with commands := s.fire.commands.set z after } ∧
        sent (.fireServiceCommand z.val word) s t (if s.fire.commands[z] = after then [] else [.evaluationRequest z])) ∧
      (¬ panelDeclares s (fun w => w.fireService && decide (z.val < w.zoneCount)) →
        t.fire = s.fire ∧ sent (.fireServiceCommand z.val word) s t [])) ∧
    (∃ t, exec .panelResetWord s = .next t ∧ onlyChanges [.fire, .inFlight] s t ∧
      (panelDeclares s (·.resetWord) →
        t.fire = resetOf s.fire ∧ sent .panelResetWord s t ((List.finRange 8).flatMap (resetSends s.fire))) ∧
      (¬ panelDeclares s (·.resetWord) → t.fire = s.fire)) ∧
    (ready s → ∃ t, exec .fireReset s = .next t ∧ onlyChanges [.fire, .port, .inFlight] s t ∧
      (s.fire.link ≠ .linked → t.fire = resetOf s.fire ∧ answering s t 0x3E .done [] ∧
        sent .fireReset s t ((List.finRange 8).flatMap (resetSends s.fire) ++ [.responseSent])) ∧
      (s.fire.link = .linked → t.fire = s.fire ∧ answering s t 0x3E .notNow [])) ∧
    (ready s → ∃ t, exec .readLink s = .next t ∧ onlyChanges [.fire, .port, .inFlight] s t ∧
      t.fire = (if s.fire.link = .linked then { s.fire with linkLost := false } else s.fire) ∧
      ∃ payload, answering s t 0x24 .done payload ∧ payload.length = 31 ∧
        payload.take 2 = bytesOf 1 s.fire.link.code ++ flag s.fire.capability.isSome ∧
        payload[6]? = some (if s.fire.linkLost then 1#8 else 0#8) ∧
        ∀ z : Zone, (payload.drop (7 + 3 * z.val)).take 3 =
          bytesOf 1 s.fire.contacts[z].state.code ++ flag s.fire.latches[z] ++ field 1 (s.fire.commands[z].map (·.code)))

/-! ### The hazard list -/

/-- An active report appends an entry, finds it active, or reopens it; a full list gives up its oldest cleared entry, or for a fire its oldest
other entry; a clear report clears or removes the entry. -/
def Obligations.ReportsChangeHazardEntries : Prop :=
  ∀ (s : State) (kind : HazardKind) (source : Nat), s.powered = true → HazardLaw s.hazards →
    (∃ t, exec (.conditionActiveReport kind source) s = .next t ∧ onlyChanges [.hazards, .inFlight] s t ∧
      sent (.conditionActiveReport kind source) s t [] ∧
      (∀ front back (e : HazardEntry), s.hazards.entries = front ++ e :: back → entryOf e kind source →
        (e.state ≠ .clearedUnack → t.hazards = s.hazards) ∧
        (e.state = .clearedUnack →
          t.hazards = { s.hazards with entries := front ++ e.withState .activeUnack :: back, attention := true })) ∧
      ((∀ e ∈ s.hazards.entries, ¬ entryOf e kind source) →
        (s.hazards.entries.length < 48 → appended s t s.hazards.entries kind source s.hazards.unlisted) ∧
        (s.hazards.entries.length = 48 →
          (∀ front back (e : HazardEntry), s.hazards.entries = front ++ e :: back → e.state = .clearedUnack →
            (∀ d ∈ front, d.state ≠ .clearedUnack) → appended s t (front ++ back) kind source s.hazards.unlisted) ∧
          ((∀ e ∈ s.hazards.entries, e.state ≠ .clearedUnack) → kind = .fire →
            ∀ front back (e : HazardEntry), s.hazards.entries = front ++ e :: back → e.kind ≠ .fire →
              (∀ d ∈ front, d.kind = .fire) → appended s t (front ++ back) kind source true) ∧
          ((∀ e ∈ s.hazards.entries, e.state ≠ .clearedUnack) → kind ≠ .fire →
            t.hazards = { s.hazards with unlisted := true, attention := true })))) ∧
    (∃ t, exec (.conditionClearReport kind source) s = .next t ∧ onlyChanges [.hazards, .inFlight] s t ∧
      sent (.conditionClearReport kind source) s t [] ∧
      (∀ front back (e : HazardEntry), s.hazards.entries = front ++ e :: back → entryOf e kind source →
        (e.state = .activeUnack →
          t.hazards = { s.hazards with entries := front ++ e.withState .clearedUnack :: back, attention := true }) ∧
        (e.state = .activeAck →
          t.hazards =
            { s.hazards with entries := front ++ back, attention := lamp (front ++ back) s.hazards.unlisted }) ∧
        (e.state = .clearedUnack → t.hazards = s.hazards)) ∧
      ((∀ e ∈ s.hazards.entries, ¬ entryOf e kind source) → t.hazards = s.hazards))

/-- ACKNOWLEDGE takes one entry by its id; ACKNOWLEDGE-ALL and the list's restart acknowledge or empty the list and sweep the active conditions
that have no entry into its free room. -/
def Obligations.AcknowledgementAndSweep : Prop :=
  ∀ (s : State), s.powered = true → HazardLaw s.hazards →
    (ready s → ∀ id : Nat,
      ∃ t, exec (.acknowledge id) s = .next t ∧ onlyChanges [.hazards, .port, .inFlight] s t ∧
        ((∀ e ∈ s.hazards.entries, e.id ≠ id) → t.hazards = s.hazards ∧ answering s t 0x29 .hazardUnknown []) ∧
        ∀ front back (e : HazardEntry), s.hazards.entries = front ++ e :: back → e.id = id →
          answering s t 0x29 .done [] ∧
          (e.state = .activeAck → t.hazards = s.hazards) ∧
          (e.state = .activeUnack →
            t.hazards =
              { s.hazards with
                entries := front ++ e.withState .activeAck :: back
                attention := lamp (front ++ e.withState .activeAck :: back) s.hazards.unlisted }) ∧
          (e.state = .clearedUnack →
            t.hazards =
              { s.hazards with entries := front ++ back, attention := lamp (front ++ back) s.hazards.unlisted })) ∧
    (ready s → ∃ t, exec .acknowledgeAll s = .next t ∧ onlyChanges [.hazards, .port, .inFlight] s t ∧
      answering s t 0x2A .done [] ∧ swept s t (allAcknowledged s.hazards.entries) ∧ HazardLaw t.hazards) ∧
    ∃ t, exec .hazardRestart s = .next t ∧ onlyChanges [.hazards, .inFlight] s t ∧ swept s t [] ∧ HazardLaw t.hazards

/-! ### The reads -/

/-- The reads answer DONE with the record asked for, laid out in the manual's order and widths, and change nothing; a zone, channel, address,
kind or page that names nothing is refused with FIELD-RANGE. Three points are the model's choice: the widths of log entry 24, the rated rpm that
READ-FAN takes (log entry 42), and that READ-DAMPER still names the channel of a gate not in use (log entry 46). -/
def Obligations.ReadsAnswerAndChangeNothing : Prop :=
  ∀ s : State, ready s →
    (∃ t, exec .identify s = .next t ∧ onlyChanges [.port, .inFlight] s t ∧
      answering s t 0x01 .done
        ([0x56#8, 0x4C#8, 0x2D#8, 0x34#8, 0x38#8, 0x30#8] ++ [Config.firmwareMajor, Config.firmwareMinor] ++
          flag s.store.defaulted ++ bytesOf 1 s.port.address ++ flag s.port.fastBaud)) ∧
    (∀ n : Nat, ∃ t, exec (.readZone n) s = .next t ∧ onlyChanges [.port, .inFlight] s t ∧
      (7 < n → answering s t 0x20 .fieldRange []) ∧
      ∀ z : Zone, z.val = n → ∃ payload, answering s t 0x20 .done payload ∧ payload.length = 46 ∧ payload = zoneBytes s z ∧
        payload.take 4 = bytesOf 1 n ++ bytesOf 1 s.zones[z].mode.code ++ bytesOf 2 s.zones[z].baseFlow ∧
        (payload.drop 29).take 5 =
          field 1 (s.zones[z].request.map classRank) ++ field 2 (s.zones[z].request.map callAmount) ++
            bytesOf 2 (maskOf ((List.finRange 16).filter fun c : Chan => s.alloc.grants[c] == some z)) ∧
        payload.drop 44 = flag (s.zones[z].evalState == .gathering) ++ flag s.zones[z].again) ∧
    (∀ n : Nat, ∃ t, exec (.readFan n) s = .next t ∧ onlyChanges [.port, .inFlight] s t ∧
      (15 < n → answering s t 0x21 .fieldRange []) ∧
      ∀ c : Chan, c.val = n → ∃ payload, answering s t 0x21 .done payload ∧ payload.length = 24 ∧ payload = fanBytes s c ∧
        payload.take 10 =
          bytesOf 1 n ++ bytesOf 1 s.fans[c].state.code ++ flag s.fans[c].target.isOn ++ field 1 (targetSpeed s.fans[c].target) ++
            flag s.fans[c].target.marked ++ flag s.fans[c].runOutput ++ bytesOf 1 s.fans[c].commanded ++
            bytesOf 3 s.fans[c].measured) ∧
    (∀ n : Nat, ∃ t, exec (.readHead n) s = .next t ∧ onlyChanges [.port, .inFlight] s t ∧
      (31 < n → answering s t 0x22 .fieldRange []) ∧
      ∀ h : HeadAddr, h.val = n →
        let r := s.sensors.heads[h]
        answering s t 0x22 .done
          (bytesOf 1 n ++ field 1 (r.zone.map fun z => z.val) ++ bytesOf 1 r.state.code ++ field 2 r.co ++ field 1 r.no2 ++
            field 2 r.rawCo ++ field 1 r.rawNo2 ++ bytesOf 1 (headStatusCode r.lastStatus) ++ flag r.drift ++
            bytesOf 1 r.misses ++ field 1 r.hold ++ field 2 r.lastGood)) ∧
    (∀ kind n : Nat, ∃ t, exec (.readDamper kind n) s = .next t ∧ onlyChanges [.port, .inFlight] s t ∧
      (1 < kind ∨ kind = 0 ∧ 7 < n ∨ kind = 1 ∧ 15 < n → answering s t 0x23 .fieldRange []) ∧
      (∀ z : Zone, kind = 0 → z.val = n →
        let d := s.dampers[z]
        answering s t 0x23 .done
          (bytesOf 1 n ++ bytesOf 1 d.state.code ++ field 1 (damperRequestCode d.request) ++ flag d.closePending ++
            bytesOf 2 (maskOf d.blocking) ++ field 1 d.timer ++
            bytesOf 1
              (if s.pins.openSwitch[z] = true ∧ s.pins.closedSwitch[z] = false then 0
               else if s.pins.openSwitch[z] = false ∧ s.pins.closedSwitch[z] = true then 1 else 2))) ∧
      ∀ c : Chan, kind = 1 → c.val = n →
        let g := s.gates[c]
        (g.inUse = false → answering s t 0x23 .done (bytesOf 1 n ++ [0x00#8, 0xFF#8, 0xFF#8, 0xFF#8, 0xFF#8, 0xFF#8])) ∧
        (g.inUse = true →
          answering s t 0x23 .done
            (bytesOf 1 n ++ [0x01#8] ++ bytesOf 1 g.state.code ++ field 1 g.state.position ++
              bytesOf 1 (gateTargetCode g.target) ++ flag g.pending ++ field 1 g.timer))) ∧
    (∀ page : Nat, ∃ t, exec (.readHazards page) s = .next t ∧ onlyChanges [.port, .inFlight] s t ∧
      (5 < page → answering s t 0x28 .fieldRange []) ∧
      (page ≤ 5 →
        let shown := (s.hazards.entries.drop (8 * page)).take 8
        answering s t 0x28 .done
          (bytesOf 1 page ++ bytesOf 1 s.hazards.entries.length ++ flag s.hazards.unlisted ++ flag s.hazards.attention ++
            bytesOf 1 shown.length ++
            shown.flatMap fun e => bytesOf 2 e.id ++ bytesOf 1 e.kind.order ++ bytesOf 1 e.source ++ bytesOf 1 e.state.code ++
              bytesOf 2 e.minute)))

/-! ### The configuration -/

/-- Every configuration write is checked for an item that is not there, a value that names nothing and a state that forbids it, in this order
(log entry 34), and is otherwise taken; the answer carries the item as it now stands. -/
def Obligations.ConfigurationWritesAreChecked : Prop :=
  ∀ (i : Instr) (item index value : Nat) (s : State), writeOf i = some (item, index, value) → ready s → StoreLaw s.store →
    value < 65536 →
    ∃ t, exec i s = .next t ∧
      (itemOf item index = none → answering s t 0x38 .fieldRange [] ∧ onlyChanges [.port, .inFlight] s t) ∧
      ∀ k, itemOf item index = some k →
        (namesNothing k value → answering s t 0x38 .fieldRange [] ∧ onlyChanges [.port, .inFlight] s t) ∧
        (¬ namesNothing k value → refusedNow s k → answering s t 0x38 .notNow [] ∧ onlyChanges [.port, .inFlight] s t) ∧
        (¬ namesNothing k value → ¬ refusedNow s k → writeTaken i s t item index value k)

/-- A taken write stores the value, or the nearest value its range and its paired item allow, and is answered DONE-CLAMPED exactly when what is
stored differs from what was written. That the low byte of an UNUSED role is written as 0, and counts as clamped, is the model's choice (log
entry 25). -/
def Obligations.WrittenValuesAreClamped : Prop :=
  ∀ (i : Instr) (item index value : Nat) (s : State) (k : CfgItem), writeOf i = some (item, index, value) → ready s →
    StoreLaw s.store → value < 65536 → itemOf item index = some k → ¬ namesNothing k value → ¬ refusedNow s k →
    ∃ t r, exec i s = .next t ∧ t.port.response = some r ∧
      (∀ lo hi, plainRange k = some (lo, hi) → itemValue t.store k = min hi (max lo value)) ∧
      (∀ z, k = .floorCeiling .floor z → itemValue t.store k = min value (min 20000 s.store.cfg.zones[z].ceiling)) ∧
      (∀ z, k = .floorCeiling .ceiling z → itemValue t.store k = min 60000 (max value s.store.cfg.zones[z].floor)) ∧
      (k = .level .coHigh → itemValue t.store k = min 500 (max value s.store.cfg.coClear)) ∧
      (k = .level .coClear → itemValue t.store k = min value s.store.cfg.coHigh) ∧
      (k = .level .no2High → itemValue t.store k = min 200 (max value s.store.cfg.no2Clear)) ∧
      (k = .level .no2Clear → itemValue t.store k = min value s.store.cfg.no2High) ∧
      (∀ c, k = .retryLimit c → itemValue t.store k =
        if value < 2 then 1 else if value < 3 then 2 else if value < 6 then 4 else 8) ∧
      (∀ h, k = .headZone h → itemValue t.store k = if value = 65535 then 65535 else min value 7) ∧
      (∀ c, k = .placement .role c →
        (value < 256 → t.store.cfg.channels[c].role = .unused) ∧
        (∀ z : Zone, 256 ≤ value → value < 512 → z.val = min (value - 256) 7 → t.store.cfg.channels[c].role = .zone z) ∧
        (value = 512 → t.store.cfg.channels[c].role = .standby 1#8) ∧
        (512 < value → t.store.cfg.channels[c].role = .standby (BitVec.ofNat 8 (value - 512))) ∧
        itemValue t.store k =
          if value < 256 then 0 else if value < 512 then 256 + min (value - 256) 7 else if value = 512 then 513 else value) ∧
      (k = .parking ∨ (∃ z, k = .contactEnabled z) ∨ (∃ n, k = .stall .enabled n) ∨ (∃ c, k = .placement .feed c) ∨
        (∃ c, k = .action c) → itemValue t.store k = value) ∧
      (∀ a b : Zone, k = .adjacency a → b.val = min (value / 256) 7 →
        t.store.cfg.zones[a].adjacency.getLsbD b.val = (value % 256 == 1 && a != b) ∧
        t.store.cfg.zones[b].adjacency.getLsbD a.val = (value % 256 == 1 && a != b) ∧
        (∀ x y : Zone, ¬(x = a ∧ y = b) → ¬(x = b ∧ y = a) →
          t.store.cfg.zones[x].adjacency.getLsbD y.val = s.store.cfg.zones[x].adjacency.getLsbD y.val) ∧
        (r.status = .doneClamped ↔ 7 < value / 256 ∨ a = b)) ∧
      ((∀ a, k ≠ .adjacency a) → (r.status = .doneClamped ↔ itemValue t.store k ≠ value)) ∧
      (∀ n, k = .minSpeed n →
        t.fans = s.fans.set n
          { s.fans[n] with
            commanded :=
              if s.fans[n].runOutput = true then max s.fans[n].commanded (min 60 (max 15 value)) else s.fans[n].commanded }) ∧
      (k = .tail → ∀ j : StallIdx, t.roster.stalls[j] =
        { s.roster.stalls[j] with
          steps := min s.roster.stalls[j].steps (min 63 value)
          level := if value = 0 ∧ 0 < s.roster.stalls[j].steps then 0 else s.roster.stalls[j].level }) ∧
      (k ≠ .tail → t.roster = s.roster)

/-- READ-CONFIG answers the item in force; SAVE-CONFIG takes its copy at once and is BUSY until the save completes; RESTART is refused while a
zone holds a fire or manual mode, and otherwise sends each block its restart. That SAVE-CONFIG carried out is answered with an empty payload is the
model's choice (log entry 48). -/
def Obligations.ReadSaveAndRestart : Prop :=
  ∀ s : State,
    (ready s → ∀ item index : Nat, ∃ t, exec (.readConfig item index) s = .next t ∧ onlyChanges [.port, .inFlight] s t ∧
      (itemOf item index = none → answering s t 0x39 .fieldRange []) ∧
      ∀ k, itemOf item index = some k →
        answering s t 0x39 .done (bytesOf 1 item ++ bytesOf 1 index ++ bytesOf 2 (itemValue s.store k))) ∧
    (ready s → ∃ t, exec .saveConfig s = .next t ∧ onlyChanges [.store, .port, .inFlight] s t ∧
      sent .saveConfig s t [.responseSent] ∧
      (s.store.saving = none → t.store = { s.store with saving := some s.store.cfg } ∧ answering s t 0x3A .done []) ∧
      (s.store.saving ≠ none → t.store = s.store ∧ answering s t 0x3A .busy [])) ∧
    (s.powered = true → ∀ copy, s.store.saving = some copy →
      (∃ t, exec (.saveComplete .equal) s = .next t ∧ onlyChanges [.store, .inFlight] s t ∧
        t.store = { s.store with nv := .image copy, saving := none, lastSave := .done, defaulted := false }) ∧
      ∀ readBack, readBack ≠ .equal → ∃ t, exec (.saveComplete readBack) s = .next t ∧ onlyChanges [.store, .inFlight] s t ∧
        t.store = { s.store with nv := t.store.nv, saving := none, lastSave := .failed }) ∧
    (ready s → ∃ t, exec .restart s = .next t ∧ onlyChanges [.port, .inFlight] s t ∧
      ((∃ z : Zone, s.zones[z].mode = .fireExtract ∨ s.zones[z].mode = .smokeHold ∨ s.zones[z].mode = .manualOn ∨
          s.zones[z].mode = .manualOff) →
        answering s t 0x3F .notNow [] ∧ sent .restart s t [.responseSent]) ∧
      ((∀ z : Zone, s.zones[z].mode = .gasAlarm ∨ s.zones[z].mode = .thermal ∨ s.zones[z].mode = .normal ∨
          s.zones[z].mode = .quiet) →
        answering s t 0x3F .done [] ∧
        ∃ l, sent .restart s t l ∧
          l.Perm ([.rosterRestart, .fanRestart, .allocatorRestart, .hazardRestart, .responseSent] ++
            (List.finRange 8).map .zoneRestart)))

/-! ### The laws of the device -/

/-- Every step keeps the laws of the roster and the ranges of the configuration: the residue laws, one record a stall and one tag a record, the
activities a class may hold, and the symmetric adjacency. -/
def Obligations.StepsKeepRosterAndConfigurationLaws : Prop :=
  ∀ s t : State, step s = .next t → RosterLaw s → StoreLaw s.store → RosterLaw t ∧ StoreLaw t.store

/-- Every step keeps the laws of the fans and their start queues: a fan discharges exactly in STARTING and RUNNING, between its minimum speed and
100 percent, and the permit of a feed is held by its one fan in STARTING. -/
def Obligations.StepsKeepFanLaws : Prop :=
  ∀ s t : State, step s = .next t → FansLaw s → StoreLaw s.store → FansLaw t

/-- Every step keeps the laws of the other blocks: zones, dampers, gates, the request list and its grants, the heads, the fire interface, the
hazard list with its attention output, and the port. -/
def Obligations.StepsKeepBlockLaws : Prop :=
  ∀ s t : State, step s = .next t → Lawful s → Lawful t
end

