-- ==== Sys2Proof/Laws/State.lean ====
section
/-! SUPPORT. What each update of the state does to each of its fields. -/

namespace Sys2Proof.Machine.State

variable (s : State)

/-! ### setRoster -/

@[simp] theorem setRoster_powered (r : Roster) : (s.setRoster r).powered = s.powered := rfl
@[simp] theorem setRoster_roster (r : Roster) : (s.setRoster r).roster = r := rfl
@[simp] theorem setRoster_zones (r : Roster) : (s.setRoster r).zones = s.zones := rfl
@[simp] theorem setRoster_fans (r : Roster) : (s.setRoster r).fans = s.fans := rfl
@[simp] theorem setRoster_queueA (r : Roster) : (s.setRoster r).queueA = s.queueA := rfl
@[simp] theorem setRoster_queueB (r : Roster) : (s.setRoster r).queueB = s.queueB := rfl
@[simp] theorem setRoster_dampers (r : Roster) : (s.setRoster r).dampers = s.dampers := rfl
@[simp] theorem setRoster_gates (r : Roster) : (s.setRoster r).gates = s.gates := rfl
@[simp] theorem setRoster_alloc (r : Roster) : (s.setRoster r).alloc = s.alloc := rfl
@[simp] theorem setRoster_sensors (r : Roster) : (s.setRoster r).sensors = s.sensors := rfl
@[simp] theorem setRoster_fire (r : Roster) : (s.setRoster r).fire = s.fire := rfl
@[simp] theorem setRoster_hazards (r : Roster) : (s.setRoster r).hazards = s.hazards := rfl
@[simp] theorem setRoster_port (r : Roster) : (s.setRoster r).port = s.port := rfl
@[simp] theorem setRoster_store (r : Roster) : (s.setRoster r).store = s.store := rfl
@[simp] theorem setRoster_pins (r : Roster) : (s.setRoster r).pins = s.pins := rfl
@[simp] theorem setRoster_inFlight (r : Roster) : (s.setRoster r).inFlight = s.inFlight := rfl
@[simp] theorem setRoster_pending (r : Roster) : (s.setRoster r).pending = s.pending := rfl

/-! ### setStall -/

@[simp] theorem setStall_powered (i : StallIdx) (e : StallEntry) : (s.setStall i e).powered = s.powered := rfl
@[simp] theorem setStall_roster (i : StallIdx) (e : StallEntry) : (s.setStall i e).roster = { s.roster with stalls := s.roster.stalls.set i e } := rfl
@[simp] theorem setStall_zones (i : StallIdx) (e : StallEntry) : (s.setStall i e).zones = s.zones := rfl
@[simp] theorem setStall_fans (i : StallIdx) (e : StallEntry) : (s.setStall i e).fans = s.fans := rfl
@[simp] theorem setStall_queueA (i : StallIdx) (e : StallEntry) : (s.setStall i e).queueA = s.queueA := rfl
@[simp] theorem setStall_queueB (i : StallIdx) (e : StallEntry) : (s.setStall i e).queueB = s.queueB := rfl
@[simp] theorem setStall_dampers (i : StallIdx) (e : StallEntry) : (s.setStall i e).dampers = s.dampers := rfl
@[simp] theorem setStall_gates (i : StallIdx) (e : StallEntry) : (s.setStall i e).gates = s.gates := rfl
@[simp] theorem setStall_alloc (i : StallIdx) (e : StallEntry) : (s.setStall i e).alloc = s.alloc := rfl
@[simp] theorem setStall_sensors (i : StallIdx) (e : StallEntry) : (s.setStall i e).sensors = s.sensors := rfl
@[simp] theorem setStall_fire (i : StallIdx) (e : StallEntry) : (s.setStall i e).fire = s.fire := rfl
@[simp] theorem setStall_hazards (i : StallIdx) (e : StallEntry) : (s.setStall i e).hazards = s.hazards := rfl
@[simp] theorem setStall_port (i : StallIdx) (e : StallEntry) : (s.setStall i e).port = s.port := rfl
@[simp] theorem setStall_store (i : StallIdx) (e : StallEntry) : (s.setStall i e).store = s.store := rfl
@[simp] theorem setStall_pins (i : StallIdx) (e : StallEntry) : (s.setStall i e).pins = s.pins := rfl
@[simp] theorem setStall_inFlight (i : StallIdx) (e : StallEntry) : (s.setStall i e).inFlight = s.inFlight := rfl
@[simp] theorem setStall_pending (i : StallIdx) (e : StallEntry) : (s.setStall i e).pending = s.pending := rfl

/-! ### setZone -/

@[simp] theorem setZone_powered (z : Zone) (u : ZoneUnit) : (s.setZone z u).powered = s.powered := rfl
@[simp] theorem setZone_roster (z : Zone) (u : ZoneUnit) : (s.setZone z u).roster = s.roster := rfl
@[simp] theorem setZone_zones (z : Zone) (u : ZoneUnit) : (s.setZone z u).zones = s.zones.set z u := rfl
@[simp] theorem setZone_fans (z : Zone) (u : ZoneUnit) : (s.setZone z u).fans = s.fans := rfl
@[simp] theorem setZone_queueA (z : Zone) (u : ZoneUnit) : (s.setZone z u).queueA = s.queueA := rfl
@[simp] theorem setZone_queueB (z : Zone) (u : ZoneUnit) : (s.setZone z u).queueB = s.queueB := rfl
@[simp] theorem setZone_dampers (z : Zone) (u : ZoneUnit) : (s.setZone z u).dampers = s.dampers := rfl
@[simp] theorem setZone_gates (z : Zone) (u : ZoneUnit) : (s.setZone z u).gates = s.gates := rfl
@[simp] theorem setZone_alloc (z : Zone) (u : ZoneUnit) : (s.setZone z u).alloc = s.alloc := rfl
@[simp] theorem setZone_sensors (z : Zone) (u : ZoneUnit) : (s.setZone z u).sensors = s.sensors := rfl
@[simp] theorem setZone_fire (z : Zone) (u : ZoneUnit) : (s.setZone z u).fire = s.fire := rfl
@[simp] theorem setZone_hazards (z : Zone) (u : ZoneUnit) : (s.setZone z u).hazards = s.hazards := rfl
@[simp] theorem setZone_port (z : Zone) (u : ZoneUnit) : (s.setZone z u).port = s.port := rfl
@[simp] theorem setZone_store (z : Zone) (u : ZoneUnit) : (s.setZone z u).store = s.store := rfl
@[simp] theorem setZone_pins (z : Zone) (u : ZoneUnit) : (s.setZone z u).pins = s.pins := rfl
@[simp] theorem setZone_inFlight (z : Zone) (u : ZoneUnit) : (s.setZone z u).inFlight = s.inFlight := rfl
@[simp] theorem setZone_pending (z : Zone) (u : ZoneUnit) : (s.setZone z u).pending = s.pending := rfl

/-! ### setFan -/

@[simp] theorem setFan_powered (c : Chan) (f : FanRecord) : (s.setFan c f).powered = s.powered := rfl
@[simp] theorem setFan_roster (c : Chan) (f : FanRecord) : (s.setFan c f).roster = s.roster := rfl
@[simp] theorem setFan_zones (c : Chan) (f : FanRecord) : (s.setFan c f).zones = s.zones := rfl
@[simp] theorem setFan_fans (c : Chan) (f : FanRecord) : (s.setFan c f).fans = s.fans.set c f := rfl
@[simp] theorem setFan_queueA (c : Chan) (f : FanRecord) : (s.setFan c f).queueA = s.queueA := rfl
@[simp] theorem setFan_queueB (c : Chan) (f : FanRecord) : (s.setFan c f).queueB = s.queueB := rfl
@[simp] theorem setFan_dampers (c : Chan) (f : FanRecord) : (s.setFan c f).dampers = s.dampers := rfl
@[simp] theorem setFan_gates (c : Chan) (f : FanRecord) : (s.setFan c f).gates = s.gates := rfl
@[simp] theorem setFan_alloc (c : Chan) (f : FanRecord) : (s.setFan c f).alloc = s.alloc := rfl
@[simp] theorem setFan_sensors (c : Chan) (f : FanRecord) : (s.setFan c f).sensors = s.sensors := rfl
@[simp] theorem setFan_fire (c : Chan) (f : FanRecord) : (s.setFan c f).fire = s.fire := rfl
@[simp] theorem setFan_hazards (c : Chan) (f : FanRecord) : (s.setFan c f).hazards = s.hazards := rfl
@[simp] theorem setFan_port (c : Chan) (f : FanRecord) : (s.setFan c f).port = s.port := rfl
@[simp] theorem setFan_store (c : Chan) (f : FanRecord) : (s.setFan c f).store = s.store := rfl
@[simp] theorem setFan_pins (c : Chan) (f : FanRecord) : (s.setFan c f).pins = s.pins := rfl
@[simp] theorem setFan_inFlight (c : Chan) (f : FanRecord) : (s.setFan c f).inFlight = s.inFlight := rfl
@[simp] theorem setFan_pending (c : Chan) (f : FanRecord) : (s.setFan c f).pending = s.pending := rfl

/-! ### setDamper -/

@[simp] theorem setDamper_powered (z : Zone) (d : DamperRecord) : (s.setDamper z d).powered = s.powered := rfl
@[simp] theorem setDamper_roster (z : Zone) (d : DamperRecord) : (s.setDamper z d).roster = s.roster := rfl
@[simp] theorem setDamper_zones (z : Zone) (d : DamperRecord) : (s.setDamper z d).zones = s.zones := rfl
@[simp] theorem setDamper_fans (z : Zone) (d : DamperRecord) : (s.setDamper z d).fans = s.fans := rfl
@[simp] theorem setDamper_queueA (z : Zone) (d : DamperRecord) : (s.setDamper z d).queueA = s.queueA := rfl
@[simp] theorem setDamper_queueB (z : Zone) (d : DamperRecord) : (s.setDamper z d).queueB = s.queueB := rfl
@[simp] theorem setDamper_dampers (z : Zone) (d : DamperRecord) : (s.setDamper z d).dampers = s.dampers.set z d := rfl
@[simp] theorem setDamper_gates (z : Zone) (d : DamperRecord) : (s.setDamper z d).gates = s.gates := rfl
@[simp] theorem setDamper_alloc (z : Zone) (d : DamperRecord) : (s.setDamper z d).alloc = s.alloc := rfl
@[simp] theorem setDamper_sensors (z : Zone) (d : DamperRecord) : (s.setDamper z d).sensors = s.sensors := rfl
@[simp] theorem setDamper_fire (z : Zone) (d : DamperRecord) : (s.setDamper z d).fire = s.fire := rfl
@[simp] theorem setDamper_hazards (z : Zone) (d : DamperRecord) : (s.setDamper z d).hazards = s.hazards := rfl
@[simp] theorem setDamper_port (z : Zone) (d : DamperRecord) : (s.setDamper z d).port = s.port := rfl
@[simp] theorem setDamper_store (z : Zone) (d : DamperRecord) : (s.setDamper z d).store = s.store := rfl
@[simp] theorem setDamper_pins (z : Zone) (d : DamperRecord) : (s.setDamper z d).pins = s.pins := rfl
@[simp] theorem setDamper_inFlight (z : Zone) (d : DamperRecord) : (s.setDamper z d).inFlight = s.inFlight := rfl
@[simp] theorem setDamper_pending (z : Zone) (d : DamperRecord) : (s.setDamper z d).pending = s.pending := rfl

/-! ### setGate -/

@[simp] theorem setGate_powered (c : Chan) (g : GateRecord) : (s.setGate c g).powered = s.powered := rfl
@[simp] theorem setGate_roster (c : Chan) (g : GateRecord) : (s.setGate c g).roster = s.roster := rfl
@[simp] theorem setGate_zones (c : Chan) (g : GateRecord) : (s.setGate c g).zones = s.zones := rfl
@[simp] theorem setGate_fans (c : Chan) (g : GateRecord) : (s.setGate c g).fans = s.fans := rfl
@[simp] theorem setGate_queueA (c : Chan) (g : GateRecord) : (s.setGate c g).queueA = s.queueA := rfl
@[simp] theorem setGate_queueB (c : Chan) (g : GateRecord) : (s.setGate c g).queueB = s.queueB := rfl
@[simp] theorem setGate_dampers (c : Chan) (g : GateRecord) : (s.setGate c g).dampers = s.dampers := rfl
@[simp] theorem setGate_gates (c : Chan) (g : GateRecord) : (s.setGate c g).gates = s.gates.set c g := rfl
@[simp] theorem setGate_alloc (c : Chan) (g : GateRecord) : (s.setGate c g).alloc = s.alloc := rfl
@[simp] theorem setGate_sensors (c : Chan) (g : GateRecord) : (s.setGate c g).sensors = s.sensors := rfl
@[simp] theorem setGate_fire (c : Chan) (g : GateRecord) : (s.setGate c g).fire = s.fire := rfl
@[simp] theorem setGate_hazards (c : Chan) (g : GateRecord) : (s.setGate c g).hazards = s.hazards := rfl
@[simp] theorem setGate_port (c : Chan) (g : GateRecord) : (s.setGate c g).port = s.port := rfl
@[simp] theorem setGate_store (c : Chan) (g : GateRecord) : (s.setGate c g).store = s.store := rfl
@[simp] theorem setGate_pins (c : Chan) (g : GateRecord) : (s.setGate c g).pins = s.pins := rfl
@[simp] theorem setGate_inFlight (c : Chan) (g : GateRecord) : (s.setGate c g).inFlight = s.inFlight := rfl
@[simp] theorem setGate_pending (c : Chan) (g : GateRecord) : (s.setGate c g).pending = s.pending := rfl

/-! ### setAlloc -/

@[simp] theorem setAlloc_powered (a : Allocator) : (s.setAlloc a).powered = s.powered := rfl
@[simp] theorem setAlloc_roster (a : Allocator) : (s.setAlloc a).roster = s.roster := rfl
@[simp] theorem setAlloc_zones (a : Allocator) : (s.setAlloc a).zones = s.zones := rfl
@[simp] theorem setAlloc_fans (a : Allocator) : (s.setAlloc a).fans = s.fans := rfl
@[simp] theorem setAlloc_queueA (a : Allocator) : (s.setAlloc a).queueA = s.queueA := rfl
@[simp] theorem setAlloc_queueB (a : Allocator) : (s.setAlloc a).queueB = s.queueB := rfl
@[simp] theorem setAlloc_dampers (a : Allocator) : (s.setAlloc a).dampers = s.dampers := rfl
@[simp] theorem setAlloc_gates (a : Allocator) : (s.setAlloc a).gates = s.gates := rfl
@[simp] theorem setAlloc_alloc (a : Allocator) : (s.setAlloc a).alloc = a := rfl
@[simp] theorem setAlloc_sensors (a : Allocator) : (s.setAlloc a).sensors = s.sensors := rfl
@[simp] theorem setAlloc_fire (a : Allocator) : (s.setAlloc a).fire = s.fire := rfl
@[simp] theorem setAlloc_hazards (a : Allocator) : (s.setAlloc a).hazards = s.hazards := rfl
@[simp] theorem setAlloc_port (a : Allocator) : (s.setAlloc a).port = s.port := rfl
@[simp] theorem setAlloc_store (a : Allocator) : (s.setAlloc a).store = s.store := rfl
@[simp] theorem setAlloc_pins (a : Allocator) : (s.setAlloc a).pins = s.pins := rfl
@[simp] theorem setAlloc_inFlight (a : Allocator) : (s.setAlloc a).inFlight = s.inFlight := rfl
@[simp] theorem setAlloc_pending (a : Allocator) : (s.setAlloc a).pending = s.pending := rfl

/-! ### setSensors -/

@[simp] theorem setSensors_powered (l : SensorLine) : (s.setSensors l).powered = s.powered := rfl
@[simp] theorem setSensors_roster (l : SensorLine) : (s.setSensors l).roster = s.roster := rfl
@[simp] theorem setSensors_zones (l : SensorLine) : (s.setSensors l).zones = s.zones := rfl
@[simp] theorem setSensors_fans (l : SensorLine) : (s.setSensors l).fans = s.fans := rfl
@[simp] theorem setSensors_queueA (l : SensorLine) : (s.setSensors l).queueA = s.queueA := rfl
@[simp] theorem setSensors_queueB (l : SensorLine) : (s.setSensors l).queueB = s.queueB := rfl
@[simp] theorem setSensors_dampers (l : SensorLine) : (s.setSensors l).dampers = s.dampers := rfl
@[simp] theorem setSensors_gates (l : SensorLine) : (s.setSensors l).gates = s.gates := rfl
@[simp] theorem setSensors_alloc (l : SensorLine) : (s.setSensors l).alloc = s.alloc := rfl
@[simp] theorem setSensors_sensors (l : SensorLine) : (s.setSensors l).sensors = l := rfl
@[simp] theorem setSensors_fire (l : SensorLine) : (s.setSensors l).fire = s.fire := rfl
@[simp] theorem setSensors_hazards (l : SensorLine) : (s.setSensors l).hazards = s.hazards := rfl
@[simp] theorem setSensors_port (l : SensorLine) : (s.setSensors l).port = s.port := rfl
@[simp] theorem setSensors_store (l : SensorLine) : (s.setSensors l).store = s.store := rfl
@[simp] theorem setSensors_pins (l : SensorLine) : (s.setSensors l).pins = s.pins := rfl
@[simp] theorem setSensors_inFlight (l : SensorLine) : (s.setSensors l).inFlight = s.inFlight := rfl
@[simp] theorem setSensors_pending (l : SensorLine) : (s.setSensors l).pending = s.pending := rfl

/-! ### setHead -/

@[simp] theorem setHead_powered (h : HeadAddr) (r : HeadRecord) : (s.setHead h r).powered = s.powered := rfl
@[simp] theorem setHead_roster (h : HeadAddr) (r : HeadRecord) : (s.setHead h r).roster = s.roster := rfl
@[simp] theorem setHead_zones (h : HeadAddr) (r : HeadRecord) : (s.setHead h r).zones = s.zones := rfl
@[simp] theorem setHead_fans (h : HeadAddr) (r : HeadRecord) : (s.setHead h r).fans = s.fans := rfl
@[simp] theorem setHead_queueA (h : HeadAddr) (r : HeadRecord) : (s.setHead h r).queueA = s.queueA := rfl
@[simp] theorem setHead_queueB (h : HeadAddr) (r : HeadRecord) : (s.setHead h r).queueB = s.queueB := rfl
@[simp] theorem setHead_dampers (h : HeadAddr) (r : HeadRecord) : (s.setHead h r).dampers = s.dampers := rfl
@[simp] theorem setHead_gates (h : HeadAddr) (r : HeadRecord) : (s.setHead h r).gates = s.gates := rfl
@[simp] theorem setHead_alloc (h : HeadAddr) (r : HeadRecord) : (s.setHead h r).alloc = s.alloc := rfl
@[simp] theorem setHead_sensors (h : HeadAddr) (r : HeadRecord) : (s.setHead h r).sensors = { s.sensors with heads := s.sensors.heads.set h r } := rfl
@[simp] theorem setHead_fire (h : HeadAddr) (r : HeadRecord) : (s.setHead h r).fire = s.fire := rfl
@[simp] theorem setHead_hazards (h : HeadAddr) (r : HeadRecord) : (s.setHead h r).hazards = s.hazards := rfl
@[simp] theorem setHead_port (h : HeadAddr) (r : HeadRecord) : (s.setHead h r).port = s.port := rfl
@[simp] theorem setHead_store (h : HeadAddr) (r : HeadRecord) : (s.setHead h r).store = s.store := rfl
@[simp] theorem setHead_pins (h : HeadAddr) (r : HeadRecord) : (s.setHead h r).pins = s.pins := rfl
@[simp] theorem setHead_inFlight (h : HeadAddr) (r : HeadRecord) : (s.setHead h r).inFlight = s.inFlight := rfl
@[simp] theorem setHead_pending (h : HeadAddr) (r : HeadRecord) : (s.setHead h r).pending = s.pending := rfl

/-! ### setFire -/

@[simp] theorem setFire_powered (f : FireInterface) : (s.setFire f).powered = s.powered := rfl
@[simp] theorem setFire_roster (f : FireInterface) : (s.setFire f).roster = s.roster := rfl
@[simp] theorem setFire_zones (f : FireInterface) : (s.setFire f).zones = s.zones := rfl
@[simp] theorem setFire_fans (f : FireInterface) : (s.setFire f).fans = s.fans := rfl
@[simp] theorem setFire_queueA (f : FireInterface) : (s.setFire f).queueA = s.queueA := rfl
@[simp] theorem setFire_queueB (f : FireInterface) : (s.setFire f).queueB = s.queueB := rfl
@[simp] theorem setFire_dampers (f : FireInterface) : (s.setFire f).dampers = s.dampers := rfl
@[simp] theorem setFire_gates (f : FireInterface) : (s.setFire f).gates = s.gates := rfl
@[simp] theorem setFire_alloc (f : FireInterface) : (s.setFire f).alloc = s.alloc := rfl
@[simp] theorem setFire_sensors (f : FireInterface) : (s.setFire f).sensors = s.sensors := rfl
@[simp] theorem setFire_fire (f : FireInterface) : (s.setFire f).fire = f := rfl
@[simp] theorem setFire_hazards (f : FireInterface) : (s.setFire f).hazards = s.hazards := rfl
@[simp] theorem setFire_port (f : FireInterface) : (s.setFire f).port = s.port := rfl
@[simp] theorem setFire_store (f : FireInterface) : (s.setFire f).store = s.store := rfl
@[simp] theorem setFire_pins (f : FireInterface) : (s.setFire f).pins = s.pins := rfl
@[simp] theorem setFire_inFlight (f : FireInterface) : (s.setFire f).inFlight = s.inFlight := rfl
@[simp] theorem setFire_pending (f : FireInterface) : (s.setFire f).pending = s.pending := rfl

/-! ### setHazards -/

@[simp] theorem setHazards_powered (h : HazardList) : (s.setHazards h).powered = s.powered := rfl
@[simp] theorem setHazards_roster (h : HazardList) : (s.setHazards h).roster = s.roster := rfl
@[simp] theorem setHazards_zones (h : HazardList) : (s.setHazards h).zones = s.zones := rfl
@[simp] theorem setHazards_fans (h : HazardList) : (s.setHazards h).fans = s.fans := rfl
@[simp] theorem setHazards_queueA (h : HazardList) : (s.setHazards h).queueA = s.queueA := rfl
@[simp] theorem setHazards_queueB (h : HazardList) : (s.setHazards h).queueB = s.queueB := rfl
@[simp] theorem setHazards_dampers (h : HazardList) : (s.setHazards h).dampers = s.dampers := rfl
@[simp] theorem setHazards_gates (h : HazardList) : (s.setHazards h).gates = s.gates := rfl
@[simp] theorem setHazards_alloc (h : HazardList) : (s.setHazards h).alloc = s.alloc := rfl
@[simp] theorem setHazards_sensors (h : HazardList) : (s.setHazards h).sensors = s.sensors := rfl
@[simp] theorem setHazards_fire (h : HazardList) : (s.setHazards h).fire = s.fire := rfl
@[simp] theorem setHazards_hazards (h : HazardList) : (s.setHazards h).hazards = h := rfl
@[simp] theorem setHazards_port (h : HazardList) : (s.setHazards h).port = s.port := rfl
@[simp] theorem setHazards_store (h : HazardList) : (s.setHazards h).store = s.store := rfl
@[simp] theorem setHazards_pins (h : HazardList) : (s.setHazards h).pins = s.pins := rfl
@[simp] theorem setHazards_inFlight (h : HazardList) : (s.setHazards h).inFlight = s.inFlight := rfl
@[simp] theorem setHazards_pending (h : HazardList) : (s.setHazards h).pending = s.pending := rfl

/-! ### setPort -/

@[simp] theorem setPort_powered (p : LinkPort) : (s.setPort p).powered = s.powered := rfl
@[simp] theorem setPort_roster (p : LinkPort) : (s.setPort p).roster = s.roster := rfl
@[simp] theorem setPort_zones (p : LinkPort) : (s.setPort p).zones = s.zones := rfl
@[simp] theorem setPort_fans (p : LinkPort) : (s.setPort p).fans = s.fans := rfl
@[simp] theorem setPort_queueA (p : LinkPort) : (s.setPort p).queueA = s.queueA := rfl
@[simp] theorem setPort_queueB (p : LinkPort) : (s.setPort p).queueB = s.queueB := rfl
@[simp] theorem setPort_dampers (p : LinkPort) : (s.setPort p).dampers = s.dampers := rfl
@[simp] theorem setPort_gates (p : LinkPort) : (s.setPort p).gates = s.gates := rfl
@[simp] theorem setPort_alloc (p : LinkPort) : (s.setPort p).alloc = s.alloc := rfl
@[simp] theorem setPort_sensors (p : LinkPort) : (s.setPort p).sensors = s.sensors := rfl
@[simp] theorem setPort_fire (p : LinkPort) : (s.setPort p).fire = s.fire := rfl
@[simp] theorem setPort_hazards (p : LinkPort) : (s.setPort p).hazards = s.hazards := rfl
@[simp] theorem setPort_port (p : LinkPort) : (s.setPort p).port = p := rfl
@[simp] theorem setPort_store (p : LinkPort) : (s.setPort p).store = s.store := rfl
@[simp] theorem setPort_pins (p : LinkPort) : (s.setPort p).pins = s.pins := rfl
@[simp] theorem setPort_inFlight (p : LinkPort) : (s.setPort p).inFlight = s.inFlight := rfl
@[simp] theorem setPort_pending (p : LinkPort) : (s.setPort p).pending = s.pending := rfl

/-! ### setStore -/

@[simp] theorem setStore_powered (c : ConfigStore) : (s.setStore c).powered = s.powered := rfl
@[simp] theorem setStore_roster (c : ConfigStore) : (s.setStore c).roster = s.roster := rfl
@[simp] theorem setStore_zones (c : ConfigStore) : (s.setStore c).zones = s.zones := rfl
@[simp] theorem setStore_fans (c : ConfigStore) : (s.setStore c).fans = s.fans := rfl
@[simp] theorem setStore_queueA (c : ConfigStore) : (s.setStore c).queueA = s.queueA := rfl
@[simp] theorem setStore_queueB (c : ConfigStore) : (s.setStore c).queueB = s.queueB := rfl
@[simp] theorem setStore_dampers (c : ConfigStore) : (s.setStore c).dampers = s.dampers := rfl
@[simp] theorem setStore_gates (c : ConfigStore) : (s.setStore c).gates = s.gates := rfl
@[simp] theorem setStore_alloc (c : ConfigStore) : (s.setStore c).alloc = s.alloc := rfl
@[simp] theorem setStore_sensors (c : ConfigStore) : (s.setStore c).sensors = s.sensors := rfl
@[simp] theorem setStore_fire (c : ConfigStore) : (s.setStore c).fire = s.fire := rfl
@[simp] theorem setStore_hazards (c : ConfigStore) : (s.setStore c).hazards = s.hazards := rfl
@[simp] theorem setStore_port (c : ConfigStore) : (s.setStore c).port = s.port := rfl
@[simp] theorem setStore_store (c : ConfigStore) : (s.setStore c).store = c := rfl
@[simp] theorem setStore_pins (c : ConfigStore) : (s.setStore c).pins = s.pins := rfl
@[simp] theorem setStore_inFlight (c : ConfigStore) : (s.setStore c).inFlight = s.inFlight := rfl
@[simp] theorem setStore_pending (c : ConfigStore) : (s.setStore c).pending = s.pending := rfl

/-! ### setCfg -/

@[simp] theorem setCfg_powered (c : Cfg) : (s.setCfg c).powered = s.powered := rfl
@[simp] theorem setCfg_roster (c : Cfg) : (s.setCfg c).roster = s.roster := rfl
@[simp] theorem setCfg_zones (c : Cfg) : (s.setCfg c).zones = s.zones := rfl
@[simp] theorem setCfg_fans (c : Cfg) : (s.setCfg c).fans = s.fans := rfl
@[simp] theorem setCfg_queueA (c : Cfg) : (s.setCfg c).queueA = s.queueA := rfl
@[simp] theorem setCfg_queueB (c : Cfg) : (s.setCfg c).queueB = s.queueB := rfl
@[simp] theorem setCfg_dampers (c : Cfg) : (s.setCfg c).dampers = s.dampers := rfl
@[simp] theorem setCfg_gates (c : Cfg) : (s.setCfg c).gates = s.gates := rfl
@[simp] theorem setCfg_alloc (c : Cfg) : (s.setCfg c).alloc = s.alloc := rfl
@[simp] theorem setCfg_sensors (c : Cfg) : (s.setCfg c).sensors = s.sensors := rfl
@[simp] theorem setCfg_fire (c : Cfg) : (s.setCfg c).fire = s.fire := rfl
@[simp] theorem setCfg_hazards (c : Cfg) : (s.setCfg c).hazards = s.hazards := rfl
@[simp] theorem setCfg_port (c : Cfg) : (s.setCfg c).port = s.port := rfl
@[simp] theorem setCfg_store (c : Cfg) : (s.setCfg c).store = { s.store with cfg := c } := rfl
@[simp] theorem setCfg_pins (c : Cfg) : (s.setCfg c).pins = s.pins := rfl
@[simp] theorem setCfg_inFlight (c : Cfg) : (s.setCfg c).inFlight = s.inFlight := rfl
@[simp] theorem setCfg_pending (c : Cfg) : (s.setCfg c).pending = s.pending := rfl

/-! ### setPins -/

@[simp] theorem setPins_powered (p : Pins) : (s.setPins p).powered = s.powered := rfl
@[simp] theorem setPins_roster (p : Pins) : (s.setPins p).roster = s.roster := rfl
@[simp] theorem setPins_zones (p : Pins) : (s.setPins p).zones = s.zones := rfl
@[simp] theorem setPins_fans (p : Pins) : (s.setPins p).fans = s.fans := rfl
@[simp] theorem setPins_queueA (p : Pins) : (s.setPins p).queueA = s.queueA := rfl
@[simp] theorem setPins_queueB (p : Pins) : (s.setPins p).queueB = s.queueB := rfl
@[simp] theorem setPins_dampers (p : Pins) : (s.setPins p).dampers = s.dampers := rfl
@[simp] theorem setPins_gates (p : Pins) : (s.setPins p).gates = s.gates := rfl
@[simp] theorem setPins_alloc (p : Pins) : (s.setPins p).alloc = s.alloc := rfl
@[simp] theorem setPins_sensors (p : Pins) : (s.setPins p).sensors = s.sensors := rfl
@[simp] theorem setPins_fire (p : Pins) : (s.setPins p).fire = s.fire := rfl
@[simp] theorem setPins_hazards (p : Pins) : (s.setPins p).hazards = s.hazards := rfl
@[simp] theorem setPins_port (p : Pins) : (s.setPins p).port = s.port := rfl
@[simp] theorem setPins_store (p : Pins) : (s.setPins p).store = s.store := rfl
@[simp] theorem setPins_pins (p : Pins) : (s.setPins p).pins = p := rfl
@[simp] theorem setPins_inFlight (p : Pins) : (s.setPins p).inFlight = s.inFlight := rfl
@[simp] theorem setPins_pending (p : Pins) : (s.setPins p).pending = s.pending := rfl

/-! ### emit -/

@[simp] theorem emit_powered (l : List Instr) : (s.emit l).powered = s.powered := rfl
@[simp] theorem emit_roster (l : List Instr) : (s.emit l).roster = s.roster := rfl
@[simp] theorem emit_zones (l : List Instr) : (s.emit l).zones = s.zones := rfl
@[simp] theorem emit_fans (l : List Instr) : (s.emit l).fans = s.fans := rfl
@[simp] theorem emit_queueA (l : List Instr) : (s.emit l).queueA = s.queueA := rfl
@[simp] theorem emit_queueB (l : List Instr) : (s.emit l).queueB = s.queueB := rfl
@[simp] theorem emit_dampers (l : List Instr) : (s.emit l).dampers = s.dampers := rfl
@[simp] theorem emit_gates (l : List Instr) : (s.emit l).gates = s.gates := rfl
@[simp] theorem emit_alloc (l : List Instr) : (s.emit l).alloc = s.alloc := rfl
@[simp] theorem emit_sensors (l : List Instr) : (s.emit l).sensors = s.sensors := rfl
@[simp] theorem emit_fire (l : List Instr) : (s.emit l).fire = s.fire := rfl
@[simp] theorem emit_hazards (l : List Instr) : (s.emit l).hazards = s.hazards := rfl
@[simp] theorem emit_port (l : List Instr) : (s.emit l).port = s.port := rfl
@[simp] theorem emit_store (l : List Instr) : (s.emit l).store = s.store := rfl
@[simp] theorem emit_pins (l : List Instr) : (s.emit l).pins = s.pins := rfl
@[simp] theorem emit_inFlight (l : List Instr) : (s.emit l).inFlight = s.inFlight ++ l := rfl
@[simp] theorem emit_pending (l : List Instr) : (s.emit l).pending = s.pending := rfl

/-! ### taken -/

@[simp] theorem taken_powered (c : Instr) : (s.taken c).powered = s.powered := rfl
@[simp] theorem taken_roster (c : Instr) : (s.taken c).roster = s.roster := rfl
@[simp] theorem taken_zones (c : Instr) : (s.taken c).zones = s.zones := rfl
@[simp] theorem taken_fans (c : Instr) : (s.taken c).fans = s.fans := rfl
@[simp] theorem taken_queueA (c : Instr) : (s.taken c).queueA = s.queueA := rfl
@[simp] theorem taken_queueB (c : Instr) : (s.taken c).queueB = s.queueB := rfl
@[simp] theorem taken_dampers (c : Instr) : (s.taken c).dampers = s.dampers := rfl
@[simp] theorem taken_gates (c : Instr) : (s.taken c).gates = s.gates := rfl
@[simp] theorem taken_alloc (c : Instr) : (s.taken c).alloc = s.alloc := rfl
@[simp] theorem taken_sensors (c : Instr) : (s.taken c).sensors = s.sensors := rfl
@[simp] theorem taken_fire (c : Instr) : (s.taken c).fire = s.fire := rfl
@[simp] theorem taken_hazards (c : Instr) : (s.taken c).hazards = s.hazards := rfl
@[simp] theorem taken_port (c : Instr) : (s.taken c).port = s.port := rfl
@[simp] theorem taken_store (c : Instr) : (s.taken c).store = s.store := rfl
@[simp] theorem taken_pins (c : Instr) : (s.taken c).pins = s.pins := rfl
@[simp] theorem taken_inFlight (c : Instr) : (s.taken c).inFlight = s.inFlight.erase c := rfl
@[simp] theorem taken_pending (c : Instr) : (s.taken c).pending = s.pending := rfl

/-! ### setQueue -/

@[simp] theorem setQueue_powered (f : Feed) (q : StartQueue) : (s.setQueue f q).powered = s.powered := by cases f <;> rfl
@[simp] theorem setQueue_roster (f : Feed) (q : StartQueue) : (s.setQueue f q).roster = s.roster := by cases f <;> rfl
@[simp] theorem setQueue_zones (f : Feed) (q : StartQueue) : (s.setQueue f q).zones = s.zones := by cases f <;> rfl
@[simp] theorem setQueue_fans (f : Feed) (q : StartQueue) : (s.setQueue f q).fans = s.fans := by cases f <;> rfl
@[simp] theorem setQueue_a_queueA (q : StartQueue) : (s.setQueue .a q).queueA = q := rfl
@[simp] theorem setQueue_b_queueA (q : StartQueue) : (s.setQueue .b q).queueA = s.queueA := rfl
@[simp] theorem setQueue_b_queueB (q : StartQueue) : (s.setQueue .b q).queueB = q := rfl
@[simp] theorem setQueue_a_queueB (q : StartQueue) : (s.setQueue .a q).queueB = s.queueB := rfl
@[simp] theorem setQueue_dampers (f : Feed) (q : StartQueue) : (s.setQueue f q).dampers = s.dampers := by cases f <;> rfl
@[simp] theorem setQueue_gates (f : Feed) (q : StartQueue) : (s.setQueue f q).gates = s.gates := by cases f <;> rfl
@[simp] theorem setQueue_alloc (f : Feed) (q : StartQueue) : (s.setQueue f q).alloc = s.alloc := by cases f <;> rfl
@[simp] theorem setQueue_sensors (f : Feed) (q : StartQueue) : (s.setQueue f q).sensors = s.sensors := by cases f <;> rfl
@[simp] theorem setQueue_fire (f : Feed) (q : StartQueue) : (s.setQueue f q).fire = s.fire := by cases f <;> rfl
@[simp] theorem setQueue_hazards (f : Feed) (q : StartQueue) : (s.setQueue f q).hazards = s.hazards := by cases f <;> rfl
@[simp] theorem setQueue_port (f : Feed) (q : StartQueue) : (s.setQueue f q).port = s.port := by cases f <;> rfl
@[simp] theorem setQueue_store (f : Feed) (q : StartQueue) : (s.setQueue f q).store = s.store := by cases f <;> rfl
@[simp] theorem setQueue_pins (f : Feed) (q : StartQueue) : (s.setQueue f q).pins = s.pins := by cases f <;> rfl
@[simp] theorem setQueue_inFlight (f : Feed) (q : StartQueue) : (s.setQueue f q).inFlight = s.inFlight := by cases f <;> rfl
@[simp] theorem setQueue_pending (f : Feed) (q : StartQueue) : (s.setQueue f q).pending = s.pending := by cases f <;> rfl

/-! ### The queue of a feed -/

@[simp] theorem queue_a : s.queue .a = s.queueA := rfl
@[simp] theorem queue_b : s.queue .b = s.queueB := rfl
@[simp] theorem setQueue_queue_self (f : Feed) (q : StartQueue) : (s.setQueue f q).queue f = q := by cases f <;> rfl
theorem setQueue_queue_other (f g : Feed) (q : StartQueue) (h : f ≠ g) : (s.setQueue f q).queue g = s.queue g := by
  cases f <;> cases g <;> first | exact absurd rfl h | rfl

/-! ### The configuration -/

@[simp] theorem setStore_cfg (c : ConfigStore) : (s.setStore c).cfg = c.cfg := rfl
@[simp] theorem setCfg_cfg (c : Cfg) : (s.setCfg c).cfg = c := rfl
@[simp] theorem setRoster_cfg (r : Roster) : (s.setRoster r).cfg = s.cfg := rfl
@[simp] theorem setRoster_chan (r : Roster) (k : Chan) : (s.setRoster r).chan k = s.chan k := rfl
@[simp] theorem setRoster_zoneCfg (r : Roster) (k : Zone) : (s.setRoster r).zoneCfg k = s.zoneCfg k := rfl
@[simp] theorem setStall_cfg (i : StallIdx) (e : StallEntry) : (s.setStall i e).cfg = s.cfg := rfl
@[simp] theorem setStall_chan (i : StallIdx) (e : StallEntry) (k : Chan) : (s.setStall i e).chan k = s.chan k := rfl
@[simp] theorem setStall_zoneCfg (i : StallIdx) (e : StallEntry) (k : Zone) : (s.setStall i e).zoneCfg k = s.zoneCfg k := rfl
@[simp] theorem setZone_cfg (z : Zone) (u : ZoneUnit) : (s.setZone z u).cfg = s.cfg := rfl
@[simp] theorem setZone_chan (z : Zone) (u : ZoneUnit) (k : Chan) : (s.setZone z u).chan k = s.chan k := rfl
@[simp] theorem setZone_zoneCfg (z : Zone) (u : ZoneUnit) (k : Zone) : (s.setZone z u).zoneCfg k = s.zoneCfg k := rfl
@[simp] theorem setFan_cfg (c : Chan) (f : FanRecord) : (s.setFan c f).cfg = s.cfg := rfl
@[simp] theorem setFan_chan (c : Chan) (f : FanRecord) (k : Chan) : (s.setFan c f).chan k = s.chan k := rfl
@[simp] theorem setFan_zoneCfg (c : Chan) (f : FanRecord) (k : Zone) : (s.setFan c f).zoneCfg k = s.zoneCfg k := rfl
@[simp] theorem setDamper_cfg (z : Zone) (d : DamperRecord) : (s.setDamper z d).cfg = s.cfg := rfl
@[simp] theorem setDamper_chan (z : Zone) (d : DamperRecord) (k : Chan) : (s.setDamper z d).chan k = s.chan k := rfl
@[simp] theorem setDamper_zoneCfg (z : Zone) (d : DamperRecord) (k : Zone) : (s.setDamper z d).zoneCfg k = s.zoneCfg k := rfl
@[simp] theorem setGate_cfg (c : Chan) (g : GateRecord) : (s.setGate c g).cfg = s.cfg := rfl
@[simp] theorem setGate_chan (c : Chan) (g : GateRecord) (k : Chan) : (s.setGate c g).chan k = s.chan k := rfl
@[simp] theorem setGate_zoneCfg (c : Chan) (g : GateRecord) (k : Zone) : (s.setGate c g).zoneCfg k = s.zoneCfg k := rfl
@[simp] theorem setAlloc_cfg (a : Allocator) : (s.setAlloc a).cfg = s.cfg := rfl
@[simp] theorem setAlloc_chan (a : Allocator) (k : Chan) : (s.setAlloc a).chan k = s.chan k := rfl
@[simp] theorem setAlloc_zoneCfg (a : Allocator) (k : Zone) : (s.setAlloc a).zoneCfg k = s.zoneCfg k := rfl
@[simp] theorem setSensors_cfg (l : SensorLine) : (s.setSensors l).cfg = s.cfg := rfl
@[simp] theorem setSensors_chan (l : SensorLine) (k : Chan) : (s.setSensors l).chan k = s.chan k := rfl
@[simp] theorem setSensors_zoneCfg (l : SensorLine) (k : Zone) : (s.setSensors l).zoneCfg k = s.zoneCfg k := rfl
@[simp] theorem setHead_cfg (h : HeadAddr) (r : HeadRecord) : (s.setHead h r).cfg = s.cfg := rfl
@[simp] theorem setHead_chan (h : HeadAddr) (r : HeadRecord) (k : Chan) : (s.setHead h r).chan k = s.chan k := rfl
@[simp] theorem setHead_zoneCfg (h : HeadAddr) (r : HeadRecord) (k : Zone) : (s.setHead h r).zoneCfg k = s.zoneCfg k := rfl
@[simp] theorem setFire_cfg (f : FireInterface) : (s.setFire f).cfg = s.cfg := rfl
@[simp] theorem setFire_chan (f : FireInterface) (k : Chan) : (s.setFire f).chan k = s.chan k := rfl
@[simp] theorem setFire_zoneCfg (f : FireInterface) (k : Zone) : (s.setFire f).zoneCfg k = s.zoneCfg k := rfl
@[simp] theorem setHazards_cfg (h : HazardList) : (s.setHazards h).cfg = s.cfg := rfl
@[simp] theorem setHazards_chan (h : HazardList) (k : Chan) : (s.setHazards h).chan k = s.chan k := rfl
@[simp] theorem setHazards_zoneCfg (h : HazardList) (k : Zone) : (s.setHazards h).zoneCfg k = s.zoneCfg k := rfl
@[simp] theorem setPort_cfg (p : LinkPort) : (s.setPort p).cfg = s.cfg := rfl
@[simp] theorem setPort_chan (p : LinkPort) (k : Chan) : (s.setPort p).chan k = s.chan k := rfl
@[simp] theorem setPort_zoneCfg (p : LinkPort) (k : Zone) : (s.setPort p).zoneCfg k = s.zoneCfg k := rfl
@[simp] theorem setPins_cfg (p : Pins) : (s.setPins p).cfg = s.cfg := rfl
@[simp] theorem setPins_chan (p : Pins) (k : Chan) : (s.setPins p).chan k = s.chan k := rfl
@[simp] theorem setPins_zoneCfg (p : Pins) (k : Zone) : (s.setPins p).zoneCfg k = s.zoneCfg k := rfl
@[simp] theorem emit_cfg (l : List Instr) : (s.emit l).cfg = s.cfg := rfl
@[simp] theorem emit_chan (l : List Instr) (k : Chan) : (s.emit l).chan k = s.chan k := rfl
@[simp] theorem emit_zoneCfg (l : List Instr) (k : Zone) : (s.emit l).zoneCfg k = s.zoneCfg k := rfl
@[simp] theorem taken_cfg (c : Instr) : (s.taken c).cfg = s.cfg := rfl
@[simp] theorem taken_chan (c : Instr) (k : Chan) : (s.taken c).chan k = s.chan k := rfl
@[simp] theorem taken_zoneCfg (c : Instr) (k : Zone) : (s.taken c).zoneCfg k = s.zoneCfg k := rfl
@[simp] theorem setQueue_cfg (f : Feed) (q : StartQueue) : (s.setQueue f q).cfg = s.cfg := by cases f <;> rfl
@[simp] theorem setQueue_chan (f : Feed) (q : StartQueue) (k : Chan) : (s.setQueue f q).chan k = s.chan k := by cases f <;> rfl
@[simp] theorem setQueue_zoneCfg (f : Feed) (q : StartQueue) (k : Zone) : (s.setQueue f q).zoneCfg k = s.zoneCfg k := by cases f <;> rfl

/-! ### Nothing sent -/

@[simp] theorem emit_nil : s.emit [] = s := by simp [emit]
theorem emit_emit (k l : List Instr) : (s.emit k).emit l = s.emit (k ++ l) := by simp [emit]

end Sys2Proof.Machine.State
end

