-- ==== Sys2Proof/Laws/Frame.lean ====
section
/-! SUPPORT. Which parts of the state each shared operation may change: one lemma for each, built from those of the setters. -/

namespace Sys2Proof.Machine

/-! ### Frames compose -/

theorem onlyChanges_refl (P : List Part) (s : State) : onlyChanges P s s := by
  intro p _; cases p <;> rfl

theorem onlyChanges_trans {P : List Part} {s t u : State} (h : onlyChanges P s t) (k : onlyChanges P t u) :
    onlyChanges P s u := by
  intro p hp
  have a := h p hp
  have b := k p hp
  cases p <;> exact Eq.trans b a

theorem onlyChanges_mono {P Q : List Part} {s t : State} (h : onlyChanges P s t) (sub : P ⊆ Q) : onlyChanges Q s t :=
  fun p hp => h p fun hq => hp (sub hq)

theorem onlyChanges_ite {P : List Part} {s t u : State} {c : Prop} [Decidable c] (h : onlyChanges P s t)
    (k : onlyChanges P s u) : onlyChanges P s (if c then t else u) := by
  split
  · exact h
  · exact k

theorem onlyChanges_foldl {α : Type} {P : List Part} {f : State → α → State} (h : ∀ s a, onlyChanges P s (f s a)) :
    ∀ (l : List α) (s : State), onlyChanges P s (l.foldl f s)
  | [], s => onlyChanges_refl P s
  | a :: l, s => onlyChanges_trans (h s a) (onlyChanges_foldl h l (f s a))

/-! ### Setters -/

theorem setRoster_onlyChanges (s : State) (r : Roster) : onlyChanges [.roster] s (s.setRoster r) := by
  intro p hp; cases p <;> simp_all [samePart]

theorem setStall_onlyChanges (s : State) (i : StallIdx) (e : StallEntry) : onlyChanges [.roster] s (s.setStall i e) := by
  intro p hp; cases p <;> simp_all [samePart]

theorem setZone_onlyChanges (s : State) (z : Zone) (u : ZoneUnit) : onlyChanges [.zones] s (s.setZone z u) := by
  intro p hp; cases p <;> simp_all [samePart]

theorem setFan_onlyChanges (s : State) (c : Chan) (f : FanRecord) : onlyChanges [.fans] s (s.setFan c f) := by
  intro p hp; cases p <;> simp_all [samePart]

theorem setQueue_onlyChanges (s : State) (f : Feed) (q : StartQueue) :
    onlyChanges [.queueA, .queueB] s (s.setQueue f q) := by
  intro p hp; cases p <;> simp_all [samePart]

theorem setDamper_onlyChanges (s : State) (z : Zone) (d : DamperRecord) : onlyChanges [.dampers] s (s.setDamper z d) := by
  intro p hp; cases p <;> simp_all [samePart]

theorem setGate_onlyChanges (s : State) (c : Chan) (g : GateRecord) : onlyChanges [.gates] s (s.setGate c g) := by
  intro p hp; cases p <;> simp_all [samePart]

theorem setAlloc_onlyChanges (s : State) (a : Allocator) : onlyChanges [.alloc] s (s.setAlloc a) := by
  intro p hp; cases p <;> simp_all [samePart]

theorem setSensors_onlyChanges (s : State) (l : SensorLine) : onlyChanges [.sensors] s (s.setSensors l) := by
  intro p hp; cases p <;> simp_all [samePart]

theorem setHead_onlyChanges (s : State) (h : HeadAddr) (r : HeadRecord) : onlyChanges [.sensors] s (s.setHead h r) := by
  intro p hp; cases p <;> simp_all [samePart]

theorem setFire_onlyChanges (s : State) (f : FireInterface) : onlyChanges [.fire] s (s.setFire f) := by
  intro p hp; cases p <;> simp_all [samePart]

theorem setHazards_onlyChanges (s : State) (h : HazardList) : onlyChanges [.hazards] s (s.setHazards h) := by
  intro p hp; cases p <;> simp_all [samePart]

theorem setPort_onlyChanges (s : State) (p : LinkPort) : onlyChanges [.port] s (s.setPort p) := by
  intro p hp; cases p <;> simp_all [samePart]

theorem setStore_onlyChanges (s : State) (c : ConfigStore) : onlyChanges [.store] s (s.setStore c) := by
  intro p hp; cases p <;> simp_all [samePart]

theorem setCfg_onlyChanges (s : State) (c : Cfg) : onlyChanges [.store] s (s.setCfg c) := by
  intro p hp; cases p <;> simp_all [samePart]

theorem setPins_onlyChanges (s : State) (p : Pins) : onlyChanges [.pins] s (s.setPins p) := by
  intro p hp; cases p <;> simp_all [samePart]

theorem emit_onlyChanges (s : State) (l : List Instr) : onlyChanges [.inFlight] s (s.emit l) := by
  intro p hp; cases p <;> simp_all [samePart]

theorem taken_onlyChanges (s : State) (c : Instr) : onlyChanges [.inFlight] s (s.taken c) := by
  intro p hp; cases p <;> simp_all [samePart]

/-! ### Events, reports and requests -/

/-- Whatever an event changes, it goes on, and changes no more than its effect and what is in flight. -/
theorem onEvent_onlyChanges {P : List Part} {c : Instr} {s t : State} {f : State → State}
    (h : onEvent c s f = .next t) (hf : ∀ u, onlyChanges P u (f u)) (hp : .inFlight ∈ P) : onlyChanges P s t := by
  have take : onlyChanges P s (s.taken c) := onlyChanges_mono (taken_onlyChanges s c) (by simpa using hp)
  unfold onEvent at h
  injection h with h
  subst h
  split
  · exact onlyChanges_trans take (hf _)
  · exact take

theorem report_onlyChanges (s : State) (a : Bool) (k : HazardKind) (n : Nat) :
    onlyChanges [.inFlight] s (s.report a k n) := emit_onlyChanges _ _

theorem reportChange_onlyChanges (s : State) (a b : Bool) (k : HazardKind) (n : Nat) :
    onlyChanges [.inFlight] s (s.reportChange a b k n) :=
  onlyChanges_ite (onlyChanges_refl _ _) (report_onlyChanges _ _ _ _)

theorem evaluationEvent_onlyChanges (z : Zone) (s : State) : onlyChanges [.zones, .inFlight] s (evaluationEvent z s) := by
  unfold evaluationEvent
  split
  · exact onlyChanges_trans (onlyChanges_mono (setZone_onlyChanges _ _ _) (by simp))
      (onlyChanges_mono (emit_onlyChanges _ _) (by simp))
  · exact onlyChanges_mono (setZone_onlyChanges _ _ _) (by simp)

theorem respond_onlyChanges (s : State) (r : Response) : onlyChanges [.port, .inFlight] s (s.respond r) :=
  onlyChanges_trans (onlyChanges_mono (setPort_onlyChanges _ _) (by simp)) (onlyChanges_mono (emit_onlyChanges _ _) (by simp))

theorem dropFrame_onlyChanges (s : State) : onlyChanges [.port] s s.dropFrame := by
  unfold State.dropFrame
  split
  · exact onlyChanges_refl _ _
  · exact setPort_onlyChanges _ _

/-- A request changes no more than its effect, the port and what is in flight. -/
theorem onRequest_onlyChanges {P : List Part} {c : Instr} {code : Nat} {s t : State}
    {f : State → State × Status × List Byte} (h : onRequest c code s f = .next t) (hf : ∀ u, onlyChanges P u (f u).1)
    (hp : .inFlight ∈ P) (hq : .port ∈ P) : onlyChanges P s t := by
  refine onEvent_onlyChanges h (fun u => ?_) hp
  split
  · exact onlyChanges_trans (hf u) (onlyChanges_mono (respond_onlyChanges _ _) (by simp [hp, hq]))
  · exact onlyChanges_mono (dropFrame_onlyChanges _) (by simpa using hq)

/-! ### Fans and their queues -/

theorem changeFan_onlyChanges (s : State) (c : Chan) (f : FanRecord) : onlyChanges [.fans, .inFlight] s (changeFan s c f) :=
  onlyChanges_trans (onlyChanges_mono (setFan_onlyChanges _ _ _) (by simp)) (onlyChanges_mono (emit_onlyChanges _ _) (by simp))

theorem placeInQueue_onlyChanges (s : State) (c : Chan) : onlyChanges [.queueA, .queueB] s (placeInQueue s c) :=
  setQueue_onlyChanges _ _ _

theorem leaveQueue_onlyChanges (s : State) (c : Chan) : onlyChanges [.queueA, .queueB] s (leaveQueue s c) :=
  setQueue_onlyChanges _ _ _

theorem joinQueue_onlyChanges (s : State) (c : Chan) (f : FanRecord) :
    onlyChanges [.fans, .queueA, .queueB, .inFlight] s (joinQueue s c f) :=
  onlyChanges_trans (onlyChanges_mono (changeFan_onlyChanges _ _ _) (by simp))
    (onlyChanges_mono (placeInQueue_onlyChanges _ _) (by simp))

theorem releasePermit_onlyChanges (s : State) (c : Chan) : onlyChanges [.queueA, .queueB] s (releasePermit s c) :=
  onlyChanges_ite (setQueue_onlyChanges _ _ _) (onlyChanges_refl _ _)

theorem recordAnswer_onlyChanges (s : State) (c : Chan) : onlyChanges [.dampers, .gates] s (recordAnswer s c) := by
  unfold recordAnswer
  split
  · exact onlyChanges_mono (setDamper_onlyChanges _ _ _) (by simp)
  · exact onlyChanges_mono (setGate_onlyChanges _ _ _) (by simp)
  · exact onlyChanges_refl _ _

theorem startFan_onlyChanges (s : State) (c : Chan) :
    onlyChanges [.fans, .queueA, .queueB, .dampers, .gates, .inFlight] s (startFan s c) :=
  onlyChanges_trans (onlyChanges_mono (recordAnswer_onlyChanges s c) (by simp))
    (onlyChanges_trans (onlyChanges_mono (leaveQueue_onlyChanges _ _) (by simp))
      (onlyChanges_trans (onlyChanges_mono (setQueue_onlyChanges _ _ _) (by simp))
        (onlyChanges_mono (changeFan_onlyChanges _ _ _) (by simp))))

theorem examine_onlyChanges (s : State) (f : Feed) :
    onlyChanges [.fans, .queueA, .queueB, .dampers, .gates, .inFlight] s (examine s f) := by
  unfold examine
  split
  · exact onlyChanges_refl _ _
  · split
    · exact startFan_onlyChanges _ _
    · exact onlyChanges_refl _ _

theorem stopFan_onlyChanges (s : State) (c : Chan) (r : StopReason) (f : FanRecord) :
    onlyChanges [.fans, .inFlight] s (stopFan s c r f) := changeFan_onlyChanges _ _ _

theorem attemptFailed_onlyChanges (s : State) (c : Chan) (k : FailKind) :
    onlyChanges [.fans, .inFlight] s (attemptFailed s c k) :=
  onlyChanges_trans (changeFan_onlyChanges _ _ _) (onlyChanges_mono (reportChange_onlyChanges _ _ _ _ _) (by simp))

theorem endRundown_onlyChanges (s : State) (c : Chan) :
    onlyChanges [.fans, .queueA, .queueB, .inFlight] s (endRundown s c) := by
  unfold endRundown
  dsimp only
  split
  · exact onlyChanges_ite
      (onlyChanges_trans (onlyChanges_mono (changeFan_onlyChanges _ _ _) (by simp)) (joinQueue_onlyChanges _ _ _))
      (onlyChanges_mono (changeFan_onlyChanges _ _ _) (by simp))
  · exact onlyChanges_mono (attemptFailed_onlyChanges _ _ _) (by simp)

theorem finishRundown_onlyChanges (s : State) (c : Chan) :
    onlyChanges [.fans, .queueA, .queueB, .dampers, .gates, .inFlight] s (finishRundown s c) :=
  onlyChanges_ite
    (onlyChanges_trans (onlyChanges_mono (endRundown_onlyChanges s c) (by simp)) (examine_onlyChanges _ _))
    (onlyChanges_mono (endRundown_onlyChanges s c) (by simp))

theorem lockOut_onlyChanges (s : State) (c : Chan) (t : FanTarget) :
    onlyChanges [.fans, .queueA, .queueB, .inFlight] s (lockOut s c t) :=
  onlyChanges_trans (onlyChanges_mono (leaveQueue_onlyChanges _ _) (by simp))
    (onlyChanges_mono (changeFan_onlyChanges _ _ _) (by simp))

theorem applyTarget_onlyChanges (s : State) (c : Chan) (t : FanTarget) : onlyChanges [.fans] s (applyTarget s c t) :=
  onlyChanges_ite (setFan_onlyChanges _ _ _) (setFan_onlyChanges _ _ _)

theorem takeByState_onlyChanges (s : State) (c : Chan) (t : FanTarget) :
    onlyChanges [.fans, .queueA, .queueB, .inFlight] s (takeByState s c t).1 := by
  have fan : ∀ f, onlyChanges [.fans, .queueA, .queueB, .inFlight] s (s.setFan c f) := fun f =>
    onlyChanges_mono (setFan_onlyChanges _ _ _) (by simp)
  have change : ∀ (u : State) (f : FanRecord), onlyChanges [.fans, .queueA, .queueB, .inFlight] u (changeFan u c f) :=
    fun u f => onlyChanges_mono (changeFan_onlyChanges _ _ _) (by simp)
  have leave : ∀ u : State, onlyChanges [.fans, .queueA, .queueB, .inFlight] u (leaveQueue u c) := fun u =>
    onlyChanges_mono (leaveQueue_onlyChanges _ _) (by simp)
  have place : ∀ u : State, onlyChanges [.fans, .queueA, .queueB, .inFlight] u (placeInQueue u c) := fun u =>
    onlyChanges_mono (placeInQueue_onlyChanges _ _) (by simp)
  have release : ∀ u : State, onlyChanges [.fans, .queueA, .queueB, .inFlight] u (releasePermit u c) := fun u =>
    onlyChanges_mono (releasePermit_onlyChanges _ _) (by simp)
  have apply : onlyChanges [.fans, .queueA, .queueB, .inFlight] s (applyTarget s c t) :=
    onlyChanges_mono (applyTarget_onlyChanges _ _ _) (by simp)
  unfold takeByState
  dsimp only
  split
  · exact onlyChanges_refl _ _
  · split
    · exact joinQueue_onlyChanges _ _ _
    · exact fan _
  · split
    · exact lockOut_onlyChanges _ _ _
    · split
      · exact onlyChanges_trans (leave s) (change _ _)
      · split
        · exact onlyChanges_trans (fan _) (place _)
        · exact fan _
  · split
    · exact apply
    · exact onlyChanges_trans (change s _) (release _)
  · split
    · exact apply
    · exact change s _
  · exact fan _
  · split
    · exact lockOut_onlyChanges _ _ _
    · split
      · exact change s _
      · split
        · exact joinQueue_onlyChanges _ _ _
        · exact fan _
  · split
    · exact joinQueue_onlyChanges _ _ _
    · exact fan _
  · split
    · exact joinQueue_onlyChanges _ _ _
    · exact fan _

theorem takeTarget_onlyChanges (s : State) (c : Chan) (t : FanTarget) :
    onlyChanges [.fans, .queueA, .queueB, .inFlight] s (takeTarget s c t).1 := by
  unfold takeTarget
  split
  · exact onlyChanges_refl _ _
  · exact takeByState_onlyChanges _ _ _

theorem takeTargets_onlyChanges (z : Zone) :
    ∀ (l : List (Chan × FanTarget)) (s : State), onlyChanges [.fans, .queueA, .queueB, .inFlight] s (takeTargets z l s).1
  | [], s => onlyChanges_refl _ s
  | (c, t) :: rest, s => by
    unfold takeTargets
    split
    · exact onlyChanges_trans (takeTarget_onlyChanges s c t) (takeTargets_onlyChanges z rest _)
    · exact takeTargets_onlyChanges z rest s

theorem examineTouched_onlyChanges (l : List Feed) (s : State) :
    onlyChanges [.fans, .queueA, .queueB, .dampers, .gates, .inFlight] s (examineTouched l s) := by
  unfold examineTouched
  split <;> split
  · exact onlyChanges_trans (examine_onlyChanges _ _) (examine_onlyChanges _ _)
  · exact examine_onlyChanges _ _
  · exact examine_onlyChanges _ _
  · exact onlyChanges_refl _ _

theorem clearFan_onlyChanges (s : State) (c : Chan) (target : FanTarget) :
    onlyChanges [.fans, .inFlight] s (clearFan s c target) :=
  onlyChanges_trans (changeFan_onlyChanges _ _ _) (onlyChanges_mono (reportChange_onlyChanges _ _ _ _ _) (by simp))

theorem releaseLocked_onlyChanges (s : State) (c : Chan) :
    onlyChanges [.fans, .queueA, .queueB, .dampers, .gates, .inFlight] s (releaseLocked s c) := by
  have clear := onlyChanges_mono (clearFan_onlyChanges s c s.fans[c].target)
    (show _ ⊆ [Part.fans, .queueA, .queueB, .dampers, .gates, .inFlight] by decide)
  refine onlyChanges_ite (onlyChanges_trans (onlyChanges_trans clear ?_) (examine_onlyChanges _ _)) clear
  exact onlyChanges_mono (joinQueue_onlyChanges _ _ _) (by decide)

theorem syncGate_onlyChanges (s : State) (c : Chan) : onlyChanges [.gates, .inFlight] s (syncGate s c) := by
  unfold syncGate
  split
  · exact onlyChanges_mono (setGate_onlyChanges _ _ _) (by simp)
  · exact onlyChanges_refl _ _
  · exact onlyChanges_trans (onlyChanges_mono (setGate_onlyChanges _ _ _) (by simp))
      (onlyChanges_mono (reportChange_onlyChanges _ _ _ _ _) (by simp))
  · exact onlyChanges_refl _ _

theorem raiseCommanded_onlyChanges (s : State) (c : Chan) : onlyChanges [.fans] s (raiseCommanded s c) :=
  onlyChanges_ite (setFan_onlyChanges _ _ _) (onlyChanges_refl _ _)

/-! ### Dampers and gates -/

theorem moveDamper_onlyChanges (s : State) (z : Zone) (d : DamperRecord) (st : DamperState) (n : Option Nat) :
    onlyChanges [.dampers, .inFlight] s (moveDamper s z d st n) :=
  onlyChanges_trans (onlyChanges_mono (setDamper_onlyChanges _ _ _) (by simp))
    (onlyChanges_trans (onlyChanges_mono (reportChange_onlyChanges _ _ _ _ _) (by simp))
      (onlyChanges_mono (emit_onlyChanges _ _) (by simp)))

theorem beginOpen_onlyChanges (s : State) (z : Zone) (d : DamperRecord) :
    onlyChanges [.dampers, .inFlight] s (beginOpen s z d) :=
  onlyChanges_ite (moveDamper_onlyChanges _ _ _ _ _) (moveDamper_onlyChanges _ _ _ _ _)

theorem beginClose_onlyChanges (s : State) (z : Zone) (d : DamperRecord) :
    onlyChanges [.dampers, .inFlight] s (beginClose s z d) :=
  onlyChanges_ite (moveDamper_onlyChanges _ _ _ _ _) (moveDamper_onlyChanges _ _ _ _ _)

theorem moveGate_onlyChanges (s : State) (c : Chan) (g : GateRecord) (st : GateState) (n : Option Nat) :
    onlyChanges [.gates, .inFlight] s (moveGate s c g st n) :=
  onlyChanges_trans (onlyChanges_mono (setGate_onlyChanges _ _ _) (by simp))
    (onlyChanges_trans (onlyChanges_mono (reportChange_onlyChanges _ _ _ _ _) (by simp))
      (onlyChanges_mono (emit_onlyChanges _ _) (by simp)))

theorem takeGateTarget_onlyChanges (s : State) (c : Chan) (g : GateRecord) (w : Bool) :
    onlyChanges [.gates, .inFlight] s (takeGateTarget s c g w) :=
  onlyChanges_ite
    (onlyChanges_trans (onlyChanges_mono (setGate_onlyChanges _ _ _) (by simp))
      (onlyChanges_mono (emit_onlyChanges _ _) (by simp)))
    (moveGate_onlyChanges _ _ _ _ _)

/-! ### The allocator -/

/-- An allocation run changes the allocator alone, and sends what it decided. -/
theorem runOn_onlyChanges (s : State) (rs : List StandbyEntry) : onlyChanges [.alloc, .inFlight] s (runOn s rs) :=
  onlyChanges_trans (onlyChanges_mono (setAlloc_onlyChanges _ _) (by simp)) (onlyChanges_mono (emit_onlyChanges _ _) (by simp))

/-! ### The sensor line -/

theorem reassess_onlyChanges (s : State) (z : Option Zone) : onlyChanges [.sensors, .inFlight] s (reassess s z) := by
  unfold reassess
  split
  · exact onlyChanges_trans (onlyChanges_mono (setSensors_onlyChanges _ _) (by simp))
      (onlyChanges_mono (reportChange_onlyChanges _ _ _ _ _) (by simp))
  · exact onlyChanges_refl _ _

theorem requestZone_onlyChanges (s : State) (z : Option Zone) : onlyChanges [.inFlight] s (requestZone s z) := by
  unfold requestZone
  split
  · exact emit_onlyChanges _ _
  · exact onlyChanges_refl _ _

theorem endTransaction_onlyChanges (s : State) : onlyChanges [.sensors, .inFlight] s (endTransaction s) :=
  onlyChanges_trans (onlyChanges_mono (setSensors_onlyChanges _ _) (by simp))
    (onlyChanges_ite (onlyChanges_mono (emit_onlyChanges _ _) (by simp)) (onlyChanges_refl _ _))

/-! ### The Fire Interface -/

theorem setLatch_onlyChanges (s : State) (z : Zone) : onlyChanges [.fire, .inFlight] s (setLatch s z) :=
  onlyChanges_ite (onlyChanges_refl _ _)
    (onlyChanges_trans (onlyChanges_mono (setFire_onlyChanges _ _) (by simp))
      (onlyChanges_mono (emit_onlyChanges _ _) (by simp)))

theorem enterContact_onlyChanges (s : State) (z : Zone) (c : ContactState) :
    onlyChanges [.fire, .inFlight] s (enterContact s z c) := by
  have start : onlyChanges [.fire, .inFlight] s
      ((setContact s z { state := c, confirm := none }).reportChange ((contact s z).state == .lineFault) (c == .lineFault)
        .fireInputFault z.val) :=
    onlyChanges_trans (onlyChanges_mono (setFire_onlyChanges _ _) (by simp))
      (onlyChanges_mono (reportChange_onlyChanges _ _ _ _ _) (by simp))
  exact onlyChanges_ite (onlyChanges_trans start (setLatch_onlyChanges _ _)) start

theorem enableContact_onlyChanges (s : State) (z : Zone) (b : Bool) :
    onlyChanges [.fire, .inFlight] s (enableContact s z b) := by
  unfold enableContact
  split
  · exact enterContact_onlyChanges _ _ _
  · exact onlyChanges_refl _ _
  · exact onlyChanges_refl _ _
  · exact enterContact_onlyChanges _ _ _

theorem resetFire_onlyChanges (s : State) : onlyChanges [.fire, .inFlight] s (resetFire s) :=
  onlyChanges_trans (onlyChanges_mono (setFire_onlyChanges _ _) (by simp)) (onlyChanges_mono (emit_onlyChanges _ _) (by simp))

end Sys2Proof.Machine
end

