-- ==== Sys2Proof/Laws/Results.lean ====
section
/-! SUPPORT. What each shared operation computes: the outcomes of an event and of a request, what an operation sends, and the arithmetic,
the payload fields, the hazard list and the start queues the meanings are built from, the payloads of the two long reads, and staging. -/

namespace Sys2Proof.Machine

/-! ### Events and requests -/

/-- An event goes on: at a running module with its effect on the state it was taken from, otherwise with none. -/
theorem onEvent_eq_next_iff {c : Instr} {s t : State} {f : State → State} :
    onEvent c s f = .next t ↔ (s.powered = true ∧ t = f (s.taken c)) ∨ (s.powered = false ∧ t = s.taken c) := by
  unfold onEvent
  cases s.powered <;> simp [eq_comm]

/-- A request at a running module is accepted and answered, or dropped. -/
theorem onRequest_eq_next_iff {c : Instr} {code : Nat} {s t : State} {f : State → State × Status × List Byte}
    (p : s.powered = true) :
    onRequest c code s f = .next t ↔
      (s.canAccept = true ∧
        t = (f (s.taken c)).1.respond { code := code, status := (f (s.taken c)).2.1, payload := (f (s.taken c)).2.2 }) ∨
      (s.canAccept = false ∧ t = (s.taken c).dropFrame) := by
  have same : (s.taken c).canAccept = s.canAccept := rfl
  unfold onRequest
  rw [onEvent_eq_next_iff, p, same]
  cases s.canAccept <;> simp

/-- The port accepts a request exactly when the module, if it runs, is ready for one. -/
theorem ready_iff_canAccept {s : State} : ready s ↔ s.powered = true ∧ s.canAccept = true := by
  simp [ready, State.canAccept]

/-- The answer the port holds after a request. -/
theorem respond_answering (s : State) (code : Nat) (status : Status) (payload : List Byte) :
    answering s (s.respond { code := code, status := status, payload := payload }) code status payload := rfl

/-- An evaluation event changes its zone as R33 gives, and sends what R33 sends. -/
theorem evaluationEvent_eq (z : Zone) (s : State) :
    evaluationEvent z s = (s.setZone z (eventTaken s.zones[z])).emit (eventSends z s.zones[z]) := by
  unfold evaluationEvent eventTaken eventSends
  generalize s.zones[z] = u
  cases h : u.evalState <;> simp [State.emit, State.setZone, h]

/-- A condition's change is reported once, and a condition that did not change is not. -/
theorem reportChange_inFlight (s : State) (a b : Bool) (k : HazardKind) (n : Nat) :
    (s.reportChange a b k n).inFlight =
      s.inFlight ++
        (if a = b then [] else if b = true then [.conditionActiveReport k n] else [.conditionClearReport k n]) := by
  cases a <;> cases b <;> simp [State.reportChange, State.report, State.emit]

/-! ### Arithmetic -/

/-- A quotient rounded up is the least number of divisors that reach the dividend. -/
theorem ceilDiv_bounds {n d : Nat} (h : 0 < d) : n ≤ ceilDiv n d * d ∧ ceilDiv n d * d < n + d := by
  have a := Nat.div_add_mod (n + d - 1) d
  have b := Nat.mod_lt (n + d - 1) h
  have c : ceilDiv n d * d = d * ((n + d - 1) / d) := Nat.mul_comm _ _
  omega

/-- A clamped value lies in its range, and is the value itself where that lies in the range. -/
theorem clampTo_spec {lo hi v : Nat} (h : lo ≤ hi) :
    (lo ≤ clampTo lo hi v ∧ clampTo lo hi v ≤ hi) ∧ (lo ≤ v → v ≤ hi → clampTo lo hi v = v) := by
  unfold clampTo
  omega

theorem foldl_add (l : List Nat) (n : Nat) : l.foldl (· + ·) n = n + l.sum := by
  induction l generalizing n with
  | nil => simp
  | cons a l ih => simp [ih, Nat.add_assoc]

/-- The sum of a list of flows is its sum. -/
theorem total_eq_sum (l : List Nat) : total l = l.sum := by simp [total, foldl_add]

theorem foldl_max (l : List Nat) (m : Option Nat) :
    l.foldl (fun m v => some (max (m.getD 0) v)) m =
      if l = [] then m else some (l.foldl max (m.getD 0)) := by
  induction l generalizing m with
  | nil => rfl
  | cons a l ih =>
    rw [List.foldl_cons, ih]
    by_cases h : l = [] <;> simp [h]

theorem foldl_max_spec (l : List Nat) (n : Nat) :
    n ≤ l.foldl max n ∧ (∀ v ∈ l, v ≤ l.foldl max n) ∧ (l.foldl max n = n ∨ l.foldl max n ∈ l) := by
  induction l generalizing n with
  | nil => simp
  | cons a l ih =>
    obtain ⟨h, k, m⟩ := ih (max n a)
    simp only [List.foldl_cons]
    refine ⟨by omega, ?_, ?_⟩
    · intro v hv
      rcases List.mem_cons.mp hv with rfl | hv
      · omega
      · exact k v hv
    · rcases m with m | m
      · rcases Nat.le_total n a with c | c
        · exact .inr (by rw [m, Nat.max_eq_right c]; exact List.mem_cons_self)
        · exact .inl (by rw [m, Nat.max_eq_left c])
      · exact .inr (List.mem_cons_of_mem _ m)

/-- The largest of a list of readings is one of them, and none is larger; there is none of an empty list. -/
theorem largest_spec (l : List Nat) :
    (largest l = none ↔ l = []) ∧ ∀ v, largest l = some v → v ∈ l ∧ ∀ w ∈ l, w ≤ v := by
  have e : largest l = if l = [] then none else some (l.foldl max 0) := foldl_max l none
  rw [e]
  by_cases h : l = []
  · simp [h]
  · obtain ⟨-, k, m⟩ := foldl_max_spec l 0
    refine ⟨by simp [h], ?_⟩
    rintro v hv
    rw [if_neg h] at hv
    cases hv
    refine ⟨?_, k⟩
    rcases m with m | m
    · obtain ⟨a, rest, rfl⟩ := List.exists_cons_of_ne_nil h
      have z := k a List.mem_cons_self
      rw [m] at z ⊢
      have : a = 0 := by omega
      exact this ▸ List.mem_cons_self
    · exact m

/-! ### Payload fields -/

@[simp] theorem length_bytesOf (w n : Nat) : (bytesOf w n).length = w := by
  induction w with
  | zero => rfl
  | succ w ih => simp [bytesOf, ih]

@[simp] theorem length_field (w : Nat) (o : Option Nat) : (field w o).length = w := by
  cases o <;> simp [field]

@[simp] theorem length_flag (b : Bool) : (flag b).length = 1 := by simp [flag]

theorem numberOf_append_bytesOf (w n : Nat) (l : List Byte) :
    numberOf (l ++ bytesOf w n) = numberOf l * 256 ^ w + n % 256 ^ w := by
  induction w generalizing l with
  | zero => simp [bytesOf, Nat.mod_one]
  | succ w ih =>
    have split : l ++ bytesOf (w + 1) n = (l ++ [BitVec.ofNat 8 (n / 256 ^ w)]) ++ bytesOf w n := by simp [bytesOf]
    have head : numberOf (l ++ [BitVec.ofNat 8 (n / 256 ^ w)]) = 256 * numberOf l + n / 256 ^ w % 256 := by
      simp [numberOf, List.foldl_append]
    rw [split, ih, head, Nat.pow_succ, Nat.mod_mul]
    ring

/-- A number sent in a width that can carry it is received as it was. -/
theorem numberOf_bytesOf {w n : Nat} (h : n < 256 ^ w) : numberOf (bytesOf w n) = n := by
  have k := numberOf_append_bytesOf w n []
  simpa [numberOf, Nat.mod_eq_of_lt h] using k

/-! ### Residues -/

/-- A step takes one from a residue, and clears the level of one that has run out. -/
theorem stepResidue_spec (e : StallEntry) :
    (stepResidue e).steps = e.steps - 1 ∧ (stepResidue e).occupant = e.occupant ∧
      (e.steps = 1 → (stepResidue e).level = 0) ∧ (e.steps ≠ 1 → (stepResidue e).level = e.level) := by
  unfold stepResidue
  split
  · rename_i h
    exact ⟨by omega, rfl, fun k => absurd (h.symm.trans k) (by decide), fun _ => rfl⟩
  · rename_i h
    refine ⟨rfl, rfl, fun k => by simp [k], fun k => ?_⟩
    have : ¬ e.steps - 1 = 0 := by omega
    simp [this]

/-! ### The hazard list -/

/-- An id in its range is followed by one in its range. -/
theorem idAfter_range {id : Nat} (h : 1 ≤ id) : 1 ≤ idAfter id ∧ idAfter id ≤ 65535 := by
  unfold idAfter
  split <;> omega

/-- A changed list keeps its next id, and its attention output follows its entries and UNLISTED (R156). -/
theorem change_attention_iff (h : HazardList) (entries : List HazardEntry) (unlisted : Bool) :
    (h.change entries unlisted).attention = true ↔ unlisted = true ∨ ∃ e ∈ entries, e.state ≠ .activeAck := by
  simp [HazardList.change, attentionDue]

/-- What the append of an entry leaves (R149, R150). -/
theorem append_spec (h : HazardList) (minute : Nat) (kind : HazardKind) (source : Nat) :
    let e : HazardEntry := { id := takeId h, kind := kind, source := source, state := .activeUnack, minute := minute }
    h.append minute kind source =
      { entries := h.entries ++ [e], nextId := idAfter (takeId h), unlisted := h.unlisted, attention := true } := by
  simp [HazardList.append, HazardList.change, attentionDue]

/-! ### The start queues -/

open State

/-- The model's test of a fan's path is the manual's (R95). -/
theorem pathOpen_iff {s : State} {c : Chan} : pathOpen s c = true ↔ openPath s c := by
  unfold pathOpen openPath State.chan
  cases h : s.store.cfg.channels[c].role with
  | zone z => simp
  | unused => simp
  | standby reach => cases g : s.alloc.grants[c] <;> simp

/-- What an answered path check records, by the fan's role (R102, R107); the fans and the queues stay. -/
theorem recordAnswer_spec (s : State) (c : Chan) :
    (recordAnswer s c).fans = s.fans ∧ (recordAnswer s c).store = s.store ∧ (∀ f, (recordAnswer s c).queue f = s.queue f) ∧
      (∀ z, s.store.cfg.channels[c].role = .zone z → c ∈ (recordAnswer s c).dampers[z].blocking) ∧
      (∀ reach, s.store.cfg.channels[c].role = .standby reach → (recordAnswer s c).gates[c].answered = true) := by
  unfold recordAnswer State.chan
  cases h : s.store.cfg.channels[c].role with
  | zone z => refine ⟨rfl, rfl, fun f => by cases f <;> rfl, ?_, by simp⟩; intro y k; cases k; simp [setDamper]
  | unused => exact ⟨rfl, rfl, fun f => rfl, by simp, by simp⟩
  | standby reach => refine ⟨rfl, rfl, fun f => by cases f <;> rfl, by simp, ?_⟩; intro _ _; simp [setGate]

/-- A change of a fan's record replaces it and sends reports alone. -/
theorem changeFan_spec (s : State) (c : Chan) (f : FanRecord) : ∃ l, changeFan s c f = (s.setFan c f).emit l := ⟨_, rfl⟩

/-- What taking the permit does: the fan's record, its queue without it, and its way out held open (R84, R95, R102, R107). -/
theorem startFan_spec (u : State) (d : Chan) :
    (startFan u d).queue (feedOf u d) =
        { fans := (u.queue (feedOf u d)).fans.filter (· != d), permit := some d } ∧
      (∀ f, f ≠ feedOf u d → (startFan u d).queue f = u.queue f) ∧
      (startFan u d).fans = u.fans.set d
        { u.fans[d] with
          state := .starting, runOutput := true, commanded := appliedSpeed u d u.fans[d].target, goodGates := 0
          timer := some (.startWindow u.store.cfg.channels[d].startWindow), window := u.store.cfg.channels[d].startWindow } ∧
      (∀ z, u.store.cfg.channels[d].role = .zone z → d ∈ (startFan u d).dampers[z].blocking) ∧
      (∀ reach, u.store.cfg.channels[d].role = .standby reach → (startFan u d).gates[d].answered = true) := by
  obtain ⟨fans, store, queues, damper, gate⟩ := recordAnswer_spec u d
  have feed : feedOf (recordAnswer u d) d = feedOf u d := by unfold feedOf State.chan; rw [store]
  have feed' : ∀ f q, feedOf ((recordAnswer u d).setQueue f q) d = feedOf u d := by
    intro f q; unfold feedOf State.chan; rw [setQueue_store, store]
  have emitQ : ∀ (v : State) l f, (v.emit l).queue f = v.queue f := fun v l f => by cases f <;> rfl
  have setQ : ∀ (v : State) c r f, (v.setFan c r).queue f = v.queue f := fun v c r f => by cases f <;> rfl
  unfold startFan leaveQueue changeFan
  simp only [feed, feed', emitQ, setQ, setQueue_queue_self, queues, emit_fans, setFan_fans, setQueue_fans, fans, emit_dampers,
    setFan_dampers, setQueue_dampers, emit_gates, setFan_gates, setQueue_gates]
  refine ⟨trivial, ?_, rfl, damper, gate⟩
  intro f h
  rw [setQueue_queue_other _ _ _ _ (Ne.symm h), setQueue_queue_other _ _ _ _ (Ne.symm h), queues]

theorem find?_split {α : Type} {p : α → Bool} {before behind : List α} {d : α} (h : ∀ e ∈ before, p e = false) (k : p d = true) :
    (before ++ d :: behind).find? p = some d := by
  rw [List.find?_append, List.find?_eq_none.mpr (by simpa using h)]
  simp [k]

/-- An examination with the permit held, or with no open path in the queue, changes nothing (R95). -/
theorem examine_stands {u : State} {f : Feed}
    (h : (u.queue f).permit ≠ none ∨ ∀ d ∈ (u.queue f).fans, ¬ openPath u d) : examine u f = u := by
  unfold examine
  split
  · rfl
  · rename_i free
    have no : (u.queue f).fans.find? (fun c => pathOpen u c) = none :=
      List.find?_eq_none.mpr fun d hd => by rw [pathOpen_iff]; exact h.resolve_left (fun k => k free) d hd
    simp [no]

/-- An examination with the permit free starts the first fan whose path is open (R95). -/
theorem examine_starts {u : State} {f : Feed} {before behind : List Chan} {d : Chan} (free : (u.queue f).permit = none)
    (split : (u.queue f).fans = before ++ d :: behind) (shut : ∀ e ∈ before, ¬ openPath u e) (opened : openPath u d) :
    examine u f = startFan u d := by
  have first : (u.queue f).fans.find? (fun c => pathOpen u c) = some d := by
    rw [split]
    exact find?_split (fun e he => Bool.eq_false_iff.mpr fun k => shut e he (pathOpen_iff.mp k)) (pathOpen_iff.mpr opened)
  unfold examine
  simp only [free, first]

/-- The examination of a feed's queue, whose fans are of the feed and stand in it once, is that of R95. -/
theorem examine_examinedAs (u : State) (f : Feed) (once : (u.queue f).fans.Nodup) (own : ∀ d ∈ (u.queue f).fans, feedOf u d = f) :
    examinedAs u (examine u f) f (u.queue f).fans := by
  refine ⟨fun h => ?_, ?_⟩
  · rw [examine_stands h]
    exact ⟨rfl, fun _ _ => rfl⟩
  · intro before d behind speed marked free split shut opened target
    have feed : feedOf u d = f := own d (by rw [split]; simp)
    obtain ⟨queue, -, fans, damper, gate⟩ := startFan_spec u d
    rw [examine_starts free split shut opened]
    rw [feed, split] at queue
    rw [split] at once
    have apart := List.nodup_middle.mp once
    have out : ∀ e ∈ before ++ behind, e ≠ d := fun e he k => (List.nodup_cons.mp apart).1 (k ▸ he)
    refine ⟨?_, ?_, ?_, damper, gate⟩
    · rw [queue]
      have a : before.filter (· != d) = before :=
        List.filter_eq_self.mpr fun e he => by simpa using out e (List.mem_append_left _ he)
      have b : behind.filter (· != d) = behind :=
        List.filter_eq_self.mpr fun e he => by simpa using out e (List.mem_append_right _ he)
      simp [a, b]
    · have speeds : appliedSpeed u d u.fans[d].target = runningSpeed u d speed := by rw [target]; rfl
      rw [speeds] at fans
      simp [fans, startedRecord]
    · intro e he
      have : d.val ≠ e.val := fun k => out e he (Fin.ext k.symm)
      simp [fans, this]

/-! ### The payloads of the reads -/

/-- READ-ZONE answers the bytes of the manual's layout (R166, R168). -/
theorem zoneAnswer_eq (s : State) (z : Zone) : zoneAnswer s z = zoneBytes s z := by
  have command (o : Option FireCommand) : (o.map fun c => c.code) = o.map fun c => if c = .on then 0 else 1 := by
    rcases o with _ | c
    · rfl
    · cases c <;> rfl
  have quiet (q : QuietPhase) : quietBytes q = bytesOf 1 q.code ++ field 2 q.secondsLeft := by
    cases q <;> simp [quietBytes, bytesOf, field, QuietPhase.code, QuietPhase.secondsLeft]
  have clear (d : ClearDelay) : clearDelayBytes d = bytesOf 1 d.code ++ field 1 d.secondsLeft := by
    cases d <;> simp [clearDelayBytes, bytesOf, field, ClearDelay.code, ClearDelay.secondsLeft]
  unfold zoneAnswer zoneBytes zoneFlowBytes zoneModeBytes heldStandby allChans
  simp only [command, quiet, clear, List.append_assoc]

/-- READ-FAN answers the bytes of the manual's layout (R166, R168). -/
theorem fanAnswer_eq (s : State) (c : Chan) : fanAnswer s c = fanBytes s c := by
  have feed (f : Feed) : feedCode f = if f = .a then 0 else 1 := by cases f <;> rfl
  have timer (t : Option FanTimer) : fanTimerBytes t = field 1 (t.map (·.code)) ++ field 2 (t.map (·.secondsLeft)) := by
    rcases t with _ | t
    · rfl
    · cases t <;> simp [fanTimerBytes, bytesOf, field, FanTimer.code, FanTimer.secondsLeft]
  have grant : grantBytes s.store.cfg.channels[c].role s.alloc.grants[c] = field 1 ((grantedZone s c).map (·.val)) := by
    unfold grantBytes grantedZone isStandby State.chan
    cases s.store.cfg.channels[c].role <;> cases s.alloc.grants[c] <;> rfl
  unfold fanAnswer fanBytes expectedRpm queuePosition feedOf State.chan
  simp only [feed, timer, grant, List.contains_iff_mem, List.append_assoc]

/-! ### Staging -/

/-- The target count of the model is the manual's (R44). -/
theorem targetCount_spec (s : State) (avail : List Chan) (d : Nat) :
    isTargetCount (firstRated s avail) avail.length d (targetCount s avail d) := by
  unfold targetCount isTargetCount
  have zero : firstRated s avail 0 = 0 := rfl
  by_cases h : d = 0
  · simp [h]
  · rw [if_neg h]
    cases f : (List.range' 1 avail.length).find? fun j => d ≤ firstRated s avail j with
    | none =>
      simp only [List.find?_range'_eq_none, Bool.not_eq_true', decide_eq_false_iff_not, not_le] at f
      refine ⟨Nat.le_refl _, .inr rfl, fun j less => ?_⟩
      simp only [Option.getD_none] at less
      rcases Nat.eq_zero_or_pos j with rfl | pos
      · omega
      · exact f j pos (by omega)
    | some k =>
      simp only [List.find?_range'_eq_some, List.mem_range'_1, decide_eq_true_eq, Bool.not_eq_true', decide_eq_false_iff_not, not_le] at f
      obtain ⟨holds, range, first⟩ := f
      refine ⟨by simp; omega, .inl holds, fun j less => ?_⟩
      rcases Nat.eq_zero_or_pos j with rfl | pos
      · omega
      · exact first j pos less

/-- Two target counts of one demand are equal. -/
theorem isTargetCount_unique {q : Nat → Nat} {n d a b : Nat} (h : isTargetCount q n d a) (k : isTargetCount q n d b) : a = b := by
  obtain ⟨ha, ra, la⟩ := h
  obtain ⟨hb, rb, lb⟩ := k
  rcases Nat.lt_trichotomy a b with lt | rfl | lt
  · have := lb a lt
    rcases ra with ra | ra <;> omega
  · rfl
  · have := la b lt
    rcases rb with rb | rb <;> omega

/-- The stage count follows the three steps of R45. -/
theorem updateStage_spec (s : State) (avail : List Chan) (d held : Nat) :
    stageFollows (firstRated s avail) avail.length d held (updateStage s avail d held) := by
  intro target h
  rw [isTargetCount_unique h (targetCount_spec s avail d)]
  unfold updateStage
  generalize targetCount s avail d = target
  refine ⟨fun less => by simp [less], fun le => ?_⟩
  simp only [Nat.not_lt.mpr le, if_false]
  refine ⟨fun j low high holds first => ?_, fun none => ?_⟩
  · have f : (List.range' target (min held avail.length - target)).find? (fun j => 5 * d ≤ 4 * firstRated s avail j) = some j := by
      simp only [List.find?_range'_eq_some, List.mem_range'_1, decide_eq_true_eq, Bool.not_eq_true', decide_eq_false_iff_not, not_le]
      exact ⟨holds, ⟨low, by omega⟩, first⟩
    rw [f]; rfl
  · have f : (List.range' target (min held avail.length - target)).find? (fun j => 5 * d ≤ 4 * firstRated s avail j) = Option.none := by
      simp only [List.find?_range'_eq_none, Bool.not_eq_true', decide_eq_false_iff_not, not_le]
      exact fun j low high => none j low (by omega)
    rw [f]; rfl

end Sys2Proof.Machine
end

