-- ==== Sys2Proof/Laws/Alloc.lean ====
section
/-! SUPPORT. What an allocation run decides: each step of decideGrants is the step the manual gives (R112 to R114). -/

namespace Sys2Proof.Machine

/-! ### The vocabulary -/

theorem usable_iff {s : State} {c : Chan} : usable s c = true ↔ usableFan s c := by
  unfold usable isStandby usableFan State.chan FanState.available
  cases s.store.cfg.channels[c].role <;> cases s.fans[c].state <;> simp

theorem reachesZone_iff {s : State} {c : Chan} {z : Zone} : reachesZone s c z = true ↔ inReach s c z := by
  unfold reachesZone inReach State.chan
  cases s.store.cfg.channels[c].role <;> simp

theorem mem_freeFor {s : State} {g : Grants} {z : Zone} {c : Chan} : c ∈ freeFor s g z ↔ freeIn s g z c := by
  simp [freeFor, freeIn, allChans, usable_iff, reachesZone_iff, and_assoc]

theorem mem_takeable {s : State} {g : Grants} {z y : Zone} {c : Chan} : c ∈ takeable s g z y ↔ heldInReach s g y z c := by
  simp [takeable, heldBy, heldInReach, allChans, reachesZone_iff, and_comm]

theorem sorted_allChans : allChans.Pairwise (· < ·) := by decide

/-- The first of an ascending list is its least. -/
theorem find?_eq_some_of_sorted {l : List Chan} (h : l.Pairwise (· < ·)) {p : Chan → Bool} {c : Chan} :
    l.find? p = some c ↔ c ∈ l ∧ p c = true ∧ ∀ d ∈ l, d < c → p d = false := by
  induction l with
  | nil => simp
  | cons a l ih =>
    obtain ⟨lt, rest⟩ := List.pairwise_cons.mp h
    rw [List.find?_cons]
    cases k : p a with
    | true =>
      simp only [Option.some.injEq]
      constructor
      · rintro rfl
        refine ⟨List.mem_cons_self, k, fun d hd below => ?_⟩
        rcases List.mem_cons.mp hd with rfl | hd
        · exact absurd below (lt_irrefl _)
        · exact absurd (lt_trans (lt d hd) below) (lt_irrefl _)
      · rintro ⟨hc, -, least⟩
        rcases List.mem_cons.mp hc with rfl | hc
        · rfl
        · exact absurd k (by simp [least a List.mem_cons_self (lt c hc)])
    | false =>
      simp only [ih rest]
      constructor
      · rintro ⟨hc, pc, least⟩
        refine ⟨List.mem_cons_of_mem _ hc, pc, fun d hd below => ?_⟩
        rcases List.mem_cons.mp hd with rfl | hd
        · exact k
        · exact least d hd below
      · rintro ⟨hc, pc, least⟩
        rcases List.mem_cons.mp hc with rfl | hc
        · simp [k] at pc
        · exact ⟨hc, pc, fun d hd => least d (List.mem_cons_of_mem _ hd)⟩

/-- The fan preferred of an ascending list (R113). -/
theorem preferAt_eq_some {s : State} {z : Zone} {l : List Chan} (h : l.Pairwise (· < ·)) {c : Chan} :
    preferAt s z l = some c ↔ preferredFor s z (· ∈ l) c := by
  unfold preferAt preferredFor
  cases f : l.find? fun c => s.gates[c].state == .atZone z with
  | some b =>
    obtain ⟨mem, at_, least⟩ := (find?_eq_some_of_sorted h).mp f
    simp only [beq_iff_eq] at at_
    simp only [Option.some.injEq]
    constructor
    · rintro rfl
      exact ⟨mem, .inl ⟨at_, fun d below hd => by simpa using least d hd below⟩⟩
    · rintro ⟨hc, ⟨k, first⟩ | ⟨none, -⟩⟩
      · rcases lt_trichotomy b c with lt | rfl | lt
        · exact absurd at_ (first b lt mem)
        · rfl
        · exact absurd k (by simpa using least c hc lt)
      · exact absurd at_ (none b mem)
  | none =>
    have none : ∀ d ∈ l, s.gates[d].state ≠ .atZone z := by simpa using f
    rw [show l.head? = l.find? fun _ => true by cases l <;> rfl, find?_eq_some_of_sorted h]
    constructor
    · rintro ⟨hc, -, least⟩
      exact ⟨hc, .inr ⟨none, fun d below hd => by simpa using least d hd below⟩⟩
    · rintro ⟨hc, ⟨k, -⟩ | ⟨-, first⟩⟩
      · exact absurd k (none c hc)
      · exact ⟨hc, rfl, fun d hd below => absurd hd (first d below)⟩

theorem preferAt_eq_none {s : State} {z : Zone} {l : List Chan} : preferAt s z l = none ↔ l = [] := by
  unfold preferAt
  cases f : l.find? fun c => s.gates[c].state == .atZone z with
  | some b => simpa using fun k : l = [] => by simp [k] at f
  | none => simp

theorem sorted_freeFor (s : State) (g : Grants) (z : Zone) : (freeFor s g z).Pairwise (· < ·) := sorted_allChans.filter _

theorem sorted_takeable (s : State) (g : Grants) (z y : Zone) : (takeable s g z y).Pairwise (· < ·) :=
  (sorted_allChans.filter _).filter _

theorem takeable_ne_nil {s : State} {g : Grants} {z y : Zone} : takeable s g z y ≠ [] ↔ ∃ c, heldInReach s g y z c := by
  simp only [← mem_takeable, ne_eq, List.eq_nil_iff_forall_not_mem, not_forall, not_not]

/-! ### The fan a request takes -/

/-- The fan preempted from holders of some classes: the one preferred of the youngest holder of the lowest class (R113). -/
theorem preemptFrom_eq_some {s : State} {rs : List StandbyEntry} {g : Grants} {z : Zone} {ranks : List Nat} {c : Chan}
    (h : ranks.Pairwise (· > ·)) :
    preemptFrom s rs g z ranks = some c ↔
      ∃ older e younger, rs = older ++ e :: younger ∧ (classRank e.call ∈ ranks ∧ takeable s g z e.zone ≠ []) ∧
        (∀ d ∈ older, classRank d.call ∈ ranks ∧ takeable s g z d.zone ≠ [] → classRank d.call ≤ classRank e.call) ∧
        (∀ d ∈ younger, classRank d.call ∈ ranks ∧ takeable s g z d.zone ≠ [] → classRank d.call < classRank e.call) ∧
        preferredFor s z (heldInReach s g e.zone z) c := by
  induction ranks with
  | nil => simp [preemptFrom]
  | cons rank higher ih =>
    obtain ⟨lt, rest⟩ := List.pairwise_cons.mp h
    have le : ∀ n, n ∈ rank :: higher → n ≤ rank := by
      intro n hn
      rcases List.mem_cons.mp hn with rfl | hn
      · exact Nat.le_refl _
      · exact Nat.le_of_lt (lt n hn)
    have prefers (y : Zone) : preferAt s z (takeable s g z y) = some c ↔ preferredFor s z (heldInReach s g y z) c := by
      rw [preferAt_eq_some (sorted_takeable s g z y)]
      simp only [mem_takeable]
    unfold preemptFrom
    cases f : rs.reverse.find? fun e => classRank e.call == rank && !(takeable s g z e.zone).isEmpty with
    | some e =>
      obtain ⟨pe, as, bs, split, no⟩ := List.find?_eq_some_iff_append.mp f
      simp only [Bool.and_eq_true, beq_iff_eq, Bool.not_eq_true', List.isEmpty_eq_false_iff] at pe
      have split' : rs = bs.reverse ++ e :: as.reverse := by
        have := congrArg List.reverse split
        simpa using this
      constructor
      · intro k
        refine ⟨_, e, _, split', ⟨pe.1 ▸ List.mem_cons_self, pe.2⟩, fun d _ hd => pe.1 ▸ le _ hd.1, ?_, (prefers e.zone).mp k⟩
        intro d hd hk
        have := no d (List.mem_reverse.mp hd)
        have ne : classRank d.call ≠ rank := by
          intro eq
          simp [eq, hk.2] at this
        have := le _ hk.1
        omega
      · rintro ⟨older, b, younger, eq, hb, ho, hy, k⟩
        have top : classRank b.call = rank := by
          have mem : e ∈ older ++ b :: younger := by rw [← eq, split']; simp
          have ok : classRank e.call ∈ rank :: higher ∧ takeable s g z e.zone ≠ [] := ⟨pe.1 ▸ List.mem_cons_self, pe.2⟩
          have := le _ hb.1
          rcases List.mem_append.mp mem with m | m
          · have := ho e m ok
            omega
          · rcases List.mem_cons.mp m with rfl | m
            · exact pe.1
            · have := hy e m ok
              omega
        have found : rs.reverse.find? (fun e => classRank e.call == rank && !(takeable s g z e.zone).isEmpty) = some b := by
          refine List.find?_eq_some_iff_append.mpr ⟨by simp [top, hb.2], younger.reverse, older.reverse, by simp [eq], ?_⟩
          intro d hd
          have := hy d (List.mem_reverse.mp hd)
          by_cases e1 : classRank d.call = rank
          · by_cases e2 : takeable s g z d.zone = []
            · simp [e2]
            · have := this ⟨e1 ▸ List.mem_cons_self, e2⟩
              omega
          · simp [e1]
        rw [f] at found
        cases found
        exact (prefers e.zone).mpr k
    | none =>
      have none : ∀ d ∈ rs, takeable s g z d.zone ≠ [] → classRank d.call ≠ rank := by
        intro d hd hk eq
        have := List.find?_eq_none.mp f d (List.mem_reverse.mpr hd)
        simp [eq, hk] at this
      have drop : ∀ d ∈ rs, (classRank d.call ∈ rank :: higher ∧ takeable s g z d.zone ≠ [] ↔
          classRank d.call ∈ higher ∧ takeable s g z d.zone ≠ []) := by
        intro d hd
        constructor
        · rintro ⟨m, hk⟩
          rcases List.mem_cons.mp m with eq | m
          · exact absurd eq (none d hd hk)
          · exact ⟨m, hk⟩
        · rintro ⟨m, hk⟩
          exact ⟨List.mem_cons_of_mem _ m, hk⟩
      rw [ih rest]
      constructor
      · rintro ⟨older, e, younger, rfl, he, ho, hy, k⟩
        exact ⟨older, e, younger, rfl, (drop e (by simp)).mpr he, fun d hd hk => ho d hd ((drop d (by simp [hd])).mp hk),
          fun d hd hk => hy d hd ((drop d (by simp [hd])).mp hk), k⟩
      · rintro ⟨older, e, younger, rfl, he, ho, hy, k⟩
        exact ⟨older, e, younger, rfl, (drop e (by simp)).mp he, fun d hd hk => ho d hd ((drop d (by simp [hd])).mpr hk),
          fun d hd hk => hy d hd ((drop d (by simp [hd])).mpr hk), k⟩

/-- The calls of a request list. -/
def callsIn (rs : List StandbyEntry) : List (Zone × StandbyCall) := rs.map fun e => (e.zone, e.call)

/-- The fan preempted for a request from the classes it preempts (R113, R114). -/
theorem preemptFrom_iff_holder {s : State} {rs : List StandbyEntry} {g : Grants} {r : Zone × StandbyCall} {ranks : List Nat} {c : Chan}
    (h : ranks.Pairwise (· > ·)) (k : ∀ call, preempts r.2 call = true ↔ classRank call ∈ ranks) :
    preemptFrom s rs g r.1 ranks = some c ↔
      ∃ holder, holderFor s (callsIn rs) g r holder ∧ preferredFor s r.1 (heldInReach s g holder.1 r.1) c := by
  have lose (e : StandbyEntry) :
      classRank e.call ∈ ranks ∧ takeable s g r.1 e.zone ≠ [] ↔ canLose s g r (e.zone, e.call) := by
    rw [canLose, k, takeable_ne_nil]
  rw [preemptFrom_eq_some h]
  simp only [lose]
  constructor
  · rintro ⟨older, e, younger, rfl, he, ho, hy, p⟩
    refine ⟨(e.zone, e.call), ⟨he, callsIn older, callsIn younger, by simp [callsIn], ?_, ?_⟩, p⟩
    · intro d hd
      obtain ⟨x, hx, rfl⟩ := List.mem_map.mp hd
      exact ho x hx
    · intro d hd
      obtain ⟨x, hx, rfl⟩ := List.mem_map.mp hd
      exact hy x hx
  · rintro ⟨holder, ⟨he, older, younger, eq, ho, hy⟩, p⟩
    obtain ⟨a, b', rfl, rfl, tail⟩ := List.map_eq_append_iff.mp eq
    obtain ⟨e, b, rfl, rfl, rfl⟩ := List.map_eq_cons_iff.mp tail
    exact ⟨a, e, b, rfl, he, fun d hd => ho _ (List.mem_map_of_mem hd), fun d hd => hy _ (List.mem_map_of_mem hd), p⟩

/-- A fan taken is the free one preferred, or where none is free the preempted one. -/
theorem takeOr_iff {s : State} {calls : List (Zone × StandbyCall)} {g : Grants} {r : Zone × StandbyCall} {c : Chan}
    {preempted : Option Chan}
    (h : preempted = some c ↔ ∃ holder, holderFor s calls g r holder ∧ preferredFor s r.1 (heldInReach s g holder.1 r.1) c) :
    (match preferAt s r.1 (freeFor s g r.1) with
      | some d => some d
      | none => preempted) = some c ↔ pickedFor s calls g r c := by
  have free : preferAt s r.1 (freeFor s g r.1) = some c ↔ preferredFor s r.1 (freeIn s g r.1) c := by
    rw [preferAt_eq_some (sorted_freeFor s g r.1)]
    simp only [mem_freeFor]
  have empty : preferAt s r.1 (freeFor s g r.1) = none ↔ ∀ d, ¬ freeIn s g r.1 d := by
    rw [preferAt_eq_none, List.eq_nil_iff_forall_not_mem]
    simp only [mem_freeFor]
  unfold pickedFor
  rw [← free, ← empty, ← h]
  cases preferAt s r.1 (freeFor s g r.1) <;> simp

/-- The fan a FIRE request takes is the one the manual gives it (R113). -/
theorem fireTake_iff {s : State} {rs : List StandbyEntry} {g : Grants} {z : Zone} {c : Chan} :
    fireTake s rs g z = some c ↔ pickedFor s (callsIn rs) g (z, .fire) c := by
  refine takeOr_iff (r := (z, .fire)) (preemptFrom_iff_holder (r := (z, .fire)) (by decide) fun call => ?_)
  rcases call with _ | ⟨cls, amount⟩
  · simp [preempts, classRank]
  · cases cls <;> simp [preempts, classRank]

/-- The fan another request takes is the one the manual gives it (R114). -/
theorem flowTake_iff {s : State} {rs : List StandbyEntry} {g : Grants} {e : StandbyEntry} {c : Chan} (h : e.call ≠ .fire) :
    flowTake s rs g e = some c ↔ pickedFor s (callsIn rs) g (e.zone, e.call) c := by
  refine takeOr_iff (r := (e.zone, e.call)) ?_
  split
  · rename_i gas
    refine preemptFrom_iff_holder (r := (e.zone, e.call)) (by decide) fun call => ?_
    rcases k : e.call with _ | ⟨cls, amount⟩
    · exact absurd k h
    · rw [k] at gas
      cases cls <;> simp [classRank] at gas
      rcases call with _ | ⟨cls, _⟩
      · simp [preempts, classRank]
      · cases cls <;> simp [preempts, classRank]
  · rename_i gas
    refine ⟨by simp, ?_⟩
    rintro ⟨holder, ⟨⟨p, -⟩, -⟩, -⟩
    rcases k : e.call with _ | ⟨cls, amount⟩
    · exact absurd k h
    · rw [k] at gas p
      cases cls <;> simp [classRank, preempts] at gas p

theorem eq_none_iff_forall_not {α : Type} {o : Option α} {p : α → Prop} (h : ∀ a, o = some a ↔ p a) : o = none ↔ ∀ a, ¬ p a := by
  simp [← h, Option.eq_none_iff_forall_ne_some]

/-! ### Grants that change -/

theorem get_set (g : Grants) (c d : Chan) (o : Option Zone) : (g.set c o)[d] = if d = c then o else g[d] := by
  simp only [Fin.getElem_fin, Vector.getElem_set, Fin.ext_iff]
  split <;> split <;> first | rfl | omega

/-- How many fans are granted to zones of a kind. -/
def grantedTo (p : Zone → Bool) (g : Grants) : Nat := (Finset.univ.filter fun c : Chan => g[c].any p).card

theorem grantedTo_le (p : Zone → Bool) (g : Grants) : grantedTo p g ≤ 16 := by
  have := Finset.card_le_univ (Finset.univ.filter fun c : Chan => g[c].any p)
  simpa [grantedTo, Chan] using this

/-- A fan that passes to a zone of a kind from none raises their number. -/
theorem grantedTo_set {p : Zone → Bool} {g : Grants} {c : Chan} {z : Zone} (h : p z = true) (k : g[c].any p = false) :
    grantedTo p g < grantedTo p (g.set c (some z)) := by
  refine Finset.card_lt_card (Finset.ssubset_iff.mpr ⟨c, by simpa using k, ?_⟩)
  intro d hd
  simp only [Finset.mem_filter, Finset.mem_univ, true_and, get_set]
  by_cases e : d = c
  · simp [e, h]
  · simpa [e] using hd

/-- A zone's calls agree in a list of one request a zone. -/
theorem entry_unique {rs : List StandbyEntry} (h : (rs.map StandbyEntry.zone).Nodup) {e d : StandbyEntry} (he : e ∈ rs) (hd : d ∈ rs)
    (k : e.zone = d.zone) : e = d :=
  List.inj_on_of_nodup_map h he hd k

/-- A fan picked was granted to nobody, or to a zone of a call that is preempted. -/
theorem picked_from {s : State} {rs : List StandbyEntry} {g : Grants} {r : Zone × StandbyCall} {c : Chan}
    (h : pickedFor s (callsIn rs) g r c) : g[c] = none ∨ ∃ e ∈ rs, preempts r.2 e.call = true ∧ g[c] = some e.zone := by
  rcases h with h | ⟨-, holder, ⟨lose, older, younger, eq, -⟩, h⟩
  · exact .inl h.1.2.1
  · have mem : holder ∈ callsIn rs := by rw [eq]; simp
    obtain ⟨e, he, rfl⟩ := List.mem_map.mp mem
    exact .inr ⟨e, he, lose.1, h.1.1⟩

/-! ### The rounds of the fires -/

/-- A zone holds a FIRE request. -/
def fireZone (rs : List StandbyEntry) (z : Zone) : Bool := rs.any fun e => e.call == .fire && e.zone == z

/-- A fan a fire picks was granted to no fire. -/
theorem picked_no_fire {s : State} {rs : List StandbyEntry} {g : Grants} {z : Zone} {c : Chan}
    (n : (rs.map StandbyEntry.zone).Nodup) (h : pickedFor s (callsIn rs) g (z, .fire) c) : g[c].any (fireZone rs) = false := by
  rcases picked_from h with k | ⟨e, he, p, k⟩
  · simp [k]
  · rw [k]
    by_contra any
    simp only [Option.any_some, Bool.not_eq_false, fireZone, List.any_eq_true, Bool.and_eq_true, beq_iff_eq] at any
    obtain ⟨d, hd, fire, zone⟩ := any
    rw [entry_unique n hd he zone] at fire
    simp [fire, preempts] at p

/-- One round of the model is one of the manual's; it says truly whether a fan was taken, and a fan taken is a fan more for the fires. -/
theorem fireRound_spec {s : State} {rs : List StandbyEntry} (n : (rs.map StandbyEntry.zone).Nodup) (l : List StandbyEntry)
    (sub : ∀ e ∈ l, e ∈ rs ∧ e.call = .fire) (g : Grants) :
    roundTaken s (callsIn rs) (callsIn l) g (fireRound s rs l g).1 ∧
      grantedTo (fireZone rs) g ≤ grantedTo (fireZone rs) (fireRound s rs l g).1 ∧
      ((fireRound s rs l g).2 = true →
        (∃ r ∈ callsIn l, ∃ c, pickedFor s (callsIn rs) g r c) ∧
          grantedTo (fireZone rs) g < grantedTo (fireZone rs) (fireRound s rs l g).1) ∧
      ((fireRound s rs l g).2 = false →
        (fireRound s rs l g).1 = g ∧ ∀ r ∈ callsIn l, ∀ c, ¬ pickedFor s (callsIn rs) g r c) := by
  induction l generalizing g with
  | nil => simp [fireRound, roundTaken, callsIn]
  | cons e l ih =>
    have sub' : ∀ e ∈ l, e ∈ rs ∧ e.call = .fire := fun d hd => sub d (List.mem_cons_of_mem _ hd)
    obtain ⟨he, fire⟩ := sub e List.mem_cons_self
    have step (c : Chan) : fireTake s rs g e.zone = some c ↔ pickedFor s (callsIn rs) g (e.zone, e.call) c := by
      rw [fire]; exact fireTake_iff
    unfold fireRound
    cases f : fireTake s rs g e.zone with
    | some c =>
      have pick := (step c).mp f
      have more : grantedTo (fireZone rs) g < grantedTo (fireZone rs) (g.set c (some e.zone)) :=
        grantedTo_set (by simp only [fireZone, List.any_eq_true]; exact ⟨e, he, by simp [fire]⟩)
          (picked_no_fire (z := e.zone) n (fire ▸ pick))
      obtain ⟨round, grow, -, -⟩ := ih sub' (g.set c (some e.zone))
      refine ⟨Or.inl ⟨c, pick, round⟩, by simp only; omega, fun _ => ⟨⟨(e.zone, e.call), ?_, c, pick⟩, by simp only; omega⟩, by simp⟩
      exact List.mem_map_of_mem List.mem_cons_self
    | none =>
      have no := (eq_none_iff_forall_not step).mp f
      obtain ⟨round, grow, taken, idle⟩ := ih sub' g
      refine ⟨Or.inr ⟨no, round⟩, grow, fun h => ?_, fun h => ?_⟩
      · obtain ⟨⟨r, hr, c, pick⟩, more⟩ := taken h
        exact ⟨⟨r, List.mem_cons_of_mem _ hr, c, pick⟩, more⟩
      · obtain ⟨same, rest⟩ := idle h
        refine ⟨same, fun r hr => ?_⟩
        rcases List.mem_cons.mp hr with rfl | hr
        · exact no
        · exact rest r hr

theorem firesOf_callsIn (rs : List StandbyEntry) : firesOf (callsIn rs) = callsIn (rs.filter fun e => e.call == .fire) := by
  simp [firesOf, callsIn, List.filter_map, Function.comp_def]

/-- The rounds of the model are the manual's, given enough of them. -/
theorem fireRounds_spec {s : State} {rs : List StandbyEntry} (n : (rs.map StandbyEntry.zone).Nodup) (fuel : Nat) (g : Grants)
    (enough : 16 < fuel + grantedTo (fireZone rs) g) : ∃ rounds, roundsTaken s (callsIn rs) rounds g (fireRounds s rs fuel g) := by
  induction fuel generalizing g with
  | zero =>
    have := grantedTo_le (fireZone rs) g
    omega
  | succ fuel ih =>
    obtain ⟨round, -, taken, idle⟩ := fireRound_spec (s := s) n (rs.filter fun e => e.call == .fire) (by simp) g
    unfold fireRounds
    rw [← firesOf_callsIn] at round taken idle
    cases f : (fireRound s rs (rs.filter fun e => e.call == .fire) g).2 with
    | true =>
      obtain ⟨some_, more⟩ := taken f
      obtain ⟨rounds, rest⟩ := ih (fireRound s rs (rs.filter fun e => e.call == .fire) g).1 (by omega)
      exact ⟨_ :: rounds, some_, round, by simpa [f] using rest⟩
    | false =>
      obtain ⟨same, no⟩ := idle f
      exact ⟨[], by simpa [f] using same, no⟩

/-! ### The other requests -/

theorem covered_iff {s : State} {g : Grants} {e : StandbyEntry} : covered s g e = true ↔ coveredIn s g (e.zone, e.call) := by
  unfold covered coveredIn
  cases e.call <;> simp [heldFlow, grantedFlow, heldBy, allChans, total_eq_sum, State.chan]

/-- A request served takes the fans the manual gives it, given enough turns. -/
theorem serveFlow_spec {s : State} {rs : List StandbyEntry} (n : (rs.map StandbyEntry.zone).Nodup) {e : StandbyEntry} (he : e ∈ rs)
    (flow : e.call ≠ .fire) (fuel : Nat) (g : Grants) (enough : 16 < fuel + grantedTo (· == e.zone) g) :
    ∃ taken, fansTaken s (callsIn rs) (e.zone, e.call) taken g (serveFlow s rs e fuel g) := by
  induction fuel generalizing g with
  | zero =>
    have := grantedTo_le (· == e.zone) g
    omega
  | succ fuel ih =>
    unfold serveFlow
    by_cases c : covered s g e = true
    · exact ⟨[], by simp [c], Or.inl (covered_iff.mp c)⟩
    · have open_ : ¬ coveredIn s g (e.zone, e.call) := fun h => c (covered_iff.mpr h)
      cases f : flowTake s rs g e with
      | none => exact ⟨[], by simp [c], Or.inr ((eq_none_iff_forall_not fun _ => flowTake_iff flow).mp f)⟩
      | some d =>
        have pick := (flowTake_iff flow).mp f
        have other : g[d].any (· == e.zone) = false := by
          rcases picked_from pick with k | ⟨b, hb, p, k⟩
          · simp [k]
          · by_contra any
            simp only [k, Option.any_some, Bool.not_eq_false, beq_iff_eq] at any
            rw [entry_unique n hb he any] at p
            rcases e with ⟨zone, call, cover⟩
            rcases call with _ | ⟨cls, amount⟩
            · exact flow rfl
            · cases cls <;> simp [preempts] at p
        have more := grantedTo_set (g := g) (c := d) (z := e.zone) (p := (· == e.zone)) (by simp) other
        obtain ⟨taken, rest⟩ := ih (g.set d (some e.zone)) (by omega)
        exact ⟨d :: taken, open_, pick, by simpa [c] using rest⟩

/-- Requests served in the model's order are served in turn. -/
theorem serve_spec {s : State} {rs : List StandbyEntry} (n : (rs.map StandbyEntry.zone).Nodup) (l : List StandbyEntry)
    (sub : ∀ e ∈ l, e ∈ rs ∧ e.call ≠ .fire) (g : Grants) :
    servedInTurn s (callsIn rs) (callsIn l) g (l.foldl (fun g e => serveFlow s rs e 17 g) g) := by
  induction l generalizing g with
  | nil => exact rfl
  | cons e l ih =>
    obtain ⟨taken, h⟩ := serveFlow_spec (s := s) n (sub e List.mem_cons_self).1 (sub e List.mem_cons_self).2 17 g (by omega)
    exact ⟨taken, _, h, ih (fun d hd => sub d (List.mem_cons_of_mem _ hd)) _⟩

/-! ### Grants that end and surplus fans -/

/-- The grants left once those that cannot stand have ended (R112, log entry 37). -/
theorem endDeadGrants_eq_some {s : State} {rs : List StandbyEntry} {g : Grants} {c : Chan} {z : Zone} :
    (endDeadGrants s rs g)[c] = some z ↔ g[c] = some z ∧ usableFan s c ∧ inReach s c z ∧ ∃ call, (z, call) ∈ callsIn rs := by
  have requested (y : Zone) : (requestOf rs y).isSome = true ↔ ∃ call, (y, call) ∈ callsIn rs := by
    simp only [requestOf, List.find?_isSome, beq_iff_eq, callsIn, List.mem_map, Prod.mk.injEq]
    exact ⟨fun ⟨e, he, k⟩ => ⟨e.call, e, he, k, rfl⟩, fun ⟨_, e, he, k, _⟩ => ⟨e, he, k⟩⟩
  simp only [endDeadGrants, Fin.getElem_fin, Vector.getElem_ofFn]
  cases g[c.val] with
  | none => simp
  | some y =>
    simp only [Option.some.injEq]
    by_cases k : (usable s c && reachesZone s c y && (requestOf rs y).isSome) = true
    · rw [if_pos k]
      simp only [Bool.and_eq_true, usable_iff, reachesZone_iff, requested] at k
      simp only [Option.some.injEq]
      exact ⟨fun h => h ▸ ⟨rfl, k.1.1, k.1.2, k.2⟩, fun h => h.1⟩
    · rw [if_neg k]
      simp only [Bool.and_eq_true, usable_iff, reachesZone_iff, requested] at k
      simp only [reduceCtorEq, false_iff]
      rintro ⟨rfl, a, b, d⟩
      exact k ⟨⟨a, b⟩, d⟩

theorem heldFlow_set_none {s : State} {g : Grants} {c : Chan} {z : Zone} {h : Grants}
    (above : ∀ d, c < d → (g[d] = some z ↔ h[d] = some z)) {before : Grants} (below : ∀ d, d < c → (g[d] = some z ↔ before[d] = some z)) :
    heldFlow s (g.set c none) z = keptWithout s before h z c := by
  rw [heldFlow, total_eq_sum, keptWithout, heldBy, allChans]
  congr 2
  refine List.filter_congr fun d _ => ?_
  rw [get_set, Bool.eq_iff_iff]
  rcases lt_trichotomy d c with lt | rfl | lt
  · have ne : d ≠ c := ne_of_lt lt
    have no : ¬ c < d := not_lt_of_gt lt
    simpa [ne, lt, no] using below d lt
  · simp
  · have ne : d ≠ c := ne_of_gt lt
    have no : ¬ d < c := not_lt_of_gt lt
    simpa [ne, lt, no] using above d lt

/-- The fans of one request looked at in descending order: each whose removal leaves the request covered is released (R112). -/
theorem releaseIfSurplus_fold {s : State} {e : StandbyEntry} (before : Grants) (l : List Chan) (g : Grants)
    (down : l.Pairwise (· > ·)) (held : ∀ c ∈ l, g[c] = some e.zone)
    (below : ∀ c ∈ l, ∀ d, d ≤ c → (g[d] = some e.zone ↔ before[d] = some e.zone))
    (all : ∀ c ∈ l, ∀ d, d < c → g[d] = some e.zone → d ∈ l) :
    let h := l.foldl (releaseIfSurplus s e) g
    (∀ c, c ∉ l → h[c] = g[c]) ∧
      ∀ c ∈ l, (h[c] = some e.zone ∨ h[c] = none) ∧
        (h[c] = none ↔ ∃ cls amount, e.call = .flow cls amount ∧ amount ≤ keptWithout s before h e.zone c) := by
  induction l generalizing g with
  | nil => simp
  | cons a l ih =>
    obtain ⟨lt, down'⟩ := List.pairwise_cons.mp down
    have notin : a ∉ l := fun h => absurd (lt a h) (lt_irrefl _)
    have step (d : Chan) (h : d ≠ a) : (releaseIfSurplus s e g a)[d] = g[d] := by
      unfold releaseIfSurplus
      split
      · rw [get_set, if_neg h]
      · rfl
    obtain ⟨keep, rest⟩ := ih (releaseIfSurplus s e g a) down'
      (fun c hc => by rw [step c (ne_of_lt (lt c hc))]; exact held c (List.mem_cons_of_mem _ hc))
      (fun c hc d le => by
        rw [step d (ne_of_lt (lt_of_le_of_lt le (lt c hc)))]; exact below c (List.mem_cons_of_mem _ hc) d le)
      (fun c hc d less k => by
        have ne : d ≠ a := ne_of_lt (lt_trans less (lt c hc))
        rw [step d ne] at k
        exact (List.mem_cons.mp (all c (List.mem_cons_of_mem _ hc) d less k)).resolve_left ne)
    simp only [List.foldl_cons]
    refine ⟨fun c hc => ?_, fun c hc => ?_⟩
    · rw [keep c (fun h => hc (List.mem_cons_of_mem _ h)), step c (fun h => hc (h ▸ List.mem_cons_self))]
    · rcases List.mem_cons.mp hc with rfl | hc
      · have flow := heldFlow_set_none (s := s) (g := g) (c := c) (z := e.zone) (before := before)
          (h := l.foldl (releaseIfSurplus s e) (releaseIfSurplus s e g c))
          (fun d less => by
            rw [keep d (fun h => absurd (lt d h) (not_lt_of_gt less)), step d (ne_of_gt less)])
          (fun d less => below c List.mem_cons_self d (le_of_lt less))
        rw [keep c notin, ← flow]
        unfold releaseIfSurplus covered
        rcases e.call with _ | ⟨cls, amount⟩
        · simp [held c List.mem_cons_self]
        · by_cases k : amount ≤ heldFlow s (g.set c none) e.zone
          · have gone : (g.set c none)[c] = none := by rw [get_set, if_pos rfl]
            simp only [decide_eq_true k, if_true, gone]
            exact ⟨.inr trivial, fun _ => ⟨cls, amount, rfl, k⟩, fun _ => trivial⟩
          · simp only [decide_eq_false k, Bool.false_eq_true, if_false, held c List.mem_cons_self]
            refine ⟨.inl trivial, by simp, ?_⟩
            rintro ⟨_, _, eq, le⟩
            cases eq
            exact absurd le k
      · exact rest c hc

/-- One request's surplus fans are released, and no other grant is touched (R112). -/
theorem releaseSurplus_spec (s : State) (g : Grants) (e : StandbyEntry) :
    (∀ (c : Chan) (z : Zone), z ≠ e.zone → ((releaseSurplus s g e)[c] = some z ↔ g[c] = some z)) ∧
      ∀ c : Chan, (releaseSurplus s g e)[c] = some e.zone ↔ g[c] = some e.zone ∧
        ∀ cls amount, e.call = .flow cls amount → keptWithout s g (releaseSurplus s g e) e.zone c < amount := by
  have mem (c : Chan) : c ∈ (heldBy g e.zone).reverse ↔ g[c] = some e.zone := by simp [heldBy, allChans]
  have down : (heldBy g e.zone).reverse.Pairwise (· > ·) := List.pairwise_reverse.mpr (sorted_allChans.filter _)
  obtain ⟨keep, held⟩ := releaseIfSurplus_fold (s := s) (e := e) g (heldBy g e.zone).reverse g down
    (fun c hc => (mem c).mp hc) (fun _ _ _ _ => Iff.rfl) (fun _ _ d _ k => (mem d).mpr k)
  change ∀ c, c ∉ _ → (releaseSurplus s g e)[c] = g[c] at keep
  change ∀ c ∈ _, ((releaseSurplus s g e)[c] = some e.zone ∨ (releaseSurplus s g e)[c] = none) ∧
    ((releaseSurplus s g e)[c] = none ↔ ∃ cls amount, e.call = .flow cls amount ∧
      amount ≤ keptWithout s g (releaseSurplus s g e) e.zone c) at held
  refine ⟨fun c z ne => ?_, fun c => ?_⟩
  · by_cases k : g[c] = some e.zone
    · rcases (held c ((mem c).mpr k)).1 with h | h <;> simp [h, k, Ne.symm ne]
    · rw [keep c (fun h => k ((mem c).mp h))]
  · by_cases k : g[c] = some e.zone
    · obtain ⟨two, none⟩ := held c ((mem c).mpr k)
      simp only [k, true_and]
      constructor
      · intro h cls amount eq
        by_contra no
        simp [none.mpr ⟨cls, amount, eq, Nat.le_of_not_lt no⟩] at h
      · intro h
        refine two.resolve_right fun off => ?_
        obtain ⟨cls, amount, eq, le⟩ := none.mp off
        exact absurd (h cls amount eq) (by omega)
    · rw [keep c (fun h => k ((mem c).mp h))]
      exact ⟨fun h => absurd h k, fun h => absurd h.1 k⟩

theorem keptWithout_congr {s : State} {b b' a a' : Grants} {z : Zone} {c : Chan} (hb : ∀ d : Chan, b[d] = some z ↔ b'[d] = some z)
    (ha : ∀ d : Chan, a[d] = some z ↔ a'[d] = some z) : keptWithout s b a z c = keptWithout s b' a' z c := by
  unfold keptWithout
  congr 2
  refine List.filter_congr fun d _ => ?_
  have same (o o' : Option Zone) (h : o = some z ↔ o' = some z) : (o == some z) = (o' == some z) := by
    rw [Bool.eq_iff_iff]
    simpa using h
  rw [same _ _ (hb d), same _ _ (ha d)]

/-- The surplus fans of every request are released (R112). -/
theorem release_spec {s : State} (rs : List StandbyEntry) (n : (rs.map StandbyEntry.zone).Nodup) (g : Grants) (c : Chan) (z : Zone) :
    (rs.foldl (releaseSurplus s) g)[c] = some z ↔
      g[c] = some z ∧ ∀ cls amount, (z, StandbyCall.flow cls amount) ∈ callsIn rs →
        keptWithout s g (rs.foldl (releaseSurplus s) g) z c < amount := by
  induction rs generalizing g c z with
  | nil => simp [callsIn]
  | cons e rs ih =>
    obtain ⟨fresh, n'⟩ := List.nodup_cons.mp n
    obtain ⟨other, own⟩ := releaseSurplus_spec s g e
    have ih' := ih n' (releaseSurplus s g e)
    simp only [List.foldl_cons]
    have cons (cls : FlowClass) (amount : Nat) : (z, StandbyCall.flow cls amount) ∈ callsIn (e :: rs) ↔
        (z = e.zone ∧ e.call = .flow cls amount) ∨ (z, StandbyCall.flow cls amount) ∈ callsIn rs := by
      simp [callsIn, Prod.ext_iff, eq_comm]
    by_cases k : z = e.zone
    · subst k
      have absent (cls : FlowClass) (amount : Nat) : (e.zone, StandbyCall.flow cls amount) ∉ callsIn rs := by
        intro h
        obtain ⟨d, hd, eq⟩ := List.mem_map.mp h
        exact fresh (List.mem_map.mpr ⟨d, hd, congrArg Prod.fst eq⟩)
      have same (d : Chan) : (rs.foldl (releaseSurplus s) (releaseSurplus s g e))[d] = some e.zone ↔
          (releaseSurplus s g e)[d] = some e.zone := by
        rw [ih' d e.zone]
        exact ⟨fun h => h.1, fun h => ⟨h, fun cls amount m => absurd m (absent cls amount)⟩⟩
      rw [same c, own c, keptWithout_congr (fun _ => Iff.rfl) same]
      simp only [cons, absent, or_false, true_and]
    · have kept := keptWithout_congr (s := s) (z := z) (c := c) (a := rs.foldl (releaseSurplus s) (releaseSurplus s g e))
        (fun d => other d z k) (fun _ => Iff.rfl)
      rw [ih' c z, other c z k, kept]
      simp only [cons, k, false_and, false_or]

/-! ### The run -/

theorem callsOfClass_callsIn (rs : List StandbyEntry) (rank : Nat) : callsOfClass (callsIn rs) rank = callsIn (ofRank rs rank) := by
  simp [callsOfClass, callsIn, ofRank, List.filter_map, Function.comp_def]

/-- A run decides the grants in the steps the manual gives (R112 to R114). -/
theorem decideGrants_spec (s : State) (rs : List StandbyEntry) (n : (rs.map StandbyEntry.zone).Nodup) (g : Grants) :
    grantsDecided s (callsIn rs) g (decideGrants s rs g) := by
  obtain ⟨rounds, fires⟩ := fireRounds_spec (s := s) n 17 (rs.foldl (releaseSurplus s) (endDeadGrants s rs g)) (by omega)
  have others := serve_spec (s := s) n (ofRank rs 1 ++ ofRank rs 2 ++ ofRank rs 3)
    (by
      intro e he
      simp only [ofRank, List.mem_append, List.mem_filter, beq_iff_eq] at he
      refine ⟨by tauto, fun fire => ?_⟩
      simp [fire, classRank] at he)
    (fireRounds s rs 17 (rs.foldl (releaseSurplus s) (endDeadGrants s rs g)))
  refine ⟨_, _, _, rounds, fun c z => endDeadGrants_eq_some, release_spec rs n _, fires, ?_⟩
  rw [callsOfClass_callsIn, callsOfClass_callsIn, callsOfClass_callsIn]
  simpa [callsIn, decideGrants] using others

end Sys2Proof.Machine
end

