-- ==== Sys2Proof/Tests/Slice0.lean ====
section
/-! SUPPORT. Tests: ill-formed commands are refused by the well-formedness check; the manual's worked examples; and, for each
statement with hypotheses, a state and operands that meet them. -/

namespace Sys2Proof.Tests

open Sys2Proof Sys2Proof.Machine

set_option Elab.async false

/-! ### Ill-formed commands -/

/-- Fields of one and two bytes. -/
theorem test_wellFormed_refuses_wide_fields :
    ([.unknownCommand 256, .setClock 65536, .arrive 65536 0 0 0 0 0, .arrive 0 65536 0 0 0 0, .arrive 0 0 256 0 0 0,
      .arrive 0 0 0 256 0 0, .arrive 0 0 0 0 256 0, .arrive 0 0 0 0 0 65536, .relocate 65536 0, .relocate 0 65536,
      .activity 65536 0, .activity 0 256, .renew 65536, .setDeparture 65536 0, .setDeparture 0 65536, .depart 65536,
      .readStall 65536, .findTag 65536, .walkFirst 65536, .fanService 256 0, .fanService 0 256, .readHazards 256,
      .acknowledge 65536, .readZone 256, .readFan 256, .readHead 256, .readDamper 256 0, .readDamper 0 256,
      .readConfig 256 0, .readConfig 0 256, .broadcastSetClock 256 [], .headReply 256 .ok 0 0 true] : List Instr).all
      (!·.wellFormed) = true := by decide +kernel

/-- Fields of the configuration writes. -/
theorem test_wellFormed_refuses_wide_writes :
    ([.writeConfig 256 0 0, .writeConfig 3 256 0, .writeConfig 3 0 65536, .windowBaseWrite 256 0, .windowBaseWrite 0 65536,
      .tailLengthWrite 256 0, .tailLengthWrite 0 65536, .stallMapWrite .zone 256 0, .stallMapWrite .zone 0 65536,
      .floorCeilingWrite .floor 256 0, .floorCeilingWrite .floor 0 65536, .gasLevelWrite .coHigh 256 0,
      .gasLevelWrite .coHigh 0 65536, .adjacencyWrite 256 0, .adjacencyWrite 0 65536, .contactEnabledWrite 256 0,
      .contactEnabledWrite 0 65536, .minimumSpeedWrite 256 0, .minimumSpeedWrite 0 65536, .channelPlacementWrite .role 256 0,
      .channelPlacementWrite .role 0 65536] : List Instr).all (!·.wellFormed) = true := by decide +kernel

/-- A code of the command table is no unknown command, and a code outside it has no length to miss; an item with a row of its own; a
payload longer than a frame carries; a zone, a source, a panel number that is none; an answer, an amount and targets out of range. -/
theorem test_wellFormed_refuses_senseless_operands :
    ([.unknownCommand 0x10, .badLength 0xFF, .writeConfig 1 0 0, .broadcastSetClock 3 (List.replicate 65 0),
      .fireServiceCommand 8 .on, .conditionActiveReport .fire 8, .conditionClearReport .fireLinkLost 1,
      .capabilityWord ⟨256, 1, true, true, false⟩, .capabilityWord ⟨1, 256, true, true, false⟩,
      .evaluationComplete 0 ⟨768001, 0, false, false⟩, .evaluationComplete 0 ⟨0, 97, false, false⟩,
      .standbyRequestRaise 0 (.flow .shortfall 0), .standbyRequestChange 0 (.flow .shortfall 60001),
      .fanTargets 0 [(1, .off), (0, .off)], .fanTargets 0 [(0, .on 0 false)], .fanTargets 0 [(0, .on 101 false)]]
      : List Instr).all (!·.wellFormed) = true := by decide +kernel

/-- Commands at the ends of their ranges are well formed. -/
theorem test_wellFormed_accepts_bounds :
    ([.arrive 65535 65535 255 255 255 65535, .badLength 0x10, .unknownCommand 0xFF, .fanTargets 0 [(0, .on 1 true), (15, .on 100 false)],
      .standbyRequestRaise 0 (.flow .gasAlarm 60000), .conditionActiveReport .batteryThermal 95, .fireServiceCommand 7 .auto,
      .evaluationComplete 7 ⟨768000, 96, true, true⟩] : List Instr).all (·.wellFormed) = true := by decide +kernel

/-! ### The manual's worked examples -/

/-- The state after a command; the state itself where the command does not go on. -/
def after (i : Instr) (s : State) : State :=
  match exec i s with
  | .next t => t
  | _ => s

/-- The check sequence over the ASCII characters 123456789 is 29B1h (R160). -/
theorem test_check_sequence :
    crc16 [0x31#8, 0x32#8, 0x33#8, 0x34#8, 0x35#8, 0x36#8, 0x37#8, 0x38#8, 0x39#8] = 0x29B1#16 := by decide +kernel

/-- Channels 0 to 2 and 8 and 9 are the own fans of zones 0 and 1, 15 their standby fan; both dampers are OPEN (11.1). -/
def hall : State :=
  let s := State.reset
  let role (r : Role) (flow : Nat) (c : Chan) : ChanCfg := { ChanCfg.factory c with role := r, ratedFlow := flow }
  let channels := s.store.cfg.channels.set 0 (role (.zone 0) 3500 0) |>.set 1 (role (.zone 0) 3500 1)
    |>.set 2 (role (.zone 0) 3500 2) |>.set 8 (role (.zone 1) 4000 8) |>.set 9 (role (.zone 1) 4000 9)
    |>.set 15 (role (.standby 3) 5000 15)
  let zones := s.store.cfg.zones.set 0 { ZoneCfg.factory 0 with ceiling := 15500 }
    |>.set 1 { ZoneCfg.factory 1 with ceiling := 13000, adjacency := 1 } |>.set 2 { ZoneCfg.factory 2 with adjacency := 8 }
  { s with
    store := { s.store with cfg := { s.store.cfg with channels := channels, zones := zones } }
    dampers := Vector.replicate 8 (DamperRecord.resting .opened)
    pins := { s.pins with openSwitch := Vector.replicate 8 true, closedSwitch := Vector.replicate 8 false }
    gates := s.gates.set 15 { GateRecord.unused with inUse := true }
    inFlight := [] }

/-- The hall with zone 0 holding some stages (11.3). -/
def staged (k : Nat) : State := hall.setZone 0 { ZoneUnit.initial 30 with stageCount := k }

/-- An evaluation's demand, stage count, speed and shortfall of a zone. -/
def figures (s : State) (z : Zone) : Nat × Nat × Option Nat × Nat :=
  (s.zones[z].demand, s.zones[z].stageCount, s.zones[z].speed, s.zones[z].shortfall)

/-- Minutes 350 and 352: D 3300 with one fan at 95, then D 7700 with three at 74 (11.3). -/
theorem test_pull_out_begins :
    figures (after (.evaluationComplete 0 ⟨0, 6, false, false⟩) (staged 0)) 0 = (3300, 1, some 95, 0) ∧
      figures (after (.evaluationComplete 0 ⟨5600, 2, false, false⟩) (staged 1)) 0 = (7700, 3, some 74, 0) := by
  decide +kernel

/-- Minutes 355 and 363: a shortfall of 800 at speed 108, and three fans held at 64 by the four fifths (11.3); the gas terms of 2400 and
600 stand in the stall sum here. -/
theorem test_pull_out_ends :
    figures (after (.evaluationComplete 0 ⟨9800, 0, false, false⟩) (staged 3)) 0 = (11300, 3, some 108, 800) ∧
      figures (after (.evaluationComplete 0 ⟨5200, 0, false, false⟩) (staged 3)) 0 = (6700, 3, some 64, 0) := by
  decide +kernel

/-- The thermal floor of minute 410, and the staging down of minute 440 (11.4, 11.5). -/
theorem test_battery_watch :
    figures (after (.evaluationComplete 1 ⟨3250, 0, true, false⟩) hall) 1 = (8000, 2, some 100, 0) ∧
      figures (after (.evaluationComplete 1 ⟨750, 0, false, false⟩)
        (hall.setZone 1 { ZoneUnit.initial 30 with stageCount := 2 })) 1 = (2250, 1, some 57, 0) := by
  decide +kernel

/-- The grant of minute 355: channel 15 goes to zone 0 at once and no cover timer starts (11.3). -/
theorem test_shortfall_granted :
    (after (.standbyRequestRaise 0 (.flow .shortfall 800)) hall).alloc.grants[15] = some 0 ∧
      (after (.standbyRequestRaise 0 (.flow .shortfall 800)) hall).alloc.requests =
        [{ zone := 0, call := .flow .shortfall 800, cover := none }] := by
  decide +kernel

/-- 1400 with 36 steps leaves 700 at 18 steps; an activity of weight 900 left with 750 present sets 900 (11.3, R6). -/
theorem test_residue_terms :
    1400 * 18 / 36 = 700 ∧ residueSet 36 900 { level := 900, steps := 30, occupant := none } =
      { level := 900, steps := 36, occupant := none } := by
  decide

/-- 22 edges of a fan with 2 pulses a turn are 660 rpm (R81). -/
theorem test_tachometer : (after (.tachGateComplete 0 22) hall).fans[0].measured = 660 := by decide +kernel

/-- A stored value of 38 and a reading of 50 give 41 (R124). -/
theorem test_smoothing :
    smoothedTo { HeadRecord.initial none with state := .valid } (some 38) 50 = 41 := by decide +kernel

/-- A retry limit that is no power of two is clamped to 1, 2, 4 or 8 (R77). -/
theorem test_retry_limit_clamps :
    ([0, 1, 3, 5, 6, 65535].map fun v =>
      (after (.writeConfig 58 0 v) State.reset).store.cfg.channels[(0 : Chan)].retryLimit) = [1, 1, 4, 4, 8, 8] := by
  decide +kernel

/-- The factory stall map: stall i lies in zone i / 12 (R3). -/
theorem test_stall_map : (allStalls.all fun i => (StallCfg.factory i).zone.val == i.val / 12) = true := by decide +kernel

/-! ### States that meet the hypotheses of the statements -/

/-- A diesel with tag 7 in ENGINE-RUN at stall 5, its allowance full. -/
def diesel : Occupant :=
  { tag := 7, cls := .diesel, activity := .engineRun, since := 0, allowance := some 900, charger := none, departure := none,
    lapsed := false }

/-- The starting state with one record at stall 5. -/
def yard : State := State.reset.setStall 5 { StallEntry.empty with occupant := some diesel }

/-- The hall with one fan's record replaced. -/
def hallWith (c : Chan) (f : FanRecord) : State := hall.setFan c f

/-- A fan in a state, with an on target at 50 and a record that goes with it. -/
def onFan (state : FanState) (marked : Bool) : FanRecord :=
  { FanRecord.initial with
    state := state, target := .on 50 marked, runOutput := state.turning, commanded := if state.turning then 50 else 0 }

theorem vacant_has_no_record {s : State} {P : StallIdx → Occupant → Prop}
    (h : ∀ i : StallIdx, s.roster.stalls[i].occupant = none) :
    ∀ (i : StallIdx) (o : Occupant), s.roster.stalls[i].occupant = some o → P i o := by
  intro i o k
  rw [h i] at k
  cases k

theorem tagLaw_of_one {r : Roster} (k : StallIdx) (h : ∀ i : StallIdx, i ≠ k → r.stalls[i].occupant = none) : TagLaw r := by
  intro i j o p hi hj _
  by_cases a : i = k
  · by_cases b : j = k
    · exact a.trans b.symm
    · rw [h j b] at hj; cases hj
  · rw [h i a] at hi; cases hi

theorem yard_tagLaw : TagLaw yard.roster := tagLaw_of_one 5 (by decide +kernel)

theorem reset_ready : ready State.reset := by simp only [ready]; decide +kernel

theorem yard_ready : ready yard := by simp only [ready]; decide +kernel

theorem reset_rosterLaw : RosterLaw State.reset :=
  ⟨by simp only [StallLaw]; decide +kernel, vacant_has_no_record (by decide +kernel),
    tagLaw_of_one 0 (by decide +kernel)⟩

/-- The laws of the fans, queue by queue, as finite checks. -/
theorem fansLaw_of {s : State} (h : ∀ c : Chan, FanLaw s c) (a : QueueLaw s .a) (b : QueueLaw s .b) : FansLaw s :=
  ⟨h, fun f => by cases f <;> assumption⟩

/-! ### The block and its link -/

theorem witness_EmptyQueueStepTakesOwnEvent :
    ({ State.reset with powered := false } : State).pending = [] ∧
    (∃ i rest, State.reset.powered = true ∧ State.reset.inFlight = i :: rest) ∧
    (let s : State := { State.reset with inFlight := [], sensors := { State.reset.sensors with window := some 31 } }
     s.pending = [] ∧ s.powered = true ∧ s.inFlight = [] ∧ s.sensors.window = some 31) ∧
    (let s : State := { State.reset with inFlight := [], port := { State.reset.port with state := .receiving } }
     s.sensors.window = none ∧ s.port.state = .receiving) ∧
    (let s : State := { State.reset with inFlight := [] }
     s.pending = [] ∧ s.port.state ≠ .receiving ∧ expiries s = []) ∧
    (let s : State := ({ State.reset with inFlight := [] } : State).setZone 7 { ZoneUnit.initial 30 with evalTimer := 1 }
     s.pending = [] ∧ s.powered = true ∧ s.sensors.window = none ∧ s.port.state ≠ .receiving ∧
       expiries s = [.evaluationTimerExpiry 7] ∧ fallsDue s (.evaluationTimerExpiry 7)) :=
  ⟨rfl, ⟨_, _, rfl, rfl⟩, ⟨rfl, rfl, rfl, rfl⟩, ⟨rfl, rfl⟩, by decide +kernel, by simp only [fallsDue]; decide +kernel⟩

theorem witness_RefusedOrDroppedRequestChangesNothing :
    (∃ i s t r, isRequest i = true ∧ exec i s = .next t ∧ ready s ∧ t.port.response = some r ∧ r.status ≠ .done ∧
      r.status ≠ .doneClamped) ∧
    (∃ i s t, isRequest i = true ∧ exec i s = .next t ∧ s.powered = true ∧ s.port.state = .answering) ∧
    ∃ i s t, isRequest i = true ∧ exec i s = .next t ∧ s.powered = true ∧ s.port.address = 0 :=
  ⟨⟨.setClock 1440, State.reset, _, _, rfl, rfl, reset_ready, rfl, by decide +kernel, by decide +kernel⟩,
    ⟨.identify, { State.reset with port := { State.reset.port with state := .answering } }, _, rfl, rfl, rfl, rfl⟩,
    ⟨.identify, { State.reset with port := { State.reset.port with address := 0 } }, _, rfl, rfl, rfl, rfl⟩⟩

theorem witness_EveryRequestIsAnswered : isRequest (.fanService 15 1) = true ∧ ready State.reset := ⟨rfl, reset_ready⟩

theorem witness_DispatchInvertsEncoding :
    (Instr.arrive 65535 65535 255 255 255 65535).wellFormed = true ∧
      (requestBytes (.arrive 65535 65535 255 255 255 65535)).isSome = true ∧
      (Instr.writeConfig 60 255 65535).wellFormed = true ∧ (requestBytes (.writeConfig 60 255 65535)).isSome = true := by decide

theorem witness_FrameBytesRunTheRequest :
    let s : State := { State.reset with inFlight := [], port := { State.reset.port with address := 31 } }
    let payload := List.replicate 64 0xFF#8
    s.powered = true ∧ s.port.state = .listening ∧ s.port.buffer = [] ∧ s.inFlight = [] ∧ 1 ≤ s.port.address ∧
      s.port.address ≤ 31 ∧ 255 < 256 ∧ payload.length ≤ 64 := by decide

/-- The port in RECEIVING with some bytes in its buffer. -/
def receiving (buffer : List Byte) : State :=
  { State.reset with port := { State.reset.port with state := .receiving, buffer := buffer } }

theorem witness_BytesAreReceived :
    State.reset.port.state = .listening ∧ (receiving [0x3C#8, 4#8, 1#8]).port.buffer.length = 3 ∧ 64 < (65#8).toNat ∧
      (receiving [0x3C#8, 4#8]).port.buffer.length < 3 ∧ (64#8).toNat ≤ 64 ∧
      (let b := (receiving [0x3C#8, 4#8, 1#8, 0#8]).port.buffer
       4 ≤ b.length ∧ b.length + 1 < (b.getD 3 0).toNat + 6) ∧
      (receiving []).powered = true ∧ ({ State.reset.port with state := .answering } : LinkPort).state = .answering := by decide

theorem witness_PortReturnsToListening : State.reset.powered = true := rfl

theorem witness_UnknownAndMalformedRequests :
    ready State.reset ∧ requestLength 0xFF = none ∧ requestLength 0x10 = some 9 ∧ ([] : List Byte).length ≠ 9 := by
  simp only [ready]; decide +kernel

theorem witness_DepotClock :
    ready State.reset ∧ (1439 ≤ 1439) ∧ 1439 < 1440 ∧ State.reset.port.state ≠ .answering ∧
      256 * (5#8).toNat + (159#8).toNat ≤ 1439 ∧ 1439 < 256 * (5#8).toNat + (160#8).toNat := by
  simp only [ready]; decide +kernel

theorem witness_PowerOnStartsEveryBlock :
    let s : State :=
      { State.reset with
        store := { State.reset.store with nv := .image { Cfg.factory with tail := 63 } }
        pins :=
          { State.reset.pins with
            openSwitch := State.reset.pins.openSwitch.set 0 true, closedSwitch := State.reset.pins.closedSwitch.set 0 false
            loopOhms := (State.reset.pins.loopOhms.set 0 400).set 1 2000 } }
    s.store.nv = .image { Cfg.factory with tail := 63 } ∧ s.store.saving = none ∧
      s.pins.openSwitch[(0 : Zone)] = true ∧ s.pins.closedSwitch[(0 : Zone)] = false ∧
      s.pins.openSwitch[(1 : Zone)] = false ∧ s.pins.closedSwitch[(1 : Zone)] = true ∧
      400 ≤ s.pins.loopOhms[(0 : Zone)] ∧ s.pins.loopOhms[(1 : Zone)] ≤ 2000 := by
  decide +kernel

theorem witness_PowerLossStopsTheModule :
    ∃ t, ({ State.reset with powered := false } : State).powered = false ∧
      exec .identify { State.reset with powered := false } = .next t := ⟨_, rfl, rfl⟩

/-! ### The roster -/

theorem witness_RecordCommandsAreChecked :
    isRecordCommand (.depart 96) = true ∧ (Instr.depart 96).wellFormed = true ∧ ready State.reset ∧ RosterLaw State.reset ∧
      tableFault (.depart 96) State.reset = some .stallOutOfWindow ∧
      tableFault (.arrive 95 65534 3 4 48 1439) State.reset = none ∧
      tableFault (.arrive 95 65535 3 4 49 1440) State.reset = some .badTag ∧
      tableFault (.arrive 5 7 0 0 255 65535) yard = some .stallOccupied ∧ tableFault (.renew 6) yard = some .stallVacant ∧
      tableFault (.renew 5) yard = none :=
  ⟨rfl, rfl, reset_ready, reset_rosterLaw, by decide +kernel⟩

theorem witness_ArriveCreatesRecord :
    ready State.reset ∧ 95 = State.reset.store.cfg.windowBase + (95 : StallIdx).val ∧ 65534 ≤ 65534 ∧
      3 = VehicleClass.electric.code ∧ 4 = Activity.thermalWatch.code ∧ mayHold .electric .thermalWatch = true ∧ 1439 < 1440 ∧
      48 ≤ 48 ∧ State.reset.store.cfg.stalls[(95 : StallIdx)].enabled = true ∧
      State.reset.roster.stalls[(95 : StallIdx)].occupant = none ∧
      ∀ (j : StallIdx) (o : Occupant), State.reset.roster.stalls[j].occupant = some o → o.tag ≠ 65534 :=
  ⟨reset_ready, rfl, by decide, rfl, rfl, rfl, by decide, by decide, by decide +kernel, by decide +kernel,
    vacant_has_no_record (by decide +kernel)⟩

theorem witness_RelocateMovesRecord :
    ready yard ∧ 95 = yard.store.cfg.windowBase + (95 : StallIdx).val ∧ yard.roster.stalls[(5 : StallIdx)].occupant = some diesel ∧
      diesel.tag = 7 ∧ TagLaw yard.roster ∧ yard.store.cfg.stalls[(95 : StallIdx)].enabled = true ∧
      yard.roster.stalls[(95 : StallIdx)].occupant = none :=
  ⟨yard_ready, by decide +kernel, by decide +kernel, rfl, yard_tagLaw, by decide +kernel, by decide +kernel⟩

theorem witness_ActivityChangesRecord :
    ready yard ∧ 5 = yard.store.cfg.windowBase + (5 : StallIdx).val ∧ yard.roster.stalls[(5 : StallIdx)].occupant = some diesel ∧
      mayHold diesel.cls diesel.activity = true ∧ mayHold diesel.cls .warmUp = true ∧ Activity.warmUp ≠ diesel.activity ∧
      Activity.engineRun = diesel.activity := by
  simp only [ready]
  decide +kernel

theorem witness_RenewAndSetDeparture :
    ready yard ∧ 5 = yard.store.cfg.windowBase + (5 : StallIdx).val ∧ yard.roster.stalls[(5 : StallIdx)].occupant = some diesel ∧
      diesel.activity = .engineRun ∧ 1439 < 1440 := by
  simp only [ready]
  decide +kernel

theorem witness_DepartAndExpiryLeaveResidue :
    yard.roster.stalls[(5 : StallIdx)].occupant = some diesel ∧ ready yard ∧
      5 = yard.store.cfg.windowBase + (5 : StallIdx).val ∧ diesel.activity = .engineRun := by
  simp only [ready]
  decide +kernel

theorem witness_RosterReadsAndWalk :
    ready yard ∧ yard.roster.stalls[(5 : StallIdx)].occupant ≠ none ∧
      (∀ j : StallIdx, 0 ≤ j → j < 5 → yard.roster.stalls[j].occupant = none) ∧ yard.roster.cursor < 5 ∧
      6 = yard.store.cfg.windowBase + (6 : StallIdx).val ∧ (∀ j : StallIdx, 6 ≤ j → yard.roster.stalls[j].occupant = none) ∧
      (let s : State := { yard with roster := { yard.roster with cursor := 5 } }
       ready s ∧ ∀ j : StallIdx, s.roster.cursor < j → s.roster.stalls[j].occupant = none) := by
  simp only [ready]
  decide +kernel

theorem witness_StallSumAndRosterRestart :
    (let s : State := State.reset.setStall 95 { level := 900, steps := 1, occupant := none }
     s.powered = true ∧ s.store.cfg.stalls[(95 : StallIdx)].enabled = true ∧ s.store.cfg.stalls[(95 : StallIdx)].zone = 7 ∧
       s.roster.stalls[(95 : StallIdx)].steps = 1 ∧ s.store.minute ≤ 1439 ∧ s.store.clockSet = false) := by
  decide +kernel

/-! ### The zone units -/

theorem witness_EvaluationEventsBeginOrOwe :
    State.reset.zones[(7 : Zone)].evalState = .gathering ∧
      (State.reset.setZone 7 { ZoneUnit.initial 30 with evalState := .idle }).zones[(7 : Zone)].evalState = .idle ∧
      State.reset.powered = true := by
  decide +kernel

theorem witness_ZonePhaseTimersRunOut :
    (State.reset.setZone 7 { ZoneUnit.initial 30 with gasHigh := true, clearDelay := .running 1 }).zones[(7 : Zone)].clearDelay =
        .running 1 ∧
      State.reset.zones[(7 : Zone)].quiet = .delay 1800 ∧
      (State.reset.setZone 7 { ZoneUnit.initial 30 with quiet := .pulse 1 }).zones[(7 : Zone)].quiet = .pulse 1 ∧
      (State.reset.setZone 7 { ZoneUnit.initial 30 with quiet := .space 1 }).zones[(7 : Zone)].quiet = .space 1 := by
  decide +kernel

theorem witness_ZoneRestartDiscardsAnswer :
    (let s := State.reset.setZone 7 { ZoneUnit.initial 30 with abandoned := true }
     s.powered = true ∧ s.zones[(7 : Zone)].evalState = .gathering ∧ s.zones[(7 : Zone)].abandoned = true) := by
  decide +kernel

/-- The hall with one VALID head of zone 0 that reads a CO value. -/
def sensing (co : Nat) : State :=
  hall.setHead 31 { HeadRecord.initial (some 0) with state := .valid, co := some co, no2 := some 0, hold := some 60 }

theorem witness_EvaluationFindsDemand :
    gathering hall 0 ∧ (∀ h : HeadAddr, hall.sensors.heads[h].zone ≠ some 0) ∧ gathering (sensing 45) 0 ∧
      countsIn (sensing 45) 0 31 ∧
      (let s := hall.setHead 31 (HeadRecord.initial (some 0))
       s.sensors.heads[(31 : HeadAddr)].zone = some 0 ∧ ∀ h : HeadAddr, ¬ countsIn s 0 h) := by
  simp only [gathering, countsIn]
  decide +kernel

/-- The mode an evaluation of zone 0 leaves, for an answer's thermal flag. -/
def modeAfter (thermal : Bool) (s : State) : ZoneMode :=
  (after (.evaluationComplete 0 ⟨0, 0, thermal, false⟩) s).zones[(0 : Zone)].mode

/-- The fire command of zone 0. -/
def commanded (c : FireCommand) : State := hall.setFire { hall.fire with commands := hall.fire.commands.set 0 (some c) }

theorem witness_EvaluationChoosesMode :
    gathering hall 0 ∧ modeAfter false (commanded .on) = .manualOn ∧ modeAfter false (commanded .off) = .manualOff ∧
      modeAfter false (hall.setFire { hall.fire with latches := hall.fire.latches.set 0 true }) = .fireExtract ∧
      modeAfter true (hall.setZone 1 { ZoneUnit.initial 30 with mode := .fireExtract }) = .smokeHold ∧
      modeAfter true (sensing 100) = .gasAlarm ∧ modeAfter true (sensing 99) = .thermal ∧ modeAfter false (sensing 99) = .normal ∧
      modeAfter false (hall.setZone 0 { ZoneUnit.initial 30 with quiet := .pulse 1 }) = .quiet ∧
      quietHolds hall 0 ⟨0, 0, false, false⟩ (after (.evaluationComplete 0 ⟨0, 0, false, false⟩) hall).zones[(0 : Zone)] ∧
      ¬ quietHolds hall 0 ⟨0, 0, false, true⟩ (after (.evaluationComplete 0 ⟨0, 0, false, true⟩) hall).zones[(0 : Zone)] := by
  simp only [gathering, quietHolds, adjacentFire]
  decide +kernel

/-- The table of R64: with the test holding OUT becomes DELAY with 30 minutes and DUE becomes PULSE with 4 + 1; a stall sum of 1 ends DELAY. -/
theorem test_quiet_phases :
    (let q (sum : Nat) (phase : QuietPhase) :=
       (after (.evaluationComplete 0 ⟨sum, 0, false, false⟩) (hall.setZone 0 { ZoneUnit.initial 30 with quiet := phase })).zones[
         (0 : Zone)].quiet
     q 0 .out = .delay 1800 ∧ q 0 (.delay 7) = .delay 7 ∧ q 0 .due = .pulse 300 ∧ q 0 (.space 7) = .space 7 ∧ q 1 (.delay 7) = .out) := by
  decide +kernel

/-- The latch at its clear level and below it, with no delay, a delay that runs and one that has run out (R57). -/
def latched (co : Nat) (d : ClearDelay) : State :=
  (sensing co).setZone 0 { ZoneUnit.initial 30 with gasHigh := true, clearDelay := d }

theorem test_gas_latch_levels :
    (let u (co : Nat) (d : ClearDelay) := (after (.evaluationComplete 0 ⟨0, 0, false, false⟩) (latched co d)).zones[(0 : Zone)]
     (u 60 .runOut).gasHigh = true ∧ (u 60 .runOut).clearDelay = .idle ∧ (u 59 .idle).clearDelay = .running 60 ∧
       (u 59 (.running 7)).clearDelay = .running 7 ∧ (u 59 .runOut).gasHigh = false) := by
  decide +kernel

/-- The hall with zone 0's three fans running and channel 15 granted to it. -/
def granted : State :=
  (staged 3).setAlloc
    { requests := [{ zone := 0, call := .flow .shortfall 800, cover := none }]
      grants := (Vector.replicate 16 none).set 15 (some 0), shortfall := Vector.replicate 8 false }

theorem witness_StagingCarriesDemand :
    gathering (staged 3) 0 ∧ stagedMode (after (.evaluationComplete 0 ⟨5200, 0, false, false⟩) (staged 3)).zones[(0 : Zone)].mode ∧
      availableFans hall 0 = [0, 1, 2] ∧ gathering (commanded .on) 0 ∧ gathering (commanded .off) 0 ∧
      (let s := granted
       gathering s 0 ∧ holdsStandby s 0 15 ∧ 0 < grantedFlow s s.alloc 0 ∧
         (after (.evaluationComplete 0 ⟨9800, 0, false, false⟩) s).zones[(0 : Zone)].request = some (.flow .shortfall 800) ∧
         (after (.evaluationComplete 0 ⟨0, 0, false, false⟩) s).zones[(0 : Zone)].request = none) ∧
      (let s := (hallWith 0 { FanRecord.initial with state := .failed }).setZone 0 { ZoneUnit.initial 30 with quiet := .pulse 1 }
       coverDue s 0 ∧ availableFans s 0 = [1, 2] ∧
         (after (.evaluationComplete 0 ⟨0, 0, false, false⟩) s).zones[(0 : Zone)].quiet = .pulse 1 ∧
         (after (.evaluationComplete 0 ⟨0, 0, false, false⟩) s).zones[(0 : Zone)].mode = .quiet) := by
  have held : holdsStandby granted 0 15 := ⟨⟨3, by decide +kernel⟩, by decide +kernel⟩
  simp only [gathering, stagedMode, held, coverDue]
  decide +kernel

/-- Target counts of the hall's zone 0: three fans held at 6700, a fall from three to one at 2800 and a rise from none to one at 3300 (R45). -/
theorem witness_StagingCarriesDemand_targets :
    (let q := firstRated hall [0, 1, 2]
     isTargetCount q 3 6700 2 ∧ 4 * q 2 < 5 * 6700 ∧ isTargetCount q 3 2800 1 ∧ 5 * 2800 ≤ 4 * q 1 ∧ isTargetCount q 3 3300 1) := by
  simp only [isTargetCount]
  decide +kernel

/-- The standby speed of minute 355: 800 of channel 15's 5000 L/s is 16 percent, raised to its minimum speed of 25 (11.3, R51). -/
theorem test_standby_speed :
    ((15, FanTarget.on 25 false) ∈
      targetsOf granted 0 .normal 3 (some 108) (after (.evaluationComplete 0 ⟨9800, 0, false, false⟩) granted).zones[(0 : Zone)].request) := by
  decide +kernel

/-! ### The fans -/

/-- The hall with channels 3 and 10 STARTING and holding the permits, and some fans waiting on feed A, marked or not. -/
def busy (waiting : List (Chan × Bool)) : State :=
  let s := waiting.foldl (fun s p => s.setFan p.1 (onFan .queued p.2)) ((hallWith 3 (onFan .starting false)).setFan 10
    (onFan .starting false))
  { s with
    queueA := { fans := waiting.map Prod.fst, permit := some 3 }
    queueB := { fans := [], permit := some 10 } }

/-- The hall with some fans waiting on feed A and the permit free. -/
def waiting (l : List Chan) : State :=
  let s := l.foldl (fun s c => s.setFan c (onFan .queued false)) hall
  { s with queueA := { fans := l, permit := none } }

theorem busy_none_law : FansLaw (busy []) :=
  fansLaw_of (by simp only [FanLaw]; decide +kernel) (by simp only [QueueLaw]; decide +kernel)
    (by simp only [QueueLaw]; decide +kernel)

theorem busy_two_law : FansLaw (busy [(1, true), (2, false)]) :=
  fansLaw_of (by simp only [FanLaw]; decide +kernel) (by simp only [QueueLaw]; decide +kernel)
    (by simp only [QueueLaw]; decide +kernel)

theorem waiting_law : FansLaw (waiting [4, 0, 1]) :=
  fansLaw_of (by simp only [FanLaw]; decide +kernel) (by simp only [QueueLaw]; decide +kernel)
    (by simp only [QueueLaw]; decide +kernel)

/-- An own fan of the hall takes its zone's targets. -/
theorem accepts_own {s : State} {z : Zone} {c : Chan} (h : s.store.cfg.channels[c].role = .zone z) : acceptsTarget s z c := by
  intro reach k
  rw [h] at k
  cases k

/-- Channel 0 with a record, in its queue and holding its permit as the record's state asks. -/
def solo (f : FanRecord) : State :=
  { hallWith 0 f with
    queueA := { fans := if f.state = .queued then [0] else [], permit := if f.state = .starting then some 0 else none } }

/-- Records of channel 0, for the cases of the statements about targets, gates, rundowns and service. -/
def soloRecords : List FanRecord :=
  [FanRecord.initial, onFan .starting false, { onFan .starting false with goodGates := 1, failedCondition := true },
   onFan .running false, { onFan .running false with lowGates := 2 }, { onFan .running false with settle := some 1 },
   { FanRecord.initial with state := .stopping }, { onFan .stopping false with stopReason := .commanded },
   { onFan .stopping true with stopReason := .commanded }, { onFan .stopping false with stopReason := .failure .speedLost, retryCount := 1 },
   onFan .queued false, onFan .queued true, { onFan .queued true with retryCount := 2, lastFailure := some .speedLost },
   onFan .retryWait false, { onFan .retryWait true with retryCount := 2 }, onFan .lockedOut false, onFan .failed false,
   { FanRecord.initial with state := .service }]

theorem solo_laws : ∀ f ∈ soloRecords, FansLaw (solo f) := by
  have h : ∀ f ∈ soloRecords, (∀ c : Chan, FanLaw (solo f) c) ∧ QueueLaw (solo f) .a ∧ QueueLaw (solo f) .b := by
    simp only [FanLaw, QueueLaw]
    decide +kernel
  exact fun f hf => fansLaw_of (h f hf).1 (h f hf).2.1 (h f hf).2.2

theorem witness_TargetsJoinQueueInOrder :
    (busy []).powered = true ∧ FansLaw (busy []) ∧ ascending [(0, .on 1 false), (2, .on 100 false)] = true ∧
      (busy []).queueA.permit ≠ none ∧ (busy []).queueB.permit ≠ none ∧
      (∀ s ∈ [busy [], solo FanRecord.initial], ∀ p ∈ [((0 : Chan), FanTarget.on 1 false), (2, .on 100 false)],
        s.fans[p.1].state = .off ∧ s.fans[p.1].target = .off ∧ acceptsTarget s 0 p.1 ∧ ∃ speed, p.2 = .on speed false) ∧
      FansLaw (solo FanRecord.initial) ∧ ((solo FanRecord.initial).queue .a).permit = none ∧ openPath (solo FanRecord.initial) 0 := by
  refine ⟨rfl, busy_none_law, by decide, by decide +kernel, by decide +kernel, ?_, solo_laws _ (by decide +kernel), by decide +kernel,
    Or.inl ⟨0, by decide +kernel, by decide +kernel⟩⟩
  have roles : ∀ s ∈ [busy [], solo FanRecord.initial], ∀ c ∈ [(0 : Chan), 2],
      s.fans[c].state = .off ∧ s.fans[c].target = .off ∧ s.store.cfg.channels[c].role = .zone 0 := by decide +kernel
  intro s hs p hp
  rcases List.mem_cons.mp hp with rfl | hp
  · have r := roles s hs 0 (by decide)
    exact ⟨r.1, r.2.1, accepts_own r.2.2, 1, rfl⟩
  · rw [List.mem_singleton.mp hp]
    have r := roles s hs 2 (by decide)
    exact ⟨r.1, r.2.1, accepts_own r.2.2, 100, rfl⟩

theorem witness_ForcedMarkGoesToTheFront :
    (let s := busy [(1, true), (2, false)]
     s.powered = true ∧ FansLaw s ∧ acceptsTarget s 0 0 ∧ (s.queue (feedOf s 0)).permit ≠ none ∧
       s.fans[(0 : Chan)].state = .off ∧ s.fans[(0 : Chan)].target.marked = false ∧
       (s.queue (feedOf s 0)).fans.erase 0 = [1] ++ [2] ∧ (∀ d ∈ [(1 : Chan)].getLast?, s.fans[d].target.marked = true) ∧
       (∀ d ∈ [(2 : Chan)], s.fans[d].target.marked = false) ∧
       s.fans[(2 : Chan)].state = .queued ∧ (s.queue (feedOf s 2)).fans.erase 2 = [1] ++ []) ∧
    ∀ f ∈ [onFan .queued false, onFan .retryWait false, onFan .lockedOut false, onFan .failed false],
      FansLaw (solo f) ∧ ((solo f).queue .a).fans.erase 0 = [] ∧ ((solo f).queue .a).permit = none ∧ openPath (solo f) 0 := by
  have sub : ∀ f ∈ [onFan .queued false, onFan .retryWait false, onFan .lockedOut false, onFan .failed false], f ∈ soloRecords ∧
      ((solo f).queue .a).fans.erase 0 = [] ∧ ((solo f).queue .a).permit = none ∧
      (solo f).store.cfg.channels[(0 : Chan)].role = .zone 0 ∧ (solo f).dampers[(0 : Zone)].state = .opened := by decide +kernel
  refine ⟨⟨rfl, busy_two_law, accepts_own (by decide +kernel), by decide +kernel⟩, fun f hf => ?_⟩
  exact ⟨solo_laws f (sub f hf).1, (sub f hf).2.1, (sub f hf).2.2.1, Or.inl ⟨0, (sub f hf).2.2.2⟩⟩

theorem witness_TargetsAreTakenByState :
    (∀ st ∈ [FanState.service, .stopping, .lockedOut, .failed],
        (hallWith 0 { FanRecord.initial with state := st }).fans[(0 : Chan)].state = st) ∧
      acceptsTarget hall 0 0 ∧ ¬ acceptsTarget hall 0 15 ∧ hall.fans[(0 : Chan)].target = .off ∧
      (let s := solo (onFan .running false)
       s.powered = true ∧ s.fans[(0 : Chan)].state = .running ∧ s.fans[(0 : Chan)].target ≠ .on 100 true ∧
         s.fans[(0 : Chan)].target ≠ .off ∧ s.fans[(0 : Chan)].commanded < runningSpeed s 0 100) ∧
      (FansLaw (solo (onFan .starting false)) ∧ (solo (onFan .starting false)).fans[(0 : Chan)].target ≠ .off) ∧
      (let s := solo (onFan .queued true)
       FansLaw s ∧ losesMark s 0 (.on 50 false) ∧ ¬ outOfRetries s 0 ∧ ¬ gainsMark s 0 (.on 60 true)) ∧
      (let s := solo { onFan .queued true with retryCount := 2, lastFailure := some .speedLost }
       FansLaw s ∧ losesMark s 0 .off ∧ outOfRetries s 0) ∧
      (let s := solo { onFan .retryWait true with retryCount := 2 }
       FansLaw s ∧ losesMark s 0 (.on 50 false) ∧ outOfRetries s 0) := by
  refine ⟨by decide +kernel, accepts_own (by decide +kernel), fun h => ?_, by decide +kernel, by decide +kernel,
    ⟨solo_laws _ (by decide +kernel), by decide +kernel⟩, ⟨solo_laws _ (by decide +kernel), ?_⟩,
    ⟨solo_laws _ (by decide +kernel), ?_⟩, ⟨solo_laws _ (by decide +kernel), ?_⟩⟩
  · exact absurd (h 3 (by decide +kernel)) (by decide +kernel)
  all_goals
    simp only [losesMark, gainsMark, outOfRetries]
    decide +kernel

/-- The settle time takes the start window in force since the fan entered STARTING: a write of 60 in RUNNING leaves it at 20 (R77, R86). -/
theorem test_settle_time :
    (after (.fanTargets 0 [(0, .on 80 false)]) (after (.writeConfig 56 0 60) (solo (onFan .running false)))).fans[
      (0 : Chan)].settle = some 20 := by decide +kernel

/-- The standby fan STARTING on feed B, with nothing behind it. -/
def standbyStarting : State := { hallWith 15 (onFan .starting false) with queueB := { fans := [], permit := some 15 } }

/-- The standby fan QUEUED on feed B, the permit free. -/
def standbyQueued : State := { hallWith 15 (onFan .queued false) with queueB := { fans := [15], permit := none } }

/-- The hall with channel 0 STARTING and channel 1, its path open, waiting behind it. -/
def startingAhead : State :=
  { (hallWith 0 (onFan .starting false)).setFan 1 (onFan .queued false) with queueA := { fans := [1], permit := some 0 } }

theorem startingAhead_law : FansLaw startingAhead :=
  fansLaw_of (by simp only [FanLaw]; decide +kernel) (by simp only [QueueLaw]; decide +kernel)
    (by simp only [QueueLaw]; decide +kernel)

theorem witness_StandbyOffTargetStopsFan :
    (let s := hallWith 15 (onFan .running false)
     s.powered = true ∧ s.fans[(15 : Chan)].target.isOn = true ∧ s.fans[(15 : Chan)].state = .running ∧
       hall.fans[(15 : Chan)].target = .off) ∧
      (standbyQueued.fans[(15 : Chan)].state = .queued ∧ standbyQueued.fans[(15 : Chan)].target.marked = false ∧
        FansLaw standbyQueued) ∧
      (standbyStarting.fans[(15 : Chan)].state = .starting ∧ FansLaw standbyStarting ∧
        ∀ d ∈ (standbyStarting.queue (feedOf standbyStarting 15)).fans, ¬ openPath standbyStarting d) ∧
      (startingAhead.fans[(0 : Chan)].state = .starting ∧ FansLaw startingAhead ∧ openPath startingAhead 1) ∧
      (∀ f ∈ [onFan .retryWait false, onFan .queued true],
        FansLaw (solo f) ∧ (solo f).fans[(0 : Chan)].target.isOn = true ∧
          ¬((solo f).fans[(0 : Chan)].target.marked = true ∧ outOfRetries (solo f) 0)) ∧
      ∀ f ∈ [{ onFan .queued true with retryCount := 2, lastFailure := some .speedLost }, { onFan .retryWait true with retryCount := 2 }],
        FansLaw (solo f) ∧ (solo f).fans[(0 : Chan)].target.marked = true ∧ outOfRetries (solo f) 0 := by
  refine ⟨by decide +kernel,
    ⟨by decide +kernel, by decide +kernel,
      fansLaw_of (by simp only [FanLaw]; decide +kernel) (by simp only [QueueLaw]; decide +kernel)
        (by simp only [QueueLaw]; decide +kernel)⟩,
    ⟨by decide +kernel,
      fansLaw_of (by simp only [FanLaw]; decide +kernel) (by simp only [QueueLaw]; decide +kernel)
        (by simp only [QueueLaw]; decide +kernel), ?_⟩,
    ⟨by decide +kernel, startingAhead_law, Or.inl ⟨0, by decide +kernel, by decide +kernel⟩⟩, ?_, ?_⟩
  · have none : (standbyStarting.queue (feedOf standbyStarting 15)).fans = [] := by decide +kernel
    simp [none]
  · have sub : ∀ f ∈ [onFan .retryWait false, onFan .queued true], f ∈ soloRecords ∧ (solo f).fans[(0 : Chan)].target.isOn = true ∧
        ¬((solo f).fans[(0 : Chan)].target.marked = true ∧ outOfRetries (solo f) 0) := by
      simp only [outOfRetries]; decide +kernel
    exact fun f hf => ⟨solo_laws f (sub f hf).1, (sub f hf).2⟩
  · have sub : ∀ f ∈ [{ onFan .queued true with retryCount := 2, lastFailure := some .speedLost },
        { onFan .retryWait true with retryCount := 2 }], f ∈ soloRecords ∧ (solo f).fans[(0 : Chan)].target.marked = true ∧
        outOfRetries (solo f) 0 := by
      simp only [outOfRetries]; decide +kernel
    exact fun f hf => ⟨solo_laws f (sub f hf).1, (sub f hf).2⟩

/-- The off target of a STARTING fan passes its permit to the fan waiting with an open path; one in RETRY-WAIT goes to OFF (R87, R89, R95). -/
theorem test_standby_off_target :
    ((after (.standbyOffTarget 0) startingAhead).queueA = { fans := [], permit := some 1 } ∧
      (after (.standbyOffTarget 0) startingAhead).fans[(0 : Chan)].state = .stopping ∧
      (after (.standbyOffTarget 0) (solo (onFan .retryWait false))).fans[(0 : Chan)].state = .off) := by decide +kernel

theorem no_role_no_path {s : State} {c : Chan} (h : s.store.cfg.channels[c].role = .unused) : ¬ openPath s c := by
  rintro (⟨z, k, -⟩ | ⟨reach, z, k, -⟩) <;> rw [h] at k <;> cases k

theorem witness_FirstOpenFanTakesPermit :
    (waiting [4, 0, 1]).powered = true ∧ FansLaw (waiting [4, 0, 1]) ∧ firstOpen (waiting [4, 0, 1]) 0 [4] [1] 50 false ∧
      (busy []).queueA.permit ≠ none := by
  refine ⟨rfl, waiting_law, ⟨by decide +kernel, by decide +kernel, ?_, ?_, by decide +kernel⟩, by decide +kernel⟩
  · intro d hd
    rw [List.mem_singleton.mp hd]
    exact no_role_no_path (by decide +kernel)
  · exact Or.inl ⟨0, by decide +kernel, by decide +kernel⟩

/-- Gates of 13, 12, 16, 17, 5 and 4 edges at channel 0 in three states: the limits of the good, the low and the rundown test for a fan of 1450
rpm at 50 percent, which is expected at 725 (R81). -/
theorem witness_TachometerGates :
    (let expected (s : State) := s.store.cfg.channels[(0 : Chan)].ratedRpm * s.fans[(0 : Chan)].commanded / 100
     let start := solo (onFan .starting false)
     let run := solo { onFan .running false with lowGates := 2 }
     expected start = 725 ∧ expected start ≤ 2 * (13 * 60 / 2) ∧ 2 * (12 * 60 / 2) < expected start ∧ start.fans[(0 : Chan)].goodGates = 0 ∧
       10 * (16 * 60 / 2) < 7 * expected run ∧ 7 * expected run ≤ 10 * (17 * 60 / 2) ∧ run.fans[(0 : Chan)].settle = none ∧
       2 ≤ run.fans[(0 : Chan)].lowGates) ∧
      (∀ f ∈ soloRecords, FansLaw (solo f)) ∧
      (let s := solo { onFan .starting false with goodGates := 1, failedCondition := true }
       s.fans[(0 : Chan)].state = .starting ∧ 1 ≤ s.fans[(0 : Chan)].goodGates ∧ s.fans[(0 : Chan)].failedCondition = true) ∧
      (let s := solo { FanRecord.initial with state := .stopping }
       s.store.cfg.channels[(0 : Chan)].ratedRpm ≤ 10 * (5 * 60 / 2) ∧ 10 * (4 * 60 / 2) < s.store.cfg.channels[(0 : Chan)].ratedRpm ∧
         s.fans[(0 : Chan)].stopReason = .commanded ∧ s.fans[(0 : Chan)].target = .off) ∧
      (let s := solo { onFan .stopping true with stopReason := .commanded }
       s.fans[(0 : Chan)].target.isOn = true ∧ s.fans[(0 : Chan)].stopReason = .commanded) ∧
      (let s := solo { onFan .stopping false with stopReason := .failure .speedLost, retryCount := 1 }
       s.fans[(0 : Chan)].stopReason = .failure .speedLost ∧ s.fans[(0 : Chan)].retryCount < 255) ∧
      hall.fans[(0 : Chan)].state ≠ .starting :=
  ⟨by decide +kernel, solo_laws, by decide +kernel⟩

/-- Four edges end a rundown: with an on target stored the fan is queued and, its path open and the permit free, starts at once; the second
failed attempt of a fan is its last (R82, R87, R88). -/
theorem test_rundown_gate :
    ((after (.tachGateComplete 0 4) (solo { onFan .stopping false with stopReason := .commanded })).fans[(0 : Chan)].state = .starting ∧
      (after (.tachGateComplete 0 4) (solo { onFan .stopping false with stopReason := .failure .speedLost, retryCount := 1 })).fans[
        (0 : Chan)].state = .failed) := by decide +kernel

/-- The hall with channel 0 in RETRY-WAIT and channel 3 holding feed A's permit. -/
def retrying : State :=
  { (hallWith 0 { onFan .retryWait false with timer := some (.retryWait 1) }).setFan 3 (onFan .starting false) with
    queueA := { fans := [], permit := some 3 } }

theorem witness_FanTimersRunOut :
    standbyStarting.fans[(15 : Chan)].state = .starting ∧
      (hallWith 0 { onFan .running false with timer := some (.cleanRun 1) }).fans[(0 : Chan)].timer = some (.cleanRun 1) ∧
      (startingAhead.fans[(0 : Chan)].state = .starting ∧ FansLaw startingAhead ∧ openPath startingAhead 1) ∧
      (let s := solo { onFan .retryWait true with retryCount := 2 }
       FansLaw s ∧ s.fans[(0 : Chan)].state = .retryWait ∧ s.fans[(0 : Chan)].target.marked = true ∧ (s.queue (feedOf s 0)).permit = none) ∧
      FansLaw retrying ∧ retrying.fans[(0 : Chan)].state = .retryWait ∧ retrying.fans[(0 : Chan)].target.marked = false ∧
      (retrying.queue (feedOf retrying 0)).permit ≠ none :=
  ⟨by decide +kernel, by decide +kernel,
    ⟨by decide +kernel, startingAhead_law, Or.inl ⟨0, by decide +kernel, by decide +kernel⟩⟩,
    ⟨solo_laws _ (by decide +kernel), by decide +kernel⟩,
    fansLaw_of (by simp only [FanLaw]; decide +kernel) (by simp only [QueueLaw]; decide +kernel)
      (by simp only [QueueLaw]; decide +kernel),
    by decide +kernel⟩

/-- A fan that stops after a failed attempt, with a retry count and a target. -/
def failing (count : Nat) (target : FanTarget) : State :=
  hallWith 0
    { FanRecord.initial with
      state := .stopping, stopReason := .failure .speedLost, retryCount := count, target := target, timer := some (.rundown 1) }

theorem witness_RundownDecidesNextState :
    (let s := hallWith 0 { FanRecord.initial with state := .stopping, timer := some (.rundown 1) }
     s.powered = true ∧ s.fans[(0 : Chan)].state = .stopping ∧ s.fans[(0 : Chan)].stopReason = .commanded ∧
       s.fans[(0 : Chan)].target = .off) ∧
      (let s := solo { onFan .stopping false with stopReason := .commanded }
       FansLaw s ∧ s.fans[(0 : Chan)].state = .stopping ∧ s.fans[(0 : Chan)].target.isOn = true) ∧
      (failing 254 .off).fans[(0 : Chan)].retryCount < 255 ∧
      (failing 1 (.on 50 false)).fans[(0 : Chan)].stopReason = .failure .speedLost ∧
      (failing 1 (.on 50 false)).store.cfg.channels[(0 : Chan)].retryLimit ≤ 1 + 1 ∧
      (failing 0 (.on 50 false)).store.cfg.channels[(0 : Chan)].retryLimit = 2 ∧
      (failing 1 (.on 50 true)).fans[(0 : Chan)].target.marked = true :=
  ⟨by decide +kernel, ⟨solo_laws _ (by decide +kernel), by decide +kernel⟩, by decide +kernel⟩

/-- The limit of 2 is reached by the second failed attempt in a row; a marked fan retries all the same (R88, R89). -/
theorem test_retry_limit_reached :
    ((after (.rundownLimitExpiry 0) (failing 0 (.on 50 false))).fans[(0 : Chan)].state = .retryWait ∧
      (after (.rundownLimitExpiry 0) (failing 1 (.on 50 false))).fans[(0 : Chan)].state = .failed ∧
      (after (.rundownLimitExpiry 0) (failing 1 (.on 50 true))).fans[(0 : Chan)].state = .retryWait ∧
      (after (.rundownLimitExpiry 0) (failing 0 .off)).fans[(0 : Chan)].state = .off) := by
  decide +kernel

theorem witness_ServiceAndRestartClearFans :
    ready hall ∧ hall.fans[(15 : Chan)].state ≠ .service ∧ 15 = (15 : Chan).val ∧ 15 < 16 ∧ 1 < 2 ∧
      (∀ st ∈ [FanState.service, .lockedOut, .failed],
        (hallWith 0 { FanRecord.initial with state := st }).fans[(0 : Chan)].state = st) ∧
      ∀ f ∈ [onFan .lockedOut false, onFan .failed false],
        ready (solo f) ∧ FansLaw (solo f) ∧ (solo f).fans[(0 : Chan)].target.isOn = true := by
  have sub : ∀ f ∈ [onFan .lockedOut false, onFan .failed false], f ∈ soloRecords ∧ ready (solo f) ∧
      (solo f).fans[(0 : Chan)].target.isOn = true := by simp only [ready]; decide +kernel
  exact ⟨by simp only [ready]; decide +kernel, by decide +kernel, rfl, by decide, by decide, by decide +kernel,
    fun f hf => ⟨(sub f hf).2.1, solo_laws f (sub f hf).1, (sub f hf).2.2⟩⟩

/-- FAN-SERVICE off at a LOCKED-OUT fan with an on target stored: it reaches OFF, joins its queue and, its path open, starts; RESTART leaves
it OFF with its target off (R82, R92, R98). -/
theorem test_locked_out_is_released :
    ((after (.fanService 0 0) (solo (onFan .lockedOut false))).fans[(0 : Chan)].state = .starting ∧
      (after .fanRestart (solo (onFan .lockedOut false))).fans[(0 : Chan)].state = .off ∧
      (after .fanRestart (solo (onFan .lockedOut false))).fans[(0 : Chan)].target = .off) := by decide +kernel

/-! ### Dampers and gates -/

/-- The hall with zone 0's damper replaced and its switches as given. -/
def damperAt (d : DamperRecord) (openSwitch closedSwitch : Bool) : State :=
  let s := hall.setDamper 0 d
  { s with
    pins :=
      { s.pins with
        openSwitch := s.pins.openSwitch.set 0 openSwitch, closedSwitch := s.pins.closedSwitch.set 0 closedSwitch } }

/-- A damper that travels. -/
def travellingDamper (state : DamperState) (request : DamperRequest) : DamperRecord :=
  { DamperRecord.resting state with request := request, timer := some 1 }

theorem witness_DamperRequestsAreTaken :
    (let s := damperAt (travellingDamper .closing .close) true false
     s.powered = true ∧ s.dampers[(0 : Zone)].request ≠ .openForced ∧ s.dampers[(0 : Zone)].state = .closing ∧
       s.pins.openSwitch[(0 : Zone)] = true ∧ s.pins.closedSwitch[(0 : Zone)] = false) ∧
      (let s := damperAt { DamperRecord.resting .opened with blocking := [0] } true false
       s.dampers[(0 : Zone)].request ≠ .close ∧ s.dampers[(0 : Zone)].state = .opened ∧ s.dampers[(0 : Zone)].blocking ≠ []) ∧
      (let s := damperAt (travellingDamper .opening .openPlain) false false
       s.dampers[(0 : Zone)].request ≠ .close ∧ s.dampers[(0 : Zone)].blocking = [] ∧
         s.dampers[(0 : Zone)].request ≠ .noRequest) := by
  decide +kernel

theorem witness_EndSwitchesMoveDamper :
    (let s := damperAt (travellingDamper .opening .openPlain) false false
     s.powered = true ∧ readingOf true false ≠ reading s 0 ∧ readingOf true true = reading s 0 ∧
       s.dampers[(0 : Zone)].state = .opening) ∧
      (∀ st ∈ [DamperState.closed, .opened, .closing, .jammed],
        (damperAt (DamperRecord.resting st) false false).dampers[(0 : Zone)].state = st ∧
          readingOf true false ≠ reading (damperAt (DamperRecord.resting st) false false) 0) ∧
      (let s := damperAt { DamperRecord.resting .jammed with jamCondition := true } false false
       s.dampers[(0 : Zone)].state = .jammed ∧ s.dampers[(0 : Zone)].jamCondition = true ∧
         (after (.endSwitchChange 0 true false) s).dampers[(0 : Zone)].state = .opened) := by
  decide +kernel

/-- The open output is on in OPENING alone, the close output in CLOSING alone (R99). -/
theorem test_damper_outputs :
    ([DamperState.closed, .opening, .opened, .closing, .jammed].map fun st =>
      ((DamperRecord.resting st).openOutput, (DamperRecord.resting st).closeOutput)) =
      [(false, false), (true, false), (false, false), (false, true), (false, false)] := by decide

/-- The hall with channel 15's gate replaced. -/
def gateAt (g : GateRecord) : State := hall.setGate 15 g

/-- A gate in use in a state, its target and its command output at zone 1. -/
def gateTo (state : GateState) (timer : Option Nat) : GateRecord :=
  { GateRecord.unused with inUse := true, state := state, target := .zone 1, output := .zone 1, timer := timer }

theorem witness_TravelTimeoutsJam :
    (damperAt (travellingDamper .closing .close) false false).dampers[(0 : Zone)].state = .closing ∧
      (gateAt (gateTo .travelling (some 1))).gates[(15 : Chan)].inUse = true ∧
      (gateAt (gateTo .travelling (some 1))).gates[(15 : Chan)].state = .travelling ∧ hall.powered = true := by
  decide +kernel

theorem witness_GateCommandsMoveGate :
    (let g := (gateAt (gateTo (.atZone 1) none)).gates[(15 : Chan)]
     g.inUse = true ∧ g.target ≠ .closed ∧ g.state ≠ GateTarget.reached .closed ∧ g.lastReport = .off ∧ g.answered = false ∧
       g.target = .zone 1 ∧ g.state ≠ .jammed) ∧
      (gateAt { gateTo .jammed none with jamCondition := true }).gates[(15 : Chan)].state = .jammed ∧
      (gateAt { gateTo (.atZone 1) none with lastReport := .service }).gates[(15 : Chan)].lastReport = .service ∧
      (gateAt { gateTo (.atZone 1) none with target := .closed }).gates[(15 : Chan)].state = .atZone 1 ∧
      hall.gates[(0 : Chan)].inUse = false := by
  decide +kernel

theorem witness_GateFeedbackSetsPosition :
    (let s := gateAt (gateTo .travelling (some 1))
     s.powered = true ∧ s.gates[(15 : Chan)].inUse = true ∧ s.pins.feedback[(15 : Chan)] ≠ .zone 1 ∧
       s.gates[(15 : Chan)].output = .zone 1 ∧ GateBand.between ≠ GateTarget.band s.gates[(15 : Chan)].output) ∧
      (gateAt { gateTo .travelling (some 1) with output := .closed }).gates[(15 : Chan)].output = .closed ∧
      (gateAt (gateTo (.atZone 1) none)).gates[(15 : Chan)].state = .atZone 1 ∧ hall.gates[(15 : Chan)].state = .closed := by
  decide +kernel

theorem witness_FanStateReportsReachDampersAndGates :
    (let s := hallWith 0 (onFan .running false)
     s.powered = true ∧ s.gates[(0 : Chan)].inUse = false ∧ s.store.cfg.channels[(0 : Chan)].role = .zone 0 ∧
       s.fans[(0 : Chan)].state = .running) ∧
      (let s := damperAt { DamperRecord.resting .opened with request := .close, closePending := true, blocking := [0] } true false
       s.fans[(0 : Chan)].state ≠ .starting ∧ s.fans[(0 : Chan)].state ≠ .running ∧ 0 ∈ s.dampers[(0 : Zone)].blocking ∧
         s.dampers[(0 : Zone)].closePending = true ∧ ∀ d ∈ s.dampers[(0 : Zone)].blocking, d = 0) ∧
      (let s := gateAt GateRecord.unused
       s.gates[(15 : Chan)].inUse = false ∧ s.store.cfg.channels[(15 : Chan)].role = .standby 3 ∧
         s.fans[(15 : Chan)].state = .off ∧ ∀ y : Zone, 15 ∉ s.dampers[y].blocking) ∧
      (let s := gateAt { gateTo (.atZone 1) none with pending := true, target := .zone 0, lastReport := .stopping }
       s.gates[(15 : Chan)].inUse = true ∧ s.gates[(15 : Chan)].pending = true ∧ s.fans[(15 : Chan)].state = .off ∧
         s.gates[(15 : Chan)].state ≠ GateTarget.reached s.gates[(15 : Chan)].target) ∧
      (let s := (gateAt { gateTo (.atZone 1) none with pending := true }).setFan 15 (onFan .running false)
       s.fans[(15 : Chan)].state = .running ∧ s.gates[(15 : Chan)].target = .zone 1 ∧ s.gates[(15 : Chan)].state = .atZone 1) ∧
      (let s := gateAt { gateTo (.atZone 1) none with lastReport := .starting, answered := true }
       s.gates[(15 : Chan)].inUse = true ∧ s.gates[(15 : Chan)].pending = false ∧ ∀ y : Zone, 15 ∉ s.dampers[y].blocking) ∧
      (let s := hall.setGate 0 { gateTo .jammed none with jamCondition := true }
       s.gates[(0 : Chan)].inUse = true ∧ s.fans[(0 : Chan)].state ≠ .service ∧
         s.store.cfg.channels[(0 : Chan)].role = .zone 0 ∧ s.gates[(0 : Chan)].jamCondition = true) := by
  decide +kernel

/-! ### The standby allocator -/

/-- Zone 0 asks for 9000 L/s and holds channel 15's 5000; zone 1 has a FIRE request and no fan. -/
def asking : State :=
  hall.setAlloc
    { requests := [{ zone := 0, call := .flow .shortfall 9000, cover := some 1 }, { zone := 1, call := .fire, cover := none }]
      grants := (Vector.replicate 16 none).set 15 (some 0), shortfall := Vector.replicate 8 false }

theorem asking_law : AllocLaw asking.alloc := by
  refine ⟨by decide +kernel, by decide +kernel, ?_, ?_⟩
  · have held : ∀ c : Chan, asking.alloc.grants[c] = if c = 15 then some 0 else none := by decide +kernel
    intro c z h
    rw [held c] at h
    split at h
    · cases h
      exact ⟨{ zone := 0, call := .flow .shortfall 9000, cover := some 1 }, by decide +kernel, rfl⟩
    · cases h
  · have none : ∀ z : Zone, asking.alloc.shortfall[z] = false := by decide +kernel
    intro z h
    rw [none z] at h
    cases h

theorem witness_AllocationRunsOnItsEvents :
    asking.powered = true ∧ AllocLaw asking.alloc ∧
      (let s := asking.setGate 15 { gateTo .jammed none with jamCondition := true }
       s.gates[(15 : Chan)].state = .jammed) ∧ hall.alloc.grants[(15 : Chan)] = none :=
  ⟨rfl, asking_law, by decide +kernel⟩

theorem witness_AllocationRunServesRequests :
    ∃ t, asking.powered = true ∧ AllocLaw asking.alloc ∧ exec (.standbyRequestRaise 0 (.flow .gasAlarm 5001)) asking = .next t :=
  ⟨_, rfl, asking_law, rfl⟩

/-- The FIRE request of zone 1 takes the one standby fan from zone 0, whose cover timer runs on (R113). -/
theorem test_fire_takes_fan :
    (let t := after (.gateJamReport 0) asking
     t.alloc.grants[(15 : Chan)] = some 1 ∧
       t.alloc.requests = [{ zone := 0, call := .flow .shortfall 9000, cover := some 1 }, { zone := 1, call := .fire, cover := none }]) := by
  decide +kernel

/-- Two standby fans of 4000 and 5000 L/s, on channels 14 and 15, both granted to zone 0, and the calls of a list. -/
def holding (calls : List (Zone × StandbyCall)) : State :=
  let s := hall.setAlloc
    { requests := calls.map fun r => { zone := r.1, call := r.2, cover := none }
      grants := ((Vector.replicate 16 none).set 14 (some 0)).set 15 (some 0), shortfall := Vector.replicate 8 false }
  let channels := s.store.cfg.channels.set 14 { s.store.cfg.channels[(15 : Chan)] with ratedFlow := 4000 }
  { s with store := { s.store with cfg := { s.store.cfg with channels := channels } } }

/-- The worked case of R112: an amount that falls from 6000 to 3000 releases the 5000 L/s of the higher channel and keeps the 4000. -/
theorem test_surplus_is_released :
    (let t := after (.standbyRequestChange 0 (.flow .shortfall 3000)) (holding [(0, .flow .shortfall 6000)])
     t.alloc.grants[(14 : Chan)] = some 0 ∧ t.alloc.grants[(15 : Chan)] = none) := by decide +kernel

/-- A fire that rises takes the lower channel first and then, in its second round, the other; a gas alarm takes one fan and is covered (R113,
R114). -/
theorem test_fire_rounds_and_preemption :
    (let t := after (.standbyRequestRaise 1 .fire) (holding [(0, .flow .shortfall 6000)])
     let u := after (.standbyRequestRaise 1 (.flow .gasAlarm 4000)) (holding [(0, .flow .shortfall 6000)])
     t.alloc.grants[(14 : Chan)] = some 1 ∧ t.alloc.grants[(15 : Chan)] = some 1 ∧
       u.alloc.grants[(14 : Chan)] = some 1 ∧ u.alloc.grants[(15 : Chan)] = some 0) := by decide +kernel

theorem witness_CoverTimerAndAllocatorRestart :
    asking.powered = true ∧ AllocLaw asking.alloc ∧
      ({ zone := 0, call := .flow .shortfall 9000, cover := some 1 } : StandbyEntry) ∈ asking.alloc.requests ∧
      (∀ e ∈ asking.alloc.requests, e.zone = 1 → e.cover = none) ∧ asking.alloc.grants[(15 : Chan)] ≠ none :=
  ⟨rfl, asking_law, by decide +kernel⟩

/-! ### The sensor line -/

/-- A sensor line with one head of zone 0 in a state and the window open or not. -/
def line (state : HeadState) (window : Option HeadAddr) (due : List HeadAddr) : State :=
  let r : HeadRecord :=
    { HeadRecord.initial (some 0) with
      state := state, co := some 99, no2 := some 0, hold := if state.counts then some 1 else none, misses := 2 }
  let s := hall.setHead 31 r
  { s with sensors := { s.sensors with window := window, due := due } }

theorem witness_PollingCycleAppliesZonesAndPolls :
    (let s := State.reset
     s.powered = true ∧ SensorLaw s.sensors) ∧
      (line .lost none []).sensors.heads[(31 : HeadAddr)].state = .lost ∧ (line .lost none []).store.cfg.heads[(31 : HeadAddr)] = none ∧
      (line .valid none [31]).sensors.window = none ∧ (line .valid (some 31) []).sensors.window = some 31 := by
  refine ⟨⟨rfl, ?_, ?_, ?_⟩, by decide +kernel⟩
  · have same : ∀ h : HeadAddr, State.reset.sensors.heads[h] = HeadRecord.initial none := by decide +kernel
    intro h
    rw [same h]
    simp [HeadLaw, HeadRecord.initial, HeadState.counts]
  · have no : ∀ h : HeadAddr, ¬(h ∈ State.reset.sensors.due ∨ State.reset.sensors.window = some h) := by decide +kernel
    intro h k
    exact absurd k (no h)
  · decide +kernel

theorem witness_PollsEndInReplyOrMiss :
    (line .valid (some 31) []).powered = true ∧ (line .valid (some 31) [0]).sensors.window = some 31 ∧
      (line .lost (some 31) []).sensors.heads[(31 : HeadAddr)].state = .lost ∧
      (line .lost (some 31) []).sensors.heads[(31 : HeadAddr)].zone = some 0 ∧ 30 ≠ (31 : HeadAddr).val ∧
      (line .holding none []).sensors.heads[(31 : HeadAddr)].hold = some 1 ∧
      (line .holding none []).sensors.heads[(31 : HeadAddr)].state = .holding := by
  decide +kernel

/-- A third miss in a row takes a VALID head to HOLDING; a raw 101 brings a smoothed 99 to 100, and a raw 100 does not; raw readings of 501 and
201 are saturated (R123 to R125). -/
theorem test_poll_limits :
    ((after .replyWindowEnd (line .valid (some 31) [])).sensors.heads[(31 : HeadAddr)].state = .holding ∧
      (after (.headReply 31 .ok 101 0 true) (line .valid (some 31) [])).sensors.heads[(31 : HeadAddr)].co = some 100 ∧
      (after (.headReply 31 .ok 100 (-1) true) (line .valid (some 31) [])).sensors.heads[(31 : HeadAddr)].co = some 99 ∧
      (after (.headReply 31 .drift 501 201 true) (line .lost (some 31) [])).sensors.heads[(31 : HeadAddr)].co = some 500 ∧
      (after (.headReply 31 .drift 501 201 true) (line .lost (some 31) [])).sensors.heads[(31 : HeadAddr)].no2 = some 200) := by
  decide +kernel

/-! ### The fire interface -/

/-- The hall with zone 0's contact input in a state, its confirmation running or not, and its loop resistance. -/
def contactAt (state : ContactState) (confirm : Option Nat) (ohms : Nat) : State :=
  let s := hall.setFire { hall.fire with contacts := hall.fire.contacts.set 0 { state := state, confirm := confirm } }
  { s with pins := { s.pins with loopOhms := s.pins.loopOhms.set 0 ohms } }

theorem witness_ContactInputsAreConfirmed :
    (¬ sameBand 2000 2001 ∧ ¬ sameBand 399 400 ∧ ¬ sameBand 12000 12001 ∧ sameBand 400 2000) ∧
      (contactAt .normal (some 1) 2000).fire.contacts[(0 : Zone)].confirm = some 1 ∧
      (contactAt .normal none 2001).fire.contacts[(0 : Zone)].state ≠ .disabled ∧ ready (contactAt .normal none 2001) ∧
      ready (contactAt .disabled none 2000) ∧ (contactAt .disabled none 2000).fire.contacts[(0 : Zone)].state = .disabled := by
  simp only [ready, sameBand]
  decide +kernel

/-- 400 and 2000 ohms are ALARM; 399, 2001 and 12001 are not (R132). -/
theorem test_contact_bands :
    ([399, 400, 2000, 2001, 12000, 12001].map contactStateFor) =
      [.lineFault, .alarm, .alarm, .normal, .normal, .lineFault] := by decide +kernel

/-- The word of a panel of some zones; the hall with its panel link in a state. -/
def panelWord (zones : Nat) (accept : Bool) : CapabilityWord :=
  { panelId := 250, zoneCount := zones, fireService := true, resetWord := true, accept := accept }

/-- The hall with its panel link in a state, the panel's word heard some times. -/
def linkAt (link : LinkState) (heard : Nat) : State :=
  hall.setFire
    { hall.fire with
      link := link
      heard := if heard = 0 then none else some { word := panelWord 2 false, count := heard }
      hearingTimer := if link = .hearing ∧ heard ≠ 0 then some 1 else none
      stateTimer := if link = .agreeing ∨ link = .checking ∨ link = .backoff then some 1 else none
      supervision := if link = .linked then some 1 else none
      capability := if link = .linked then some (panelWord 2 false) else none }

theorem witness_PanelLinkIsBroughtUp :
    (¬ validWord (panelWord 9 false) ∧ ¬ validWord (panelWord 0 false) ∧ validWord (panelWord 8 false) ∧
        validWord (panelWord 2 true) ∧ agrees (panelWord 2 false) (panelWord 2 true) ∧
        ¬ agrees (panelWord 2 false) (panelWord 3 false)) ∧
      (linkAt .hearing 0).fire.heard = none ∧
      (linkAt .hearing 2).fire.heard = some { word := panelWord 2 false, count := 2 } ∧
      (linkAt .hearing 1).fire.hearingTimer = some 1 ∧ (linkAt .agreeing 3).fire.link = .agreeing ∧
      (linkAt .agreeing 3).fire.heard = some { word := panelWord 2 false, count := 3 } ∧
      (linkAt .checking 3).fire.link = .checking ∧ (linkAt .backoff 0).fire.link = .backoff ∧
      (linkAt .linked 0).fire.link = .linked := by
  simp only [validWord, agrees]
  decide +kernel

theorem witness_FireWordsAndResets :
    (let s := linkAt .linked 0
     s.powered = true ∧ s.fire.link = .linked ∧ s.fire.capability = some (panelWord 2 false) ∧
       (2#8).getLsbD (1 : Zone).val = true ∧ (1 : Zone).val < (panelWord 2 false).zoneCount ∧
       ¬ ((2 : Zone).val < (panelWord 2 false).zoneCount)) ∧
      panelDeclares (linkAt .linked 0) (fun w => w.fireService && decide ((1 : Zone).val < w.zoneCount)) ∧
      ¬ panelDeclares (linkAt .hearing 0) (·.resetWord) ∧ ready hall ∧ hall.fire.link ≠ .linked ∧ ready (linkAt .linked 0) :=
  ⟨by decide +kernel, ⟨by decide +kernel, panelWord 2 false, by decide +kernel, rfl⟩,
    fun h => absurd h.1 (by decide +kernel), by simp only [ready]; decide +kernel⟩

/-! ### The hazard list -/

/-- Some entries of FIRE-INPUT-FAULT and SENSOR-LOST, one of each source from 0, in a state, with ids from 1. -/
def listed (kind : HazardKind) (n first : Nat) (state : HazardState) : List HazardEntry :=
  (List.range n).map fun k => { id := first + k, kind := kind, source := k, state := state, minute := 0 }

/-- The hall with a hazard list that has some entries, every one of them unacknowledged unless ACTIVE-ACK. -/
def listing (entries : List HazardEntry) : State :=
  hall.setHazards { entries := entries, nextId := 65535, unlisted := false, attention := lamp entries false }

/-- 48 entries: a full list, its first entry CLEARED-UNACK. -/
def fullList : List HazardEntry :=
  [{ id := 65535, kind := .fire, source := 0, state := .clearedUnack, minute := 0 }] ++ listed .batteryThermal 47 1 .activeUnack

/-- 48 active entries. -/
def activeList : List HazardEntry := listed .batteryThermal 48 1 .activeAck

theorem listing_law {l : List HazardEntry} (h : l.length ≤ 48) (a : (l.map HazardEntry.id).Nodup)
    (b : ∀ e ∈ l, 1 ≤ e.id ∧ e.id ≤ 65535) (c : (l.map fun e => (e.kind, e.source)).Nodup) :
    HazardLaw (listing l).hazards := by
  refine ⟨h, a, b, c, by simp [listing, State.setHazards], ?_⟩
  simp [listing, State.setHazards, lamp]

theorem fullList_law : HazardLaw (listing fullList).hazards :=
  listing_law (by decide +kernel) (by decide +kernel) (by decide +kernel) (by decide +kernel)

theorem activeList_law : HazardLaw (listing activeList).hazards :=
  listing_law (by decide +kernel) (by decide +kernel) (by decide +kernel) (by decide +kernel)

theorem witness_ReportsChangeHazardEntries :
    hall.powered = true ∧ HazardLaw (listing fullList).hazards ∧ HazardLaw (listing activeList).hazards ∧
      (listing fullList).hazards.entries.length = 48 ∧
      (listing fullList).hazards.entries = [] ++ { id := 65535, kind := .fire, source := 0, state := .clearedUnack, minute := 0 } ::
        listed .batteryThermal 47 1 .activeUnack ∧
      (∀ e ∈ (listing fullList).hazards.entries, ¬(e.kind = .fire ∧ e.source = 1)) ∧
      (∀ e ∈ (listing activeList).hazards.entries, e.state ≠ .clearedUnack ∧ e.kind ≠ .fire) :=
  ⟨rfl, fullList_law, activeList_law, by decide +kernel⟩

/-- The wrap of the next id past one that is held, and the displacement of the oldest entry that is no FIRE (R150, R153). -/
theorem test_hazard_append :
    ((after (.conditionActiveReport .gasHigh 0) (listing (listed .fire 3 1 .activeAck))).hazards.nextId = 1 ∧
      (after (.conditionActiveReport .fire 1) (listing fullList)).hazards.entries.length = 48 ∧
      ((after (.conditionActiveReport .fire 1) (listing activeList)).hazards.entries.head?.map (·.source)) = some 1 ∧
      (after (.conditionActiveReport .fire 1) (listing activeList)).hazards.unlisted = true ∧
      (after (.conditionActiveReport .gasHigh 1) (listing activeList)).hazards.entries = activeList) := by
  decide +kernel

theorem witness_AcknowledgementAndSweep :
    (listing fullList).powered = true ∧ HazardLaw (listing fullList).hazards ∧ ready (listing fullList) ∧
      (listing activeList).hazards.entries = [] ++ { id := 1, kind := .batteryThermal, source := 0, state := .activeAck, minute := 0 } ::
        (listed .batteryThermal 48 1 .activeAck).tail ∧
      ∀ e ∈ (listing fullList).hazards.entries, e.id ≠ 48 :=
  ⟨rfl, fullList_law, by simp only [ready]; decide +kernel⟩

/-! ### Reads and configuration -/

theorem witness_ReadsAnswerAndChangeNothing :
    ready (listing fullList) ∧ 7 < 8 ∧ (7 : Zone).val = 7 ∧ (15 : Chan).val = 15 ∧ (31 : HeadAddr).val = 31 ∧
      hall.gates[(0 : Chan)].inUse = false ∧ hall.gates[(15 : Chan)].inUse = true := by
  simp only [ready]
  decide +kernel

theorem reset_cfgLaw : CfgLaw State.reset.store.cfg := by
  refine ⟨by simp only [CfgWideLaw]; decide +kernel, by simp only [ZoneCfgLaw]; decide +kernel, ?_, ?_⟩
  · simp only [ChanCfgLaw]
    decide +kernel
  · simp only [AdjacencyLaw]
    decide +kernel

theorem storeLaw_of {st : ConfigStore} (h : CfgLaw st.cfg) (a : st.saving = none) (b : st.nv = .blank) (c : st.minute ≤ 1439)
    (d : st.seconds ≤ 59) : StoreLaw st :=
  ⟨h, by simp [a], by simp [b], c, d⟩

theorem reset_storeLaw : StoreLaw State.reset.store := storeLaw_of reset_cfgLaw rfl rfl (by decide) (by decide)

theorem witness_ConfigurationWritesAreChecked :
    writeOf (.floorCeilingWrite .floor 7 65535) = some (31, 7, 65535) ∧ ready State.reset ∧ StoreLaw State.reset.store ∧
      65535 < 65536 ∧ itemOf 31 8 = none ∧ itemOf 31 7 = some (.floorCeiling .floor 7) ∧ namesNothing (.placement .role 15) 768 ∧
      ¬ namesNothing (.placement .role 15) 767 ∧ refusedNow State.reset (.placement .role 15) ∧
      ¬ refusedNow State.reset (.minSpeed 15) ∧ refusedNow yard (.stall .zone 5) ∧ ¬ refusedNow yard (.stall .zone 6) :=
  ⟨by decide +kernel, reset_ready, reset_storeLaw, by simp only [namesNothing, refusedNow]; decide +kernel⟩

theorem witness_WrittenValuesAreClamped :
    writeOf (.floorCeilingWrite .floor 7 65535) = some (31, 7, 65535) ∧ ready State.reset ∧ StoreLaw State.reset.store ∧
      itemOf 31 7 = some (.floorCeiling .floor 7) ∧ ¬ namesNothing (.floorCeiling .floor 7) 65535 ∧
      ¬ refusedNow State.reset (.floorCeiling .floor 7) ∧ plainRange (.minSpeed 15) = some (15, 60) ∧
      writeOf (.adjacencyWrite 0 257) = some (37, 0, 257) ∧ ¬ namesNothing (.adjacency 0) 257 ∧
      ¬ refusedNow (hallWith 15 { FanRecord.initial with state := .service }) (.placement .role 15) ∧
      ¬ namesNothing (.placement .role 15) 512 ∧ ¬ namesNothing (.placement .role 15) 255 ∧ ¬ namesNothing .parking 2 ∧
      ¬ refusedNow State.reset .parking ∧ writeOf (.writeConfig 17 0 2) = some (17, 0, 2) ∧ itemOf 17 0 = some .parking ∧
      writeOf (.channelPlacementWrite .role 15 255) = some (50, 15, 255) :=
  ⟨by decide +kernel, reset_ready, reset_storeLaw, by simp only [namesNothing, refusedNow]; decide +kernel⟩

/-- A role of 0001h is stored as UNUSED, reads 0 and is answered DONE-CLAMPED (log entry 25). -/
theorem test_unused_role_low_byte :
    (let t := after (.channelPlacementWrite .role 15 1) (hallWith 15 { FanRecord.initial with state := .service })
     t.store.cfg.channels[(15 : Chan)].role = .unused ∧ t.port.response.map (·.status) = some .doneClamped) := by
  decide +kernel

/-- A tail of 36 with 900 and 30 steps is a term of 750; a tail of 24 leaves 24 steps and a term of 900 (R7); a floor is written no higher
than its ceiling, and a standby role with an empty reach gets zone 0 (R41, R77). -/
theorem test_configuration_writes :
    (let s := State.reset.setStall 0 { level := 900, steps := 30, occupant := none }
     900 * 30 / 36 = 750 ∧
       (after (.tailLengthWrite 0 24) s).roster.stalls[(0 : StallIdx)] = { level := 900, steps := 24, occupant := none } ∧
       (after (.floorCeilingWrite .floor 7 17000) s).store.cfg.zones[(7 : Zone)].floor = 16000 ∧
       (after (.channelPlacementWrite .role 15 512) (hallWith 15 { FanRecord.initial with state := .service })).store.cfg.channels[
         (15 : Chan)].role = .standby 1) := by
  decide +kernel

theorem witness_ReadSaveAndRestart :
    ready State.reset ∧ itemOf 71 1 = none ∧ itemOf 71 0 = some .lastSave ∧ State.reset.store.saving = none ∧
      ({ State.reset.store with saving := some Cfg.factory } : ConfigStore).saving = some Cfg.factory ∧
      (State.reset.setZone 7 { ZoneUnit.initial 30 with mode := .smokeHold }).zones[(7 : Zone)].mode = .smokeHold ∧
      ∀ z : Zone, State.reset.zones[z].mode = .normal := by
  simp only [ready]
  decide +kernel

/-! ### The laws -/

theorem witness_StepsKeepRosterAndConfigurationLaws :
    ∃ s t, step s = .next t ∧ RosterLaw s ∧ StoreLaw s.store :=
  ⟨{ State.reset with pending := [.arrive 0 1 0 0 255 65535] }, _, rfl, reset_rosterLaw, reset_storeLaw⟩

theorem hall_storeLaw : StoreLaw hall.store := by
  refine storeLaw_of ⟨by simp only [CfgWideLaw]; decide +kernel, by simp only [ZoneCfgLaw]; decide +kernel, ?_, ?_⟩
    (by decide +kernel) (by decide +kernel) (by decide +kernel) (by decide +kernel)
  · simp only [ChanCfgLaw]
    decide +kernel
  · simp only [AdjacencyLaw]
    decide +kernel

theorem witness_StepsKeepFanLaws : ∃ s t, step s = .next t ∧ FansLaw s ∧ StoreLaw s.store :=
  ⟨{ waiting [4, 0, 1] with pending := [.pathCheck 0] }, _, rfl, waiting_law, hall_storeLaw⟩

/-- The starting state with a command waiting keeps every law. -/
theorem witness_StepsKeepBlockLaws : ∃ s t, step s = .next t ∧ Lawful s := by
  refine ⟨{ State.reset with pending := [.fanService 0 1] }, _, rfl, reset_rosterLaw, ?_, ?_, ?_, ?_, ?_, ?_, ?_, ?_,
    reset_storeLaw, ?_⟩
  · simp only [ZoneLaw]; decide +kernel
  · exact fansLaw_of (by simp only [FanLaw]; decide +kernel) (by simp only [QueueLaw]; decide +kernel)
      (by simp only [QueueLaw]; decide +kernel)
  · simp only [DamperLaw]; decide +kernel
  · simp only [GateLaw]; decide +kernel
  · have a : ∀ c : Chan, State.reset.alloc.grants[c] = none := by decide +kernel
    have b : ∀ z : Zone, State.reset.alloc.shortfall[z] = false := by decide +kernel
    exact ⟨by decide +kernel, by decide +kernel, fun c z h => absurd ((a c).symm.trans h) (by simp),
      fun z h => absurd ((b z).symm.trans h) (by simp)⟩
  · exact witness_PollingCycleAppliesZonesAndPolls.1.2
  · simp only [FireLaw]; decide +kernel
  · refine ⟨by decide +kernel, by decide +kernel, by decide +kernel, by decide +kernel, by decide +kernel, by decide +kernel⟩
  · refine ⟨by decide +kernel, fun h => absurd h (by decide +kernel), fun h => absurd h (by decide +kernel)⟩

end Sys2Proof.Tests
end

/-! The check table of the record commands (R10): what the table asks of each command, what the roster answers, and that the two
agree. -/

namespace Sys2Proof.Machine

/-! ### The first check that fails -/

/-- A check that fails gives the answer, and one that passes leaves it to the rest. -/
theorem firstFault_cons (b : Bool) (status : Status) (l : List (Bool × Status)) :
    firstFault ((b, status) :: l) = if b = true then some status else firstFault l := by
  cases b <;> rfl

/-- Two lists of checks with the same first check agree, if what follows agrees once that check has passed. -/
theorem firstFault_congr {b c : Bool} {status : Status} {l m : List (Bool × Status)} (h : b = c)
    (rest : b = false → firstFault l = firstFault m) : firstFault ((b, status) :: l) = firstFault ((c, status) :: m) := by
  subst h
  cases b
  · exact rest rfl
  · rfl

/-- There is no fault where every check passes. -/
theorem firstFault_cons_eq_none {b : Bool} {status : Status} {l : List (Bool × Status)} :
    firstFault ((b, status) :: l) = none ↔ b = false ∧ firstFault l = none := by
  cases b <;> simp [firstFault_cons]

/-- The table's answer is the first fault of its rows, read in their order. -/
theorem tableFault_eq_firstFault (i : Instr) (s : State) :
    tableFault i s = firstFault (checkTable.map fun row => (row.2 i s, row.1)) := by
  unfold tableFault
  induction checkTable with
  | nil => rfl
  | cons row rows ih =>
    rw [List.map_cons, firstFault_cons, List.find?_cons]
    cases row.2 i s
    · simpa using ih
    · simp

/-! ### The rows of the table that concern each command -/

section Rows

variable {s : State} {label : Nat} {k : StallIdx}

/-- The label check is the first check of every command that carries a label (R1). -/
theorem tableFault_outOfWindow {i : Instr} (named : labelOf i = some label) (h : stallOfLabel s.store.cfg label = none) :
    tableFault i s = some .stallOutOfWindow := by
  simp [tableFault_eq_firstFault, checkTable, firstFault_cons, named, h]

theorem tableFault_arrive {tag cls act charger departure : Nat} (h : stallOfLabel s.store.cfg label = some k) :
    tableFault (.arrive label tag cls act charger departure) s =
      firstFault
        [(tag == 0 || tag == 65535, .badTag), (rangeFault (.arrive label tag cls act charger departure), .fieldRange),
         (!s.store.cfg.stalls[k].enabled, .stallDisabled), ((recordAt s k).isSome, .stallOccupied), (tagHeld s tag, .tagInUse),
         (foreignActivity cls act || (charger != 255 && cls != 3), .classMismatch)] := by
  simp [tableFault_eq_firstFault, checkTable, labelOf, tagOf, atStall, classFault, h, firstFault_cons]

theorem tableFault_relocate {tag : Nat} (h : stallOfLabel s.store.cfg label = some k) :
    tableFault (.relocate tag label) s =
      firstFault
        [(tag == 0 || tag == 65535, .badTag), (!tagHeld s tag, .tagUnknown),
         (!s.store.cfg.stalls[k].enabled, .stallDisabled), ((recordAt s k).isSome, .stallOccupied)] := by
  simp [tableFault_eq_firstFault, checkTable, labelOf, tagOf, atStall, rangeFault, classFault, h, firstFault_cons]

theorem tableFault_activity {act : Nat} (h : stallOfLabel s.store.cfg label = some k) :
    tableFault (.activity label act) s =
      firstFault
        [(decide (4 < act), .fieldRange), ((recordAt s k).isNone, .stallVacant),
         (((recordAt s k).map fun o => foreignActivity o.cls.code act).getD false, .classMismatch),
         ((recordAt s k).any fun o => o.activity == .thermalWatch && act == 3, .badTransition)] := by
  simp [tableFault_eq_firstFault, checkTable, labelOf, tagOf, atStall, rangeFault, classFault, h, firstFault_cons]

theorem tableFault_renew (h : stallOfLabel s.store.cfg label = some k) :
    tableFault (.renew label) s =
      firstFault
        [((recordAt s k).isNone, .stallVacant),
         ((recordAt s k).any fun o => o.activity != .engineRun && o.activity != .warmUp, .notRunning)] := by
  simp [tableFault_eq_firstFault, checkTable, labelOf, tagOf, atStall, rangeFault, classFault, h, firstFault_cons]

theorem tableFault_setDeparture {departure : Nat} (h : stallOfLabel s.store.cfg label = some k) :
    tableFault (.setDeparture label departure) s =
      firstFault [(badDeparture departure, .fieldRange), ((recordAt s k).isNone, .stallVacant)] := by
  simp [tableFault_eq_firstFault, checkTable, labelOf, tagOf, atStall, rangeFault, classFault, badDeparture, h, firstFault_cons]

theorem tableFault_depart (h : stallOfLabel s.store.cfg label = some k) :
    tableFault (.depart label) s = firstFault [((recordAt s k).isNone, .stallVacant)] := by
  simp [tableFault_eq_firstFault, checkTable, labelOf, tagOf, atStall, rangeFault, classFault, h, firstFault_cons]

theorem tableFault_readStall (h : stallOfLabel s.store.cfg label = some k) : tableFault (.readStall label) s = none := by
  simp [tableFault_eq_firstFault, checkTable, labelOf, tagOf, rangeFault, classFault, h, firstFault]

theorem tableFault_walkFirst (h : stallOfLabel s.store.cfg label = some k) : tableFault (.walkFirst label) s = none := by
  simp [tableFault_eq_firstFault, checkTable, labelOf, tagOf, rangeFault, classFault, h, firstFault]

theorem tableFault_findTag (tag : Nat) :
    tableFault (.findTag tag) s = firstFault [(tag == 0 || tag == 65535, .badTag), (!tagHeld s tag, .tagUnknown)] := by
  simp [tableFault_eq_firstFault, checkTable, labelOf, tagOf, rangeFault, classFault, firstFault_cons]

end Rows

/-! ### The checks of the roster and the faults of the table -/

/-- A tag that a two-byte field carries names no vehicle at 0 and at FFFFh alone. -/
theorem badTag_eq {tag : Nat} (h : fitsWord tag = true) : badTag tag = (tag == 0 || tag == 65535) := by
  have : tag < 65536 := by simpa [fitsWord] using h
  rw [badTag, Bool.eq_iff_iff]
  simp only [Bool.or_eq_true, beq_iff_eq, decide_eq_true_eq]
  omega

/-- The tag of a well-formed command is a two-byte field. -/
theorem fitsWord_of_tagOf {i : Instr} {tag : Nat} (named : tagOf i = some tag) (h : i.wellFormed = true) :
    fitsWord tag = true := by
  unfold tagOf at named
  split at named <;> simp_all [Instr.wellFormed]

/-- A tag is held exactly where a stall is found for it. -/
theorem stallOfTag_isSome (s : State) (tag : Nat) : (stallOfTag s tag).isSome = tagHeld s tag := by
  unfold stallOfTag tagHeld
  rw [Bool.eq_iff_iff, List.find?_isSome, List.any_eq_true]
  refine exists_congr fun k => and_congr_right fun _ => ?_
  unfold recordAt
  cases s.roster.stalls[k].occupant <;> simp

theorem classOfCode_isNone (cls : Nat) : (classOfCode cls).isNone = decide (3 < cls) :=
  match cls with
  | 0 | 1 | 2 | 3 => rfl
  | n + 4 => by simp [classOfCode]

theorem activityOfCode_isNone (act : Nat) : (activityOfCode act).isNone = decide (4 < act) :=
  match act with
  | 0 | 1 | 2 | 3 | 4 => rfl
  | n + 5 => by simp [activityOfCode]

theorem code_of_classOfCode {cls : Nat} {c : VehicleClass} (h : classOfCode cls = some c) : cls = c.code := by
  unfold classOfCode at h
  split at h <;> cases h <;> rfl

theorem code_of_activityOfCode {act : Nat} {a : Activity} (h : activityOfCode act = some a) : act = a.code := by
  unfold activityOfCode at h
  split at h <;> cases h <;> rfl

/-- A class has no such activity exactly where it may not hold it (R12). -/
theorem foreignActivity_code (c : VehicleClass) (a : Activity) : foreignActivity c.code a.code = !mayHold c a := by
  cases c <;> cases a <;> rfl

theorem badCharger_eq (charger : Nat) : badCharger charger = (charger != 255 && (charger == 0 || decide (48 < charger))) := by
  rw [badCharger, Bool.eq_iff_iff]
  simp

/-- Between two activities its class may hold, a record is kept from one change alone: THERMAL-WATCH to CHARGING (R12). -/
theorem mayChange_of_mayHold {c : VehicleClass} {old new : Activity} (h : mayHold c old = true) (k : mayHold c new = true) :
    (old != new && !mayChange c old new) = (old == .thermalWatch && new.code == 3) := by
  unfold mayChange
  rw [h, k]
  cases old <;> cases new <;> rfl

/-- The activities in which no allowance runs (R14). -/
theorem notRunning_eq (a : Activity) : (a != .engineRun && a != .warmUp) = !a.isRunning := by
  cases a <;> rfl

/-- ARRIVE checks what the table asks of it (R18). -/
theorem tableFault_eq_arriveFault {s : State} {label tag cls act charger departure : Nat} {k : StallIdx}
    (word : fitsWord tag = true) (h : stallOfLabel s.store.cfg label = some k) :
    tableFault (.arrive label tag cls act charger departure) s = arriveFault s k tag cls act charger departure := by
  have range : rangeFault (.arrive label tag cls act charger departure) =
      ((classOfCode cls).isNone || (activityOfCode act).isNone || badDeparture departure || badCharger charger) := by
    rw [classOfCode_isNone, activityOfCode_isNone, badCharger_eq]
    rfl
  rw [tableFault_arrive h]
  unfold arriveFault
  refine firstFault_congr (badTag_eq word).symm fun _ => firstFault_congr range fun inRange => firstFault_congr rfl fun _ =>
    firstFault_congr rfl fun _ => firstFault_congr (stallOfTag_isSome s tag).symm fun _ => firstFault_congr ?_ fun _ => rfl
  rw [range] at inRange
  cases hc : classOfCode cls with
  | none => simp [hc] at inRange
  | some c =>
    cases ha : activityOfCode act with
    | none => simp [ha] at inRange
    | some a =>
      rw [code_of_classOfCode hc, code_of_activityOfCode ha, foreignActivity_code]
      cases c <;> rfl

/-- RELOCATE checks what the table asks of it (R19). -/
theorem tableFault_eq_relocateFault {s : State} {label tag : Nat} {k : StallIdx} (word : fitsWord tag = true)
    (h : stallOfLabel s.store.cfg label = some k) : tableFault (.relocate tag label) s = relocateFault s tag k := by
  rw [tableFault_relocate h, ← badTag_eq word, ← stallOfTag_isSome, Option.not_isSome]
  rfl

/-- ACTIVITY checks what the table asks of it, where the class of every record may hold its activity (R12, R13). -/
theorem tableFault_eq_activityFault {s : State} {label act : Nat} {k : StallIdx} (h : stallOfLabel s.store.cfg label = some k)
    (held : ∀ o, recordAt s k = some o → mayHold o.cls o.activity = true) :
    tableFault (.activity label act) s = activityFault s k act := by
  rw [tableFault_activity h]
  unfold activityFault
  refine firstFault_congr (activityOfCode_isNone act).symm fun inRange => firstFault_congr rfl fun there => ?_
  obtain ⟨o, ho⟩ := Option.isSome_iff_exists.mp (by simpa using there)
  obtain ⟨a, ha⟩ : ∃ a, activityOfCode act = some a :=
    Option.isSome_iff_exists.mp (by simpa [activityOfCode_isNone, ← Option.not_isNone] using inRange)
  have occupant : s.roster.stalls[k].occupant = some o := ho
  rw [ho, occupant, ha, code_of_activityOfCode ha]
  refine firstFault_congr (foreignActivity_code o.cls a) fun allowed => firstFault_congr ?_ fun _ => rfl
  have may : mayHold o.cls a = true := by simpa [foreignActivity_code] using allowed
  exact (mayChange_of_mayHold (held o ho) may).symm

/-! ### What the roster answers -/

/-- A command carried out leaves the port to the link, and is answered DONE, or END-OF-ROSTER for a walk that finds no stall. -/
def CarriedOut (i : Instr) (s : State) (r : State × Status × List Byte) : Prop :=
  r.1.port = s.port ∧ (r.2.1 = .done ∨ r.2.1 = .endOfRoster ∧ ∃ label, i = .walkFirst label)

/-- An answer agrees with the table: a fault is refused with its status, and a command without one is carried out. -/
def FollowsTable (i : Instr) (s : State) (r : State × Status × List Byte) : Prop :=
  (∀ status, tableFault i s = some status → r = refuse s status) ∧ (tableFault i s = none → CarriedOut i s r)

theorem followsTable_refuse {i : Instr} {s : State} {status : Status} (h : tableFault i s = some status) :
    FollowsTable i s (refuse s status) := by
  simp [FollowsTable, h]

theorem followsTable_of_carriedOut {i : Instr} {s : State} {r : State × Status × List Byte} (h : tableFault i s = none)
    (done : CarriedOut i s r) : FollowsTable i s r := by
  simp [FollowsTable, h, done]

theorem followsTable_answerStall {i : Instr} {s t : State} {k : StallIdx} (h : tableFault i s = none) (port : t.port = s.port) :
    FollowsTable i s (answerStall t k) :=
  followsTable_of_carriedOut h ⟨port, .inl rfl⟩

/-- A command that names a stall outside the window is refused, and is otherwise answered for the stall (R1). -/
theorem followsTable_atLabel {i : Instr} {s : State} {label : Nat} {answer : StallIdx → State × Status × List Byte}
    (named : labelOf i = some label) (h : ∀ k, stallOfLabel s.store.cfg label = some k → FollowsTable i s (answer k)) :
    FollowsTable i s
      (match stallOfLabel s.cfg label with
       | none => refuse s .stallOutOfWindow
       | some k => answer k) := by
  cases found : stallOfLabel s.cfg label with
  | none => exact followsTable_refuse (tableFault_outOfWindow named found)
  | some k => exact h k found

/-- A command that needs a record is refused at a vacant stall, and is otherwise answered for the record. -/
theorem followsTable_atRecord {i : Instr} {s : State} {k : StallIdx} {answer : Occupant → State × Status × List Byte}
    (vacant : recordAt s k = none → tableFault i s = some .stallVacant)
    (h : ∀ o, recordAt s k = some o → FollowsTable i s (answer o)) :
    FollowsTable i s
      (match s.roster.stalls[k].occupant with
       | none => refuse s .stallVacant
       | some o => answer o) := by
  cases record : s.roster.stalls[k].occupant with
  | none => exact followsTable_refuse (vacant record)
  | some o => exact h o record

@[simp] theorem requestZoneOf_port (s : State) (i : StallIdx) : (requestZoneOf s i).port = s.port := rfl

@[simp] theorem reportThermal_port (s : State) (i : StallIdx) (before after : Bool) :
    (reportThermal s i before after).port = s.port :=
  reportChange_onlyChanges s before after .batteryThermal i.val .port (by simp)

@[simp] theorem moveRecord_port (s : State) (i j : StallIdx) : (moveRecord s i j).port = s.port := by
  simp [moveRecord]

@[simp] theorem takeActivity_port (s : State) (i : StallIdx) (o : Occupant) (a : Activity) :
    (takeActivity s i o a).port = s.port := by
  unfold takeActivity
  split <;> simp

/-- ARRIVE without a fault names a class and an activity (R10, step 3). -/
theorem codes_of_arriveFault {s : State} {k : StallIdx} {tag cls act charger departure : Nat}
    (h : arriveFault s k tag cls act charger departure = none) :
    ∃ c a, classOfCode cls = some c ∧ activityOfCode act = some a := by
  unfold arriveFault at h
  obtain ⟨-, h⟩ := firstFault_cons_eq_none.mp h
  obtain ⟨range, -⟩ := firstFault_cons_eq_none.mp h
  simp only [Bool.or_eq_false_iff, Option.isNone_eq_false_iff, Option.isSome_iff_exists] at range
  obtain ⟨⟨⟨⟨c, hc⟩, a, ha⟩, -⟩, -⟩ := range
  exact ⟨c, a, hc, ha⟩

/-- ACTIVITY without a fault finds a record and names an activity (R10, steps 3 and 7). -/
theorem record_of_activityFault {s : State} {k : StallIdx} {act : Nat} (h : activityFault s k act = none) :
    ∃ o a, s.roster.stalls[k].occupant = some o ∧ activityOfCode act = some a := by
  unfold activityFault at h
  obtain ⟨named, h⟩ := firstFault_cons_eq_none.mp h
  obtain ⟨there, -⟩ := firstFault_cons_eq_none.mp h
  obtain ⟨a, ha⟩ := Option.isSome_iff_exists.mp (Option.isNone_eq_false_iff.mp named)
  obtain ⟨o, ho⟩ := Option.isSome_iff_exists.mp (Option.isNone_eq_false_iff.mp there)
  exact ⟨o, a, ho, ha⟩

section Answers

variable {s : State} {label tag : Nat}

theorem arriveAt_followsTable {cls act charger departure : Nat} (word : fitsWord tag = true) :
    FollowsTable (.arrive label tag cls act charger departure) s (arriveAt s label tag cls act charger departure) := by
  refine followsTable_atLabel rfl fun k h => ?_
  have table := tableFault_eq_arriveFault (cls := cls) (act := act) (charger := charger) (departure := departure) word h
  cases fault : arriveFault s k tag cls act charger departure with
  | some status => exact followsTable_refuse (table.trans fault)
  | none =>
    obtain ⟨c, a, hc, ha⟩ := codes_of_arriveFault fault
    rw [hc, ha]
    exact followsTable_answerStall (table.trans fault) (by simp)

theorem relocateTo_followsTable (word : fitsWord tag = true) :
    FollowsTable (.relocate tag label) s (relocateTo s tag label) := by
  refine followsTable_atLabel rfl fun k h => ?_
  have table := tableFault_eq_relocateFault word h
  cases fault : relocateFault s tag k with
  | some status => exact followsTable_refuse (table.trans fault)
  | none =>
    cases held : stallOfTag s tag with
    | none => simp [relocateFault, firstFault_cons_eq_none, held] at fault
    | some i => exact followsTable_answerStall (table.trans fault) (moveRecord_port s i k)

theorem activityAt_followsTable {act : Nat} (held : ∀ k o, recordAt s k = some o → mayHold o.cls o.activity = true) :
    FollowsTable (.activity label act) s (activityAt s label act) := by
  refine followsTable_atLabel rfl fun k h => ?_
  have table := tableFault_eq_activityFault (act := act) h (held k)
  cases fault : activityFault s k act with
  | some status => exact followsTable_refuse (table.trans fault)
  | none =>
    obtain ⟨o, a, ho, ha⟩ := record_of_activityFault fault
    rw [ho, ha]
    exact followsTable_answerStall (table.trans fault) (takeActivity_port s k o a)

theorem renewAt_followsTable : FollowsTable (.renew label) s (renewAt s label) := by
  refine followsTable_atLabel rfl fun k h => ?_
  have table := tableFault_renew h
  refine followsTable_atRecord (fun vacant => by simp [table, vacant, firstFault]) fun o occupied => ?_
  rw [occupied] at table
  split
  · next running => exact followsTable_answerStall (by simp [table, notRunning_eq, running, firstFault]) (by simp)
  · next stopped => exact followsTable_refuse (by simp [table, notRunning_eq, stopped, firstFault])

theorem setDepartureAt_followsTable {departure : Nat} :
    FollowsTable (.setDeparture label departure) s (setDepartureAt s label departure) := by
  refine followsTable_atLabel rfl fun k h => ?_
  have table := tableFault_setDeparture (departure := departure) h
  split
  · next bad => exact followsTable_refuse (by simp [table, bad, firstFault])
  · next good =>
    refine followsTable_atRecord (fun vacant => by simp [table, good, vacant, firstFault]) fun o occupied => ?_
    exact followsTable_answerStall (by simp [table, good, occupied, firstFault]) (by simp)

theorem departAt_followsTable : FollowsTable (.depart label) s (departAt s label) := by
  refine followsTable_atLabel rfl fun k h => ?_
  have table := tableFault_depart h
  refine followsTable_atRecord (fun vacant => by simp [table, vacant, firstFault]) fun o occupied => ?_
  exact followsTable_answerStall (by simp [table, occupied, firstFault]) (by simp)

theorem readStallAt_followsTable : FollowsTable (.readStall label) s (readStallAt s label) :=
  followsTable_atLabel rfl fun _ h => followsTable_answerStall (tableFault_readStall h) rfl

theorem findTagIn_followsTable (word : fitsWord tag = true) : FollowsTable (.findTag tag) s (findTagIn s tag) := by
  have table := tableFault_findTag (s := s) tag
  rw [← badTag_eq word, ← stallOfTag_isSome] at table
  unfold findTagIn
  split
  · next bad => exact followsTable_refuse (by simp [table, bad, firstFault])
  · next good =>
    cases held : stallOfTag s tag with
    | none => exact followsTable_refuse (by simp [table, good, held, firstFault])
    | some k => exact followsTable_answerStall (by simp [table, good, held, firstFault]) rfl

theorem walkFirstFrom_followsTable : FollowsTable (.walkFirst label) s (walkFirstFrom s label) := by
  refine followsTable_atLabel rfl fun k h => ?_
  cases firstOccupied s k.val with
  | none => exact followsTable_of_carriedOut (tableFault_walkFirst h) ⟨rfl, .inr ⟨rfl, label, rfl⟩⟩
  | some i => exact followsTable_answerStall (tableFault_walkFirst h) rfl

end Answers

/-! ### The answer on the link -/

/-- The claim of R10 for one command in one state. -/
def AnsweredByTable (i : Instr) (s : State) : Prop :=
  (∀ status, tableFault i s = some status →
    ∃ t code, exec i s = .next t ∧ answering s t code status [] ∧ sent i s t [.responseSent] ∧
      onlyChanges [.port, .inFlight] s t) ∧
  (tableFault i s = none →
    ∃ t code status payload, exec i s = .next t ∧ answering s t code status payload ∧
      (status = .done ∨ status = .endOfRoster ∧ ∃ label, i = .walkFirst label))

/-- A request whose effect follows the table is answered as the table says, at a module ready for it. -/
theorem answeredByTable_of_followsTable {i : Instr} {code : Nat} {s : State} {f : State → State × Status × List Byte}
    (run : exec i s = onRequest i code s f) (accepts : ready s) (h : FollowsTable i (s.taken i) (f (s.taken i))) :
    AnsweredByTable i s := by
  obtain ⟨power, accept⟩ := ready_iff_canAccept.mp accepts
  have next := run.trans ((onRequest_eq_next_iff power).mpr (.inl ⟨accept, rfl⟩))
  obtain ⟨refused, carriedOut⟩ := h
  refine ⟨fun status fault => ?_, fun fault => ?_⟩
  · rw [refused status fault] at next
    have frame := onlyChanges_mono (Q := [.port, .inFlight]) (taken_onlyChanges s i) (by simp)
    exact ⟨_, code, next, rfl, rfl, onlyChanges_trans frame (respond_onlyChanges _ _)⟩
  · obtain ⟨port, answer⟩ := carriedOut fault
    refine ⟨_, code, _, (f (s.taken i)).2.2, next, ?_, answer⟩
    simp [answering, State.respond, port]

/-- In a lawful roster every record is in an activity its class may hold (R12). -/
theorem mayHold_of_rosterLaw {s : State} (h : RosterLaw s) (k : StallIdx) (o : Occupant) (there : recordAt s k = some o) :
    mayHold o.cls o.activity = true := by
  obtain ⟨-, occupants, -⟩ := h
  obtain ⟨-, may, -⟩ := occupants k o there
  exact may

/-- Settles O15: every record command's effect follows the table. -/
theorem recordCommandsAreChecked : Obligations.RecordCommandsAreChecked := by
  intro i s record word accepts law
  cases i with
  | arrive label tag cls act charger departure =>
    exact answeredByTable_of_followsTable (f := fun s => arriveAt s label tag cls act charger departure) rfl accepts
      (arriveAt_followsTable (fitsWord_of_tagOf rfl word))
  | relocate tag label =>
    exact answeredByTable_of_followsTable (f := fun s => relocateTo s tag label) rfl accepts
      (relocateTo_followsTable (fitsWord_of_tagOf rfl word))
  | activity label act =>
    exact answeredByTable_of_followsTable (f := fun s => activityAt s label act) rfl accepts
      (activityAt_followsTable (mayHold_of_rosterLaw law))
  | renew label =>
    exact answeredByTable_of_followsTable (f := fun s => renewAt s label) rfl accepts
      renewAt_followsTable
  | setDeparture label departure =>
    exact answeredByTable_of_followsTable (f := fun s => setDepartureAt s label departure) rfl accepts
      setDepartureAt_followsTable
  | depart label =>
    exact answeredByTable_of_followsTable (f := fun s => departAt s label) rfl accepts
      departAt_followsTable
  | readStall label =>
    exact answeredByTable_of_followsTable (f := fun s => readStallAt s label) rfl accepts
      readStallAt_followsTable
  | findTag tag =>
    exact answeredByTable_of_followsTable (f := fun s => findTagIn s tag) rfl accepts
      (findTagIn_followsTable (fitsWord_of_tagOf rfl word))
  | walkFirst label =>
    exact answeredByTable_of_followsTable (f := fun s => walkFirstFrom s label) rfl accepts
      walkFirstFrom_followsTable
  | _ => cases record

end Sys2Proof.Machine

/-! Polls of the sensor line (R122 to R126): how the model's readings, records and conditions are those of the manual, what each operation of
the line leaves and sends, and how a poll or a hold timer ends. -/

namespace Sys2Proof.Machine

open State

/-! ### Readings, levels and records -/

/-- The saturation of the model is the manual's (R123). -/
theorem saturate_eq_saturated (limit : Nat) (raw : Int) : saturate limit raw = saturated limit raw := by
  unfold saturate saturated
  split
  · next negative => simp [Int.toNat_of_nonpos (le_of_lt negative)]
  · rfl

theorem HeadState.counts_iff (state : HeadState) : state.counts = true ↔ state = .valid ∨ state = .holding := by
  cases state <;> simp [HeadState.counts]

theorem HeadState.not_counts_iff (state : HeadState) : state.counts = false ↔ state = .waiting ∨ state = .lost := by
  cases state <;> simp [HeadState.counts]

theorem HeadRecord.lost_iff (r : HeadRecord) : r.lost = true ↔ r.state = .lost := by simp [HeadRecord.lost]

/-- A head that does not count is seeded, and one that counts is smoothed (R124). -/
theorem smooth_eq_smoothedTo (r : HeadRecord) (old : Option Nat) (reading : Nat) :
    smooth (!r.state.counts) old reading = smoothedTo r old reading := by
  unfold smoothedTo
  split
  · next counting =>
    rw [(HeadState.counts_iff _).mpr counting]
    cases old <;> rfl
  · next seeded =>
    rw [Bool.eq_false_iff.mpr fun counting => seeded ((HeadState.counts_iff _).mp counting)]
    rfl

theorem crosses_iff (level : Nat) (before after : Option Nat) :
    crosses level before after = true ↔ crossed level before after := by
  cases before <;> cases after <;> simp [crosses, crossed]

/-- An update of a head's values crosses one of the four levels (R129). -/
theorem crossesAny_iff (cfg : Cfg) (before after : HeadRecord) :
    crossesAny cfg before after = true ↔
      crossed cfg.coHigh before.co after.co ∨ crossed cfg.coClear before.co after.co ∨
        crossed cfg.no2High before.no2 after.no2 ∨ crossed cfg.no2Clear before.no2 after.no2 := by
  simp [crossesAny, crosses_iff, or_assoc]

/-- The record a good reply leaves is the manual's (R122 to R125). -/
theorem goodRecord_eq_goodReplyRecord (s : State) (h : HeadAddr) (drift : Bool) (rawCo rawNo2 : Int) :
    goodRecord s.store.minute s.sensors.heads[h] (if drift then .drift else .ok) rawCo rawNo2 =
      goodReplyRecord s h drift rawCo rawNo2 := by
  have flag : ((if drift then .drift else .ok : ReplyStatus) == .drift) = drift := by cases drift <;> rfl
  simp only [goodRecord, goodReplyRecord, saturate_eq_saturated, smooth_eq_smoothedTo, flag, Config.holdSeconds]

/-- The record a miss leaves is the manual's: a count held at 255 has reached 3 exactly where the count itself has (R122, R125). -/
theorem missRecord_eq_missedRecord (r : HeadRecord) (status : Option ReplyStatus) : missRecord r status = missedRecord r status := by
  have third : Config.missesToHold ≤ min 255 (r.misses + 1) ↔ 3 ≤ r.misses + 1 := by
    unfold Config.missesToHold
    omega
  simp only [missRecord, missedRecord, third]

/-! ### Conditions of a zone -/

/-- The model's test of a blind zone is the manual's (R131). -/
theorem blind_iff_isBlind (l : SensorLine) (z : Zone) : blind l.heads z = true ↔ isBlind l z := by
  simp only [blind, allHeads, Bool.and_eq_true, Bool.not_eq_true', List.isEmpty_eq_false_iff_exists_mem, List.mem_filter,
    List.mem_finRange, true_and, beq_iff_eq, List.all_eq_true, HeadRecord.lost_iff]
  rfl

/-- The line with a head's record replaced. -/
def SensorLine.withHead (l : SensorLine) (h : HeadAddr) (r : HeadRecord) : SensorLine := { l with heads := l.heads.set h r }

theorem heads_set_self (heads : Vector HeadRecord 32) (h : HeadAddr) (r : HeadRecord) : (heads.set h r)[h] = r :=
  Vector.getElem_set_self _

/-- A zone with a head that is not LOST is not blind (R131). -/
theorem blind_withHead_eq_false (l : SensorLine) (h : HeadAddr) {r : HeadRecord} {z : Zone} (own : r.zone = some z)
    (sees : r.state ≠ .lost) : blind (l.withHead h r).heads z = false := by
  refine Bool.eq_false_iff.mpr fun dark => sees ?_
  obtain ⟨-, all⟩ := (blind_iff_isBlind _ z).mp dark
  have lost := all h
  rw [SensorLine.withHead, heads_set_self] at lost
  exact lost own

/-- The ZONE-BLIND conditions once that of a head's zone, if it has one, is assessed again (R131). -/
def blindAssessed (l : SensorLine) : Option Zone → Vector Bool 8
  | some z => l.zoneBlind.set z (blind l.heads z)
  | none => l.zoneBlind

/-- What that assessment reports (R131, R148). -/
def blindReports (l : SensorLine) : Option Zone → List Instr
  | some z =>
    if l.zoneBlind[z] = blind l.heads z then []
    else if blind l.heads z = true then [.conditionActiveReport .zoneBlind z.val] else [.conditionClearReport .zoneBlind z.val]
  | none => []

theorem blindAssessed_some (l : SensorLine) (z : Zone) : (blindAssessed l (some z))[z] = blind l.heads z := by
  simp [blindAssessed]

theorem reassess_eq (s : State) (zone : Option Zone) :
    reassess s zone =
      (s.setSensors { s.sensors with zoneBlind := blindAssessed s.sensors zone }).emit (blindReports s.sensors zone) := by
  cases zone with
  | none => simp [reassess, blindAssessed, blindReports, setSensors]
  | some z =>
    simp only [reassess, reassessZone, reportChange, report, blindAssessed, blindReports]
    split
    · simp
    · split <;> rfl

/-- ZONE-BLIND that ends is reported clear. -/
theorem clear_mem_blindReports {l : SensorLine} {z : Zone} (before : l.zoneBlind[z] = true) (now : blind l.heads z = false) :
    .conditionClearReport .zoneBlind z.val ∈ blindReports l (some z) := by
  simp [blindReports, before, now]

/-- ZONE-BLIND that begins is reported active. -/
theorem active_mem_blindReports {l : SensorLine} {z : Zone} (before : l.zoneBlind[z] = false) (now : blind l.heads z = true) :
    .conditionActiveReport .zoneBlind z.val ∈ blindReports l (some z) := by
  simp [blindReports, before, now]

/-- An assessment reports conditions alone. -/
theorem condition_of_mem_blindReports {l : SensorLine} {zone : Option Zone} {i : Instr} (h : i ∈ blindReports l zone) :
    ∃ kind source, i = .conditionActiveReport kind source ∨ i = .conditionClearReport kind source := by
  unfold blindReports at h
  split at h
  · split at h
    · cases h
    · split at h <;> simp_all
  · cases h

/-- The request to evaluate that goes to a head's zone, if it has one (R129). -/
def zoneRequests (zone : Option Zone) : List Instr := zone.toList.map .evaluationRequest

theorem evaluationRequest_mem_zoneRequests {z : Zone} {zone : Option Zone} :
    .evaluationRequest z ∈ zoneRequests zone ↔ zone = some z := by
  simp [zoneRequests]

theorem headPoll_notMem_zoneRequests (zone : Option Zone) : .headPoll ∉ zoneRequests zone := by
  simp [zoneRequests]

theorem requestZone_eq (s : State) (zone : Option Zone) : requestZone s zone = s.emit (zoneRequests zone) := by
  cases zone <;> simp [requestZone, zoneRequests]

/-! ### The operations of a poll -/

/-- What a good reply leaves of the ZONE-BLIND conditions: a LOST head that returns has its zone assessed again (R125, R131). -/
def blindAfterGood (l : SensorLine) (h : HeadAddr) (before after : HeadRecord) : Vector Bool 8 :=
  if before.state = .lost then blindAssessed (l.withHead h after) before.zone else l.zoneBlind

/-- What a good reply sends: the conditions it clears, and the request to the head's zone (R125, R129). -/
def goodReplySends (cfg : Cfg) (l : SensorLine) (h : HeadAddr) (before after : HeadRecord) : List Instr :=
  (if before.state = .lost then
    [.conditionClearReport .sensorLost h.val] ++ blindReports (l.withHead h after) before.zone
  else []) ++
    if !before.state.counts || crossesAny cfg before after then zoneRequests before.zone else []

theorem takeGood_eq (s : State) (h : HeadAddr) (drift : Bool) (rawCo rawNo2 : Int) :
    let before := s.sensors.heads[h]
    let after := goodReplyRecord s h drift rawCo rawNo2
    takeGood s h (if drift then .drift else .ok) rawCo rawNo2 =
      (s.setSensors { s.sensors.withHead h after with zoneBlind := blindAfterGood s.sensors h before after }).emit
        (goodReplySends s.store.cfg s.sensors h before after) := by
  simp only [takeGood, blindAfterGood, goodReplySends, goodRecord_eq_goodReplyRecord, reassess_eq, requestZone_eq, HeadRecord.lost_iff,
    report, cfg, ← emit_emit]
  split <;> split <;> simp only [emit_nil, ← emit_emit] <;> rfl

theorem takeMiss_eq (s : State) (h : HeadAddr) (status : Option ReplyStatus) :
    takeMiss s h status = s.setSensors (s.sensors.withHead h (missedRecord s.sensors.heads[h] status)) := by
  rw [takeMiss, missRecord_eq_missedRecord]
  rfl

/-- The poll that follows a transaction, if a head is still due (R121). -/
def nextPoll (due : List HeadAddr) : List Instr := if due = [] then [] else [.headPoll]

theorem headPoll_mem_nextPoll {due : List HeadAddr} : .headPoll ∈ nextPoll due ↔ due ≠ [] := by
  unfold nextPoll
  split <;> simp_all

theorem evaluationRequest_notMem_nextPoll (due : List HeadAddr) (z : Zone) : .evaluationRequest z ∉ nextPoll due := by
  unfold nextPoll
  split <;> simp

theorem endTransaction_eq (s : State) :
    endTransaction s = (s.setSensors { s.sensors with window := none }).emit (nextPoll s.sensors.due) := by
  unfold endTransaction followPoll nextPoll
  cases h : s.sensors.due <;> simp [h]

theorem loseHead_eq {s : State} {h : HeadAddr} (counting : s.sensors.heads[h].state.counts = true) :
    let zone := s.sensors.heads[h].zone
    let lost := s.sensors.withHead h { s.sensors.heads[h] with state := .lost, hold := none }
    loseHead s h =
      (s.setSensors { lost with zoneBlind := blindAssessed lost zone }).emit
        (.conditionActiveReport .sensorLost h.val :: (blindReports lost zone ++ zoneRequests zone)) := by
  intro zone lost
  have reports : .conditionActiveReport .sensorLost h.val :: (blindReports lost zone ++ zoneRequests zone) =
      ([.conditionActiveReport .sensorLost h.val] ++ blindReports lost zone) ++ zoneRequests zone := rfl
  simp only [loseHead, counting, if_true, reassess_eq, requestZone_eq, report, reports, ← emit_emit]
  rfl

/-! ### What a good reply sends -/

section GoodReply

variable {cfg : Cfg} {l : SensorLine} {h : HeadAddr} {before after : HeadRecord}

/-- The zone is asked to evaluate on a seed or a crossed level and only then (R129). -/
theorem evaluationRequest_mem_goodReplySends {z : Zone} :
    .evaluationRequest z ∈ goodReplySends cfg l h before after ↔
      before.zone = some z ∧
        (before.state = .waiting ∨ before.state = .lost ∨ crossed cfg.coHigh before.co after.co ∨
          crossed cfg.coClear before.co after.co ∨ crossed cfg.no2High before.no2 after.no2 ∨
          crossed cfg.no2Clear before.no2 after.no2) := by
  have silent : .evaluationRequest z ∉ blindReports (l.withHead h after) before.zone := fun k => by
    obtain ⟨_, _, k | k⟩ := condition_of_mem_blindReports k <;> cases k
  simp [goodReplySends, silent, evaluationRequest_mem_zoneRequests, HeadState.not_counts_iff, crossesAny_iff, or_assoc, and_comm]

theorem headPoll_notMem_goodReplySends : .headPoll ∉ goodReplySends cfg l h before after := by
  have silent : .headPoll ∉ blindReports (l.withHead h after) before.zone := fun k => by
    obtain ⟨_, _, k | k⟩ := condition_of_mem_blindReports k <;> cases k
  simp [goodReplySends, silent, headPoll_notMem_zoneRequests]

/-- A LOST head that returns clears SENSOR-LOST, and its zone is blind no longer (R125, R130, R131). -/
theorem clears_of_returned (lost : before.state = .lost) (sees : after.state ≠ .lost) (same : after.zone = before.zone) :
    .conditionClearReport .sensorLost h.val ∈ goodReplySends cfg l h before after ∧
      ∀ z, before.zone = some z →
        (blindAfterGood l h before after)[z] = false ∧
          (l.zoneBlind[z] = true → .conditionClearReport .zoneBlind z.val ∈ goodReplySends cfg l h before after) := by
  refine ⟨by simp [goodReplySends, lost], fun z own => ?_⟩
  have now : blind (l.withHead h after).heads z = false := blind_withHead_eq_false l h (same.trans own) sees
  refine ⟨?_, fun dark => ?_⟩
  · rw [blindAfterGood, if_pos lost, own, blindAssessed_some, now]
  · have report := clear_mem_blindReports (l := l.withHead h after) dark now
    simp [goodReplySends, lost, own, report]

end GoodReply

/-! ### The events of a poll -/

/-- An event of the sensor line: it is taken, the line becomes another, and reports and requests are sent. -/
def lineEvent (i : Instr) (s : State) (line : SensorLine) (l : List Instr) : State := ((s.taken i).setSensors line).emit l

@[simp] theorem lineEvent_sensors (i : Instr) (s : State) (line : SensorLine) (l : List Instr) :
    (lineEvent i s line l).sensors = line := rfl

theorem lineEvent_sent (i : Instr) (s : State) (line : SensorLine) (l : List Instr) : sent i s (lineEvent i s line l) l := rfl

theorem lineEvent_onlyChanges (i : Instr) (s : State) (line : SensorLine) (l : List Instr) :
    onlyChanges [.sensors, .inFlight] s (lineEvent i s line l) :=
  onlyChanges_trans (onlyChanges_mono (taken_onlyChanges _ _) (by simp))
    (onlyChanges_trans (onlyChanges_mono (setSensors_onlyChanges _ _) (by simp))
      (onlyChanges_mono (emit_onlyChanges _ _) (by simp)))

/-- An event at a running module has its effect on the state it was taken from. -/
theorem onEvent_of_powered {i : Instr} {s : State} {f : State → State} (power : s.powered = true) :
    onEvent i s f = .next (f (s.taken i)) :=
  onEvent_eq_next_iff.mpr (.inl ⟨power, rfl⟩)

section Events

variable {s : State} {h : HeadAddr} {rawCo rawNo2 : Int}

/-- A good reply ends the poll (R122 to R125). -/
theorem exec_headReply_good (power : s.powered = true) (window : s.sensors.window = some h) (drift : Bool) :
    let i := .headReply h.val (if drift then .drift else .ok) rawCo rawNo2 true
    let before := s.sensors.heads[h]
    let after := goodReplyRecord s h drift rawCo rawNo2
    exec i s =
      .next (lineEvent i s
        { s.sensors with
          heads := s.sensors.heads.set h after, zoneBlind := blindAfterGood s.sensors h before after, window := none }
        (goodReplySends s.store.cfg s.sensors h before after ++ nextPoll s.sensors.due)) := by
  intro i before after
  have good : ReplyStatus.good (if drift then .drift else .ok) = true := by cases drift <;> rfl
  show execHeadReply _ _ _ _ _ s = _
  rw [execHeadReply, onEvent_of_powered power]
  simp only [taken_sensors, window, Bool.true_and, beq_self_eq_true, good, if_true, takeGood_eq, endTransaction_eq, lineEvent,
    ← emit_emit]
  rfl

/-- A reply WARMING or FAULT ends the poll by a miss (R122). -/
theorem exec_headReply_missed (power : s.powered = true) (window : s.sensors.window = some h) (fault : Bool) :
    let status := if fault then .fault else .warming
    let i := .headReply h.val status rawCo rawNo2 true
    exec i s =
      .next (lineEvent i s
        { s.sensors with heads := s.sensors.heads.set h (missedRecord s.sensors.heads[h] (some status)), window := none }
        (nextPoll s.sensors.due)) := by
  intro status i
  have bad : ReplyStatus.good status = false := by cases fault <;> rfl
  show execHeadReply _ _ _ _ _ s = _
  rw [execHeadReply, onEvent_of_powered power]
  simp only [taken_sensors, window, Bool.true_and, beq_self_eq_true, bad, if_true, Bool.false_eq_true, if_false, takeMiss_eq,
    endTransaction_eq]
  rfl

/-- A reply that fails its check, or names another head than the one polled, is discarded (R122). -/
theorem exec_headReply_discarded (power : s.powered = true) (window : s.sensors.window = some h) {address : Nat}
    {checkHolds : Bool} (status : ReplyStatus) (bad : checkHolds = false ∨ address ≠ h.val) :
    let i := .headReply address status rawCo rawNo2 checkHolds
    exec i s = .next (s.taken i) := by
  intro i
  have discarded : (checkHolds && address == h.val) = false := by
    rcases bad with failed | other
    · simp [failed]
    · simp [other]
  show execHeadReply _ _ _ _ _ s = _
  rw [execHeadReply, onEvent_of_powered power]
  simp only [taken_sensors, window, discarded, Bool.false_eq_true, if_false]
  rfl

/-- A window that ends with no reply taken ends the poll by a miss with status NO-REPLY (R122). -/
theorem exec_replyWindowEnd (power : s.powered = true) (window : s.sensors.window = some h) :
    exec .replyWindowEnd s =
      .next (lineEvent .replyWindowEnd s
        { s.sensors with heads := s.sensors.heads.set h (missedRecord s.sensors.heads[h] none), window := none }
        (nextPoll s.sensors.due)) := by
  show execReplyWindowEnd s = _
  rw [execReplyWindowEnd, onEvent_of_powered power]
  simp only [taken_sensors, window, takeMiss_eq, endTransaction_eq]
  rfl

/-- A hold timer that runs out in VALID or HOLDING loses its head (R126). -/
theorem exec_holdTimerExpiry (power : s.powered = true) {n : Nat} (running : s.sensors.heads[h].hold = some n)
    (counting : s.sensors.heads[h].state = .valid ∨ s.sensors.heads[h].state = .holding) :
    let zone := s.sensors.heads[h].zone
    let lost := s.sensors.withHead h { s.sensors.heads[h] with state := .lost, hold := none }
    exec (.holdTimerExpiry h) s =
      .next (lineEvent (.holdTimerExpiry h) s { lost with zoneBlind := blindAssessed lost zone }
        (.conditionActiveReport .sensorLost h.val :: (blindReports lost zone ++ zoneRequests zone))) := by
  have counts : (s.taken (.holdTimerExpiry h)).sensors.heads[h].state.counts = true := (HeadState.counts_iff _).mpr counting
  show execHoldTimerExpiry h s = _
  rw [execHoldTimerExpiry, onEvent_of_powered power]
  simp only [loseHead_eq counts, taken_sensors, running, Option.isSome_some, if_true]
  rfl

end Events

/-- Settles O48: each of the five events leaves the line and sends the list its equation gives. -/
theorem pollsEndInReplyOrMiss : Obligations.PollsEndInReplyOrMiss := by
  intro s h power
  refine ⟨fun window rawCo rawNo2 => ⟨fun drift => ?good, fun fault => ?missed, fun address status checkHolds bad => ?discarded⟩,
    fun window => ?windowEnd, fun n running counting => ?holdEnd⟩
  case good =>
    refine ⟨_, exec_headReply_good power window drift, lineEvent_onlyChanges _ _ _ _, rfl, fun there => if_neg there, _,
      lineEvent_sent _ _ _ _, fun lost => ?_, fun z => ?_, ?_⟩
    · obtain ⟨clear, zone⟩ := clears_of_returned (cfg := s.store.cfg) (l := s.sensors) (h := h)
        (after := goodReplyRecord s h drift rawCo rawNo2) lost (by simp [goodReplyRecord]) rfl
      refine ⟨List.mem_append_left _ clear, fun z own => ?_⟩
      obtain ⟨sees, report⟩ := zone z own
      exact ⟨sees, fun dark => List.mem_append_left _ (report dark)⟩
    · rw [List.mem_append, evaluationRequest_mem_goodReplySends, or_iff_left (evaluationRequest_notMem_nextPoll _ z)]
      simp only [lineEvent_sensors, heads_set_self]
    · rw [List.mem_append, or_iff_right headPoll_notMem_goodReplySends, headPoll_mem_nextPoll]
  case missed =>
    exact ⟨_, exec_headReply_missed power window fault, lineEvent_onlyChanges _ _ _ _, rfl, lineEvent_sent _ _ _ _⟩
  case discarded => exact ⟨_, exec_headReply_discarded power window status bad, taken_onlyChanges _ _⟩
  case windowEnd => exact ⟨_, exec_replyWindowEnd power window, lineEvent_onlyChanges _ _ _ _, rfl, lineEvent_sent _ _ _ _⟩
  case holdEnd =>
    refine ⟨_, exec_holdTimerExpiry power running counting, lineEvent_onlyChanges _ _ _ _, rfl, _, lineEvent_sent _ _ _ _,
      fun z own => ⟨List.mem_append_right _ (evaluationRequest_mem_zoneRequests.mpr own), ?_⟩⟩
    rw [lineEvent_sensors, own, blindAssessed_some]
    exact ⟨blind_iff_isBlind _ z, fun before now => List.mem_append_left _ (active_mem_blindReports before now)⟩

end Sys2Proof.Machine

/-! Reports taken by the hazard list (R150 to R153): the search for a free id ends at the first one, a report finds the one entry of its
condition, and what a list without room gives up. -/

namespace Sys2Proof.Machine

open State

/-! ### The search for a free id -/

/-- The id some places after the next id, passing from 65535 to 1 (R150). -/
def idFrom (next places : Nat) : Nat := (next - 1 + places) % 65535 + 1

theorem idFrom_zero {next : Nat} (low : 1 ≤ next) (high : next ≤ 65535) : idFrom next 0 = next := by
  unfold idFrom
  omega

theorem idAfter_eq_mod {id : Nat} (high : id ≤ 65535) : idAfter id = id % 65535 + 1 := by
  unfold idAfter
  split <;> omega

theorem idAfter_idFrom (next places : Nat) : idAfter (idFrom next places) = idFrom next (places + 1) := by
  unfold idAfter idFrom
  split <;> omega

theorem idFrom_injOn (next : Nat) : Set.InjOn (idFrom next) (Finset.range 49) := by
  intro a ha b hb same
  simp only [Finset.coe_range, Set.mem_Iio] at ha hb
  simp only [idFrom] at same
  omega

theorem idHeld_iff {entries : List HazardEntry} {id : Nat} : idHeld entries id = true ↔ ∃ e ∈ entries, e.id = id := by
  simp [idHeld]

theorem idHeld_eq_false_iff {entries : List HazardEntry} {id : Nat} :
    idHeld entries id = false ↔ ∀ e ∈ entries, e.id ≠ id := by
  simp [idHeld]

/-- At most 48 entries cannot hold 49 ids (R150). -/
theorem exists_idHeld_eq_false {entries : List HazardEntry} (few : entries.length ≤ 48) (next : Nat) :
    ∃ places < 49, idHeld entries (idFrom next places) = false := by
  have fewer : (entries.map HazardEntry.id).toFinset.card < ((Finset.range 49).image (idFrom next)).card := by
    rw [Finset.card_image_of_injOn (idFrom_injOn next), Finset.card_range]
    have bound := List.toFinset_card_le (entries.map HazardEntry.id)
    rw [List.length_map] at bound
    omega
  obtain ⟨id, tried, free⟩ := Finset.exists_mem_notMem_of_card_lt_card fewer
  obtain ⟨places, range, rfl⟩ := Finset.mem_image.mp tried
  refine ⟨places, Finset.mem_range.mp range, idHeld_eq_false_iff.mpr fun e mem same => free ?_⟩
  exact List.mem_toFinset.mpr (List.mem_map.mpr ⟨e, mem, same⟩)

/-- A search that has met held ids only, and has a free one in its reach, ends at the first free id (R150). -/
theorem freeId_firstFreeId {entries : List HazardEntry} {next : Nat} :
    ∀ (steps places : Nat), (∀ k < places, idHeld entries (idFrom next k) = true) →
      (∃ n < steps, idHeld entries (idFrom next (places + n)) = false) →
      firstFreeId entries next (freeId entries steps (idFrom next places))
  | 0, _, _, reach => by simp at reach
  | steps + 1, places, met, ⟨n, range, free⟩ => by
    unfold freeId
    split
    · next held =>
      rw [idAfter_idFrom]
      refine freeId_firstFreeId steps (places + 1) (fun k hk => ?_) ?_
      · rcases Nat.lt_succ_iff_lt_or_eq.mp hk with before | rfl
        · exact met k before
        · exact held
      · cases n with
        | zero => exact absurd held (Bool.eq_false_iff.mp free)
        | succ n => exact ⟨n, by omega, by rwa [Nat.add_assoc, Nat.add_comm 1 n]⟩
    · next here =>
      exact ⟨places, rfl, idHeld_eq_false_iff.mp (Bool.eq_false_iff.mpr here), fun k hk => idHeld_iff.mp (met k hk)⟩

/-- A list of at most 48 entries gives the first free id (R150). -/
theorem takeId_firstFreeId {h : HazardList} (few : h.entries.length ≤ 48) (low : 1 ≤ h.nextId) (high : h.nextId ≤ 65535) :
    firstFreeId h.entries h.nextId (takeId h) := by
  have found := freeId_firstFreeId (entries := h.entries) (next := h.nextId) 49 0 (by simp)
    (by simpa using exists_idHeld_eq_false few h.nextId)
  rwa [idFrom_zero low high] at found

theorem firstFreeId_le {entries : List HazardEntry} {next id : Nat} (free : firstFreeId entries next id) : id ≤ 65535 := by
  obtain ⟨n, rfl, -, -⟩ := free
  omega

/-! ### The attention output -/

/-- The model's attention output is the manual's (R156). -/
theorem attentionDue_eq_lamp (entries : List HazardEntry) (unlisted : Bool) : attentionDue entries unlisted = lamp entries unlisted := by
  simp [attentionDue, lamp, bne, beq_eq_decide]

theorem change_eq_lamp (h : HazardList) (entries : List HazardEntry) (unlisted : Bool) :
    h.change entries unlisted =
      { h with entries := entries, unlisted := unlisted, attention := lamp entries unlisted } := by
  rw [HazardList.change, attentionDue_eq_lamp]

theorem lamp_of_mem {entries : List HazardEntry} {e : HazardEntry} (mem : e ∈ entries) (unack : e.state ≠ .activeAck)
    (unlisted : Bool) : lamp entries unlisted = true := by
  rw [lamp, Bool.or_eq_true, List.any_eq_true]
  exact .inr ⟨e, mem, decide_eq_true unack⟩

/-! ### The entry of a condition -/

theorem isFor_iff {e : HazardEntry} {kind : HazardKind} {source : Nat} :
    e.isFor kind source = true ↔ entryOf e kind source := by
  simp [HazardEntry.isFor, entryOf]

section Held

variable {h : HazardList} {kind : HazardKind} {source : Nat} {front back : List HazardEntry} {e : HazardEntry}

theorem stateFor_eq_none (absent : ∀ e ∈ h.entries, ¬ entryOf e kind source) : h.stateFor kind source = none := by
  rw [HazardList.stateFor, HazardList.entryFor, List.find?_eq_none.mpr fun e mem own => absent e mem (isFor_iff.mp own),
    Option.map_none]

/-- No other entry is of the same kind and source (R149). -/
theorem isFor_eq_false_of_others (keys : (h.entries.map fun e => (e.kind, e.source)).Nodup)
    (held : h.entries = front ++ e :: back) (own : entryOf e kind source) :
    (∀ d ∈ front, d.isFor kind source = false) ∧ ∀ d ∈ back, d.isFor kind source = false := by
  obtain ⟨rfl, rfl⟩ := own
  rw [held, List.map_append, List.map_cons, List.nodup_middle, ← List.map_append, List.nodup_cons] at keys
  obtain ⟨single, -⟩ := keys
  have other : ∀ d ∈ front ++ back, d.isFor e.kind e.source = false := fun d mem => by
    refine Bool.eq_false_iff.mpr fun twin => single (List.mem_map.mpr ⟨d, mem, ?_⟩)
    obtain ⟨kind, source⟩ := isFor_iff.mp twin
    rw [kind, source]
  exact ⟨fun d mem => other d (List.mem_append_left _ mem), fun d mem => other d (List.mem_append_right _ mem)⟩

theorem stateFor_of_held (keys : (h.entries.map fun e => (e.kind, e.source)).Nodup) (held : h.entries = front ++ e :: back)
    (own : entryOf e kind source) : h.stateFor kind source = some e.state := by
  obtain ⟨inFront, -⟩ := isFor_eq_false_of_others keys held own
  have passed : front.find? (fun d => d.isFor kind source) = none := List.find?_eq_none.mpr fun d mem => by simp [inFront d mem]
  rw [HazardList.stateFor, HazardList.entryFor, held, List.find?_append, passed, List.find?_cons, isFor_iff.mpr own]
  rfl

/-- The entry of the condition changes state in its place, every other stays (R149). -/
theorem setState_of_held (keys : (h.entries.map fun e => (e.kind, e.source)).Nodup) (held : h.entries = front ++ e :: back)
    (own : entryOf e kind source) {state : HazardState} (unack : state ≠ .activeAck) :
    h.setState kind source state = { h with entries := front ++ e.withState state :: back, attention := true } := by
  obtain ⟨inFront, inBack⟩ := isFor_eq_false_of_others keys held own
  have same : ∀ {l : List HazardEntry}, (∀ d ∈ l, d.isFor kind source = false) →
      l.map (fun d => if d.isFor kind source then { d with state := state } else d) = l := fun {l} others =>
    (List.map_congr_left fun d mem => by simp [others d mem]).trans (List.map_id l)
  rw [HazardList.setState, held, List.map_append, List.map_cons, same inFront, same inBack, if_pos (isFor_iff.mpr own),
    change_eq_lamp, lamp_of_mem (e := e.withState state) (by simp [HazardEntry.withState]) unack]
  rfl

/-- The entry of the condition leaves, and those behind it close up (R149). -/
theorem remove_of_held (keys : (h.entries.map fun e => (e.kind, e.source)).Nodup) (held : h.entries = front ++ e :: back)
    (own : entryOf e kind source) :
    h.remove kind source = { h with entries := front ++ back, attention := lamp (front ++ back) h.unlisted } := by
  obtain ⟨inFront, inBack⟩ := isFor_eq_false_of_others keys held own
  have kept : ∀ {l : List HazardEntry}, (∀ d ∈ l, d.isFor kind source = false) →
      l.filter (fun d => !d.isFor kind source) = l := fun others => List.filter_eq_self.mpr fun d mem => by simp [others d mem]
  rw [HazardList.remove, held, List.filter_append, List.filter_cons_of_neg (by simp [isFor_iff.mpr own]), kept inFront,
    kept inBack, change_eq_lamp]

end Held

/-! ### Room for a new entry -/

section Room

variable {h : HazardList} {kind : HazardKind} {front back : List HazardEntry} {e : HazardEntry}

theorem full_eq_true_iff : h.full = true ↔ 48 ≤ h.entries.length := decide_eq_true_iff

/-- The first entry that meets a test is the one erased. -/
theorem eraseP_first {p : HazardEntry → Bool} (held : h.entries = front ++ e :: back) (meets : p e = true)
    (first : ∀ d ∈ front, p d = false) : h.entries.eraseP p = front ++ back := by
  rw [held, List.eraseP_append_right _ fun d mem => by simp [first d mem], List.eraseP_cons_of_pos meets]

/-- The oldest cleared entry gives way (R153, step 1). -/
theorem makeRoom_cleared (held : h.entries = front ++ e :: back) (cleared : e.state = .clearedUnack)
    (first : ∀ d ∈ front, d.state ≠ .clearedUnack) : h.makeRoom kind = some (h.change (front ++ back) h.unlisted) := by
  have present : (h.entries.any fun e => e.state == .clearedUnack) = true :=
    List.any_eq_true.mpr ⟨e, by simp [held], by simp [cleared]⟩
  rw [HazardList.makeRoom, if_pos present, eraseP_first held (by simp [cleared]) fun d mem => by simp [first d mem]]

theorem any_cleared_eq_false (active : ∀ e ∈ h.entries, e.state ≠ .clearedUnack) :
    (h.entries.any fun e => e.state == .clearedUnack) = false := by simpa using active

/-- With no cleared entry, the oldest entry of another kind gives way to a FIRE (R153, step 2). -/
theorem makeRoom_fire (active : ∀ e ∈ h.entries, e.state ≠ .clearedUnack) (held : h.entries = front ++ e :: back)
    (other : e.kind ≠ .fire) (first : ∀ d ∈ front, d.kind = .fire) :
    h.makeRoom .fire = some (h.change (front ++ back) true) := by
  have present : (h.entries.any fun e => e.kind != .fire) = true := List.any_eq_true.mpr ⟨e, by simp [held], by simp [other]⟩
  rw [HazardList.makeRoom, any_cleared_eq_false active, if_neg Bool.false_ne_true, if_pos ⟨rfl, present⟩,
    eraseP_first held (by simp [other]) fun d mem => by simp [first d mem]]

/-- With no cleared entry, nothing gives way to a condition that is no FIRE (R153, step 3). -/
theorem makeRoom_eq_none (active : ∀ e ∈ h.entries, e.state ≠ .clearedUnack) (other : kind ≠ .fire) :
    h.makeRoom kind = none := by
  rw [HazardList.makeRoom, any_cleared_eq_false active, if_neg Bool.false_ne_true, if_neg fun ⟨fire, _⟩ => other fire]

end Room

/-! ### The two reports -/

/-- A report taken by the list: it is off its way, and the list becomes another. -/
def listEvent (i : Instr) (s : State) (h : HazardList) : State := (s.taken i).setHazards h

@[simp] theorem listEvent_hazards (i : Instr) (s : State) (h : HazardList) : (listEvent i s h).hazards = h := rfl

theorem listEvent_sent (i : Instr) (s : State) (h : HazardList) : sent i s (listEvent i s h) [] := by
  simp [sent, listEvent]

theorem listEvent_onlyChanges (i : Instr) (s : State) (h : HazardList) : onlyChanges [.hazards, .inFlight] s (listEvent i s h) :=
  onlyChanges_trans (onlyChanges_mono (taken_onlyChanges _ _) (by simp))
    (onlyChanges_mono (setHazards_onlyChanges _ _) (by simp))

section Reports

variable {s : State} {kind : HazardKind} {source : Nat}

theorem exec_conditionActiveReport (power : s.powered = true) :
    exec (.conditionActiveReport kind source) s =
      .next (listEvent (.conditionActiveReport kind source) s (s.hazards.takeActive s.store.minute kind source)) := by
  show execConditionActiveReport kind source s = _
  rw [execConditionActiveReport, onEvent_of_powered power]
  rfl

theorem exec_conditionClearReport (power : s.powered = true) :
    exec (.conditionClearReport kind source) s =
      .next (listEvent (.conditionClearReport kind source) s (s.hazards.takeClear kind source)) := by
  show execConditionClearReport kind source s = _
  rw [execConditionClearReport, onEvent_of_powered power]
  rfl

/-- The append to what is left of the list is the manual's (R150, R151). -/
theorem appended_of_append {t : State} {kept : List HazardEntry} {unlisted : Bool} (few : kept.length ≤ 48)
    (next : 1 ≤ s.hazards.nextId ∧ s.hazards.nextId ≤ 65535)
    (list : t.hazards = (s.hazards.change kept unlisted).append s.store.minute kind source) :
    appended s t kept kind source unlisted := by
  obtain ⟨low, high⟩ := next
  have free : firstFreeId kept s.hazards.nextId (takeId (s.hazards.change kept unlisted)) :=
    takeId_firstFreeId (h := s.hazards.change kept unlisted) few low high
  refine ⟨_, free, ?_⟩
  rw [list, append_spec, ← idAfter_eq_mod (firstFreeId_le free)]
  rfl

end Reports

section Taken

variable {h : HazardList} {minute : Nat} {kind : HazardKind} {source : Nat}

theorem takeActive_of_absent (absent : ∀ e ∈ h.entries, ¬ entryOf e kind source) :
    h.takeActive minute kind source = h.list minute kind source := by
  rw [HazardList.takeActive, stateFor_eq_none absent]

theorem list_of_room (room : h.entries.length < 48) :
    h.list minute kind source = (h.change h.entries h.unlisted).append minute kind source := by
  rw [HazardList.list, if_neg fun full => absurd (full_eq_true_iff.mp full) (by omega)]
  rfl

theorem list_of_full {room : HazardList} (full : h.entries.length = 48) (made : h.makeRoom kind = some room) :
    h.list minute kind source = room.append minute kind source := by
  rw [HazardList.list, if_pos (full_eq_true_iff.mpr full.ge), made]

theorem list_of_noRoom (full : h.entries.length = 48) (made : h.makeRoom kind = none) :
    h.list minute kind source = { h with unlisted := true, attention := true } := by
  rw [HazardList.list, if_pos (full_eq_true_iff.mpr full.ge), made]
  rfl

variable {front back : List HazardEntry} {e : HazardEntry}

/-- An active report of a condition with an entry (R151). -/
theorem takeActive_of_held (keys : (h.entries.map fun e => (e.kind, e.source)).Nodup) (held : h.entries = front ++ e :: back)
    (own : entryOf e kind source) :
    h.takeActive minute kind source =
      match e.state with
      | .activeUnack | .activeAck => h
      | .clearedUnack => { h with entries := front ++ e.withState .activeUnack :: back, attention := true } := by
  rw [HazardList.takeActive, stateFor_of_held keys held own]
  cases e.state with
  | activeUnack | activeAck => rfl
  | clearedUnack => exact setState_of_held keys held own (by decide)

/-- A clear report of a condition with an entry (R152). -/
theorem takeClear_of_held (keys : (h.entries.map fun e => (e.kind, e.source)).Nodup) (held : h.entries = front ++ e :: back)
    (own : entryOf e kind source) :
    h.takeClear kind source =
      match e.state with
      | .activeUnack => { h with entries := front ++ e.withState .clearedUnack :: back, attention := true }
      | .activeAck => { h with entries := front ++ back, attention := lamp (front ++ back) h.unlisted }
      | .clearedUnack => h := by
  rw [HazardList.takeClear, stateFor_of_held keys held own]
  cases e.state with
  | activeUnack => exact setState_of_held keys held own (by decide)
  | activeAck => exact remove_of_held keys held own
  | clearedUnack => rfl

theorem takeClear_of_absent (absent : ∀ e ∈ h.entries, ¬ entryOf e kind source) : h.takeClear kind source = h := by
  rw [HazardList.takeClear, stateFor_eq_none absent]

end Taken

/-- Settles O52: a report finds the one entry of its condition or none, and a condition without one is listed as far as R153 makes
room. -/
theorem reportsChangeHazardEntries : Obligations.ReportsChangeHazardEntries := by
  intro s kind source power law
  obtain ⟨few, -, -, keys, next, -⟩ := law
  have shorter : ∀ {front back : List HazardEntry} {e : HazardEntry}, s.hazards.entries = front ++ e :: back →
      (front ++ back).length ≤ 48 := fun held => by
    simp only [held, List.length_append, List.length_cons] at few ⊢
    omega
  refine ⟨⟨_, exec_conditionActiveReport power, listEvent_onlyChanges _ _ _, listEvent_sent _ _ _, ?activeHeld, ?activeAbsent⟩,
    _, exec_conditionClearReport power, listEvent_onlyChanges _ _ _, listEvent_sent _ _ _, ?clearHeld, takeClear_of_absent⟩
  case activeHeld =>
    intro front back e held own
    rw [listEvent_hazards, takeActive_of_held keys held own]
    refine ⟨fun active => ?_, fun cleared => by rw [cleared]⟩
    cases state : e.state with
    | activeUnack | activeAck => rfl
    | clearedUnack => exact absurd state active
  case activeAbsent =>
    intro absent
    have taken := takeActive_of_absent (minute := s.store.minute) absent
    refine ⟨fun room => ?_, fun full => ⟨fun front back e held cleared first => ?_, fun active fire front back e held other first => ?_,
      fun active other => ?_⟩⟩
    · exact appended_of_append few next (taken.trans (list_of_room room))
    · exact appended_of_append (shorter held) next (taken.trans (list_of_full full (makeRoom_cleared held cleared first)))
    · subst fire
      exact appended_of_append (shorter held) next (taken.trans (list_of_full full (makeRoom_fire active held other first)))
    · exact taken.trans (list_of_noRoom full (makeRoom_eq_none active other))
  case clearHeld =>
    intro front back e held own
    rw [listEvent_hazards, takeClear_of_held keys held own]
    exact ⟨fun state => by rw [state], fun state => by rw [state], fun state => by rw [state]⟩

end Sys2Proof.Machine

/-! Every command goes on, within the parts that take part in it (section 2.2), and every request is one effect of its owner, answered by at most
64 bytes, that changes nothing when it is refused (R160, R165). The bytes of the link run these same commands. -/

namespace Sys2Proof.Machine

open State

/-! ### Answers -/

/-- What a request's effect keeps to: the parts it may change, a payload the link can carry, and no change when it is refused. -/
structure Answers (parts : List Part) (s : State) (r : State × Status × List Byte) : Prop where
  frame : onlyChanges parts s r.1
  short : r.2.2.length ≤ 64
  refused : r.2.1 ≠ .done → r.2.1 ≠ .doneClamped → r = refuse s r.2.1

theorem answers_refuse (parts : List Part) (s : State) (status : Status) : Answers parts s (refuse s status) :=
  ⟨onlyChanges_refl _ _, Nat.zero_le _, fun _ _ => rfl⟩

theorem answers_done {parts : List Part} {s t : State} {payload : List Byte} (frame : onlyChanges parts s t)
    (short : payload.length ≤ 64) : Answers parts s (done t payload) :=
  ⟨frame, short, fun h => absurd rfl h⟩

/-- A read answers its payload and changes nothing. -/
theorem answers_read {s : State} {payload : List Byte} (short : payload.length ≤ 64) (parts : List Part := []) :
    Answers parts s (done s payload) := answers_done (onlyChanges_refl _ _) short

theorem answers_ite {parts : List Part} {s : State} {p : Prop} [Decidable p] {a b : State × Status × List Byte}
    (ha : Answers parts s a) (hb : Answers parts s b) : Answers parts s (if p then a else b) := by
  split
  · exact ha
  · exact hb

/-! ### The roster's requests -/

/-- A stall's record takes 23 bytes (R171). -/
theorem length_stallRecord (s : State) (i : StallIdx) : (stallRecord s i).length = 23 := by simp [stallRecord]

theorem answers_answerStall {parts : List Part} {s t : State} (i : StallIdx) (frame : onlyChanges parts s t) :
    Answers parts s (answerStall t i) := answers_done frame (by simp [length_stallRecord])

theorem requestZoneOf_onlyChanges (s : State) (i : StallIdx) : onlyChanges [.inFlight] s (requestZoneOf s i) := emit_onlyChanges _ _

/-- A record command changes an entry, reports BATTERY-THERMAL, and asks for an evaluation. -/
theorem setStall_reported_onlyChanges (s : State) (i : StallIdx) (e : StallEntry) (a b : Bool) :
    onlyChanges [.roster, .inFlight] s (requestZoneOf (reportThermal (s.setStall i e) i a b) i) :=
  onlyChanges_trans (onlyChanges_mono (setStall_onlyChanges _ _ _) (by simp))
    (onlyChanges_trans (onlyChanges_mono (reportChange_onlyChanges _ _ _ _ _) (by simp))
      (onlyChanges_mono (requestZoneOf_onlyChanges _ _) (by simp)))

theorem arriveAt_answers (s : State) (label tag cls act charger departure : Nat) :
    Answers [.roster, .inFlight] s (arriveAt s label tag cls act charger departure) := by
  unfold arriveAt
  split
  · exact answers_refuse _ _ _
  · dsimp only
    split
    · exact answers_answerStall _ (setStall_reported_onlyChanges _ _ _ _ _)
    · exact answers_refuse _ _ _
    · exact answers_refuse _ _ _

theorem moveRecord_onlyChanges (s : State) (i j : StallIdx) : onlyChanges [.roster, .inFlight] s (moveRecord s i j) := by
  have stall (u : State) (k : StallIdx) (e : StallEntry) : onlyChanges [.roster, .inFlight] u (u.setStall k e) :=
    onlyChanges_mono (setStall_onlyChanges _ _ _) (by simp)
  have report (u : State) (k : StallIdx) (a b : Bool) : onlyChanges [.roster, .inFlight] u (reportThermal u k a b) :=
    onlyChanges_mono (reportChange_onlyChanges _ _ _ _ _) (by simp)
  exact onlyChanges_trans (stall _ _ _) (onlyChanges_trans (stall _ _ _) (onlyChanges_trans (report _ _ _ _)
    (onlyChanges_trans (report _ _ _ _) (onlyChanges_mono (emit_onlyChanges _ _) (by simp)))))

theorem relocateTo_answers (s : State) (tag newLabel : Nat) : Answers [.roster, .inFlight] s (relocateTo s tag newLabel) := by
  unfold relocateTo
  split
  · exact answers_refuse _ _ _
  · split
    · exact answers_answerStall _ (moveRecord_onlyChanges _ _ _)
    · exact answers_refuse _ _ _
    · exact answers_refuse _ _ _

theorem takeActivity_onlyChanges (s : State) (i : StallIdx) (o : Occupant) (a : Activity) :
    onlyChanges [.roster, .inFlight] s (takeActivity s i o a) :=
  onlyChanges_ite (onlyChanges_mono (setStall_onlyChanges _ _ _) (by simp)) (setStall_reported_onlyChanges _ _ _ _ _)

theorem activityAt_answers (s : State) (label act : Nat) : Answers [.roster, .inFlight] s (activityAt s label act) := by
  unfold activityAt
  split
  · exact answers_refuse _ _ _
  · split
    · exact answers_answerStall _ (takeActivity_onlyChanges _ _ _ _)
    · exact answers_refuse _ _ _
    · exact answers_refuse _ _ _

theorem renewAt_answers (s : State) (label : Nat) : Answers [.roster, .inFlight] s (renewAt s label) := by
  unfold renewAt
  split
  · exact answers_refuse _ _ _
  · split
    · exact answers_refuse _ _ _
    · exact answers_ite (answers_answerStall _ (onlyChanges_mono (setStall_onlyChanges _ _ _) (by simp))) (answers_refuse _ _ _)

theorem setDepartureAt_answers (s : State) (label departure : Nat) :
    Answers [.roster, .inFlight] s (setDepartureAt s label departure) := by
  unfold setDepartureAt
  split
  · exact answers_refuse _ _ _
  · refine answers_ite (answers_refuse _ _ _) ?_
    split
    · exact answers_refuse _ _ _
    · exact answers_answerStall _ (onlyChanges_trans (onlyChanges_mono (setStall_onlyChanges _ _ _) (by simp))
        (onlyChanges_mono (requestZoneOf_onlyChanges _ _) (by simp)))

theorem departAt_answers (s : State) (label : Nat) : Answers [.roster, .inFlight] s (departAt s label) := by
  unfold departAt
  split
  · exact answers_refuse _ _ _
  · split
    · exact answers_refuse _ _ _
    · exact answers_answerStall _ (setStall_reported_onlyChanges _ _ _ _ _)

theorem readStallAt_answers (s : State) (label : Nat) : Answers [] s (readStallAt s label) := by
  unfold readStallAt
  split
  · exact answers_refuse _ _ _
  · exact answers_answerStall _ (onlyChanges_refl _ _)

theorem findTagIn_answers (s : State) (tag : Nat) : Answers [] s (findTagIn s tag) := by
  refine answers_ite (answers_refuse _ _ _) ?_
  split
  · exact answers_refuse _ _ _
  · exact answers_answerStall _ (onlyChanges_refl _ _)

theorem walkTo_answers (s : State) (found : Option StallIdx) : Answers [.roster] s (walkTo s found) := by
  cases found with
  | none => exact answers_refuse _ _ _
  | some i => exact answers_answerStall i (setRoster_onlyChanges _ _)

theorem walkFirstFrom_answers (s : State) (label : Nat) : Answers [.roster] s (walkFirstFrom s label) := by
  unfold walkFirstFrom
  split
  · exact answers_refuse _ _ _
  · exact walkTo_answers _ _

/-! ### The requests of the other blocks -/

theorem fanServiceAt_answers (s : State) (channel setting : Nat) :
    Answers [.fans, .queueA, .queueB, .dampers, .gates, .inFlight] s (fanServiceAt s channel setting) := by
  have off (c : Chan) : onlyChanges [.fans, .queueA, .queueB, .dampers, .gates, .inFlight] s (serviceOff s c) := by
    unfold serviceOff
    split
    · exact onlyChanges_trans (onlyChanges_mono (clearFan_onlyChanges _ _ _) (by simp))
        (onlyChanges_mono (syncGate_onlyChanges _ _) (by simp))
    · exact releaseLocked_onlyChanges _ _
    · exact releaseLocked_onlyChanges _ _
    · exact onlyChanges_refl _ _
  have on (c : Chan) : onlyChanges [.fans, .queueA, .queueB, .dampers, .gates, .inFlight] s (serviceOn s c) := by
    have entered (f : FanRecord) : onlyChanges [.fans, .queueA, .queueB, .dampers, .gates, .inFlight] s
        (changeFan (leaveQueue s c) c f) :=
      onlyChanges_trans (onlyChanges_mono (leaveQueue_onlyChanges s c) (by simp))
        (onlyChanges_mono (changeFan_onlyChanges _ _ _) (by simp))
    exact onlyChanges_ite (onlyChanges_refl _ _) (onlyChanges_ite
      (onlyChanges_trans (entered _) (onlyChanges_trans (onlyChanges_mono (releasePermit_onlyChanges _ _) (by simp))
        (examine_onlyChanges _ _))) (entered _))
  unfold fanServiceAt
  split
  · exact answers_refuse _ _ _
  · split
    · exact answers_done (off _) (by simp)
    · exact answers_done (on _) (by simp)
    · exact answers_refuse _ _ _

theorem length_linkSummary (f : FireInterface) : (linkSummary f).length = 31 := by
  simp [linkSummary, List.length_flatMap, allZones]

theorem readLinkNow_answers (s : State) : Answers [.fire] s (readLinkNow s) :=
  answers_done (onlyChanges_ite (setFire_onlyChanges _ _) (onlyChanges_refl _ _)) (by simp [length_linkSummary])

theorem fireResetNow_answers (s : State) : Answers [.fire, .inFlight] s (fireResetNow s) :=
  answers_ite (answers_refuse _ _ _) (answers_done (resetFire_onlyChanges _) (by simp))

/-- A page of READ-HAZARDS carries at most 8 entries of 7 bytes (R169). -/
theorem length_hazardPage_le (h : HazardList) (page : Nat) : (hazardPage h page).length ≤ 64 := by
  have few : (pageEntries h page).length ≤ 8 := by simp [pageEntries, Config.hazardPage]
  have entry (e : HazardEntry) : (entryBytes e).length = 7 := by simp [entryBytes]
  have sum : ((pageEntries h page).map fun e => (entryBytes e).length).sum = 7 * (pageEntries h page).length := by
    simp [entry, Nat.mul_comm]
  simp only [hazardPage, List.length_append, length_bytesOf, length_flag, List.length_flatMap, sum]
  omega

theorem readHazardsAt_answers (s : State) (page : Nat) : Answers [] s (readHazardsAt s page) :=
  answers_ite (answers_refuse _ _ _) (answers_read (length_hazardPage_le s.hazards page))

theorem acknowledgeOne_answers (s : State) (id : Nat) : Answers [.hazards] s (acknowledgeOne s id) :=
  answers_ite (answers_done (setHazards_onlyChanges _ _) (by simp)) (answers_refuse _ _ _)

theorem acknowledgeEvery_answers (s : State) : Answers [.hazards] s (acknowledgeEvery s) :=
  answers_done (setHazards_onlyChanges _ _) (by simp)

theorem length_quietBytes (q : QuietPhase) : (quietBytes q).length = 3 := by cases q <;> simp [quietBytes]

theorem length_clearDelayBytes (d : ClearDelay) : (clearDelayBytes d).length = 2 := by cases d <;> simp [clearDelayBytes]

/-- READ-ZONE answers 46 bytes (R168). -/
theorem length_zoneBytes (s : State) (z : Zone) : (zoneBytes s z).length = 46 := by
  unfold zoneBytes
  generalize s.zones[z] = u
  simp only [List.length_append, length_bytesOf, length_field, length_flag, length_quietBytes, length_clearDelayBytes]

theorem length_fanTimerBytes (t : Option FanTimer) : (fanTimerBytes t).length = 3 := by
  rcases t with _ | t
  · rfl
  · cases t <;> simp [fanTimerBytes]

theorem length_grantBytes (role : Role) (grant : Option Zone) : (grantBytes role grant).length = 1 := by
  unfold grantBytes
  split <;> simp

/-- READ-FAN answers 24 bytes (R168). -/
theorem length_fanBytes (s : State) (c : Chan) : (fanBytes s c).length = 24 := by
  simp only [fanBytes, List.length_append, length_bytesOf, length_field, length_flag, length_fanTimerBytes, length_grantBytes]

theorem readZoneAt_answers (s : State) (zone : Nat) : Answers [] s (readZoneAt s zone) := by
  unfold readZoneAt
  split
  · exact answers_refuse _ _ _
  · exact answers_read (by simp [zoneAnswer_eq, length_zoneBytes])

theorem readFanAt_answers (s : State) (channel : Nat) : Answers [] s (readFanAt s channel) := by
  unfold readFanAt
  split
  · exact answers_refuse _ _ _
  · exact answers_read (by simp [fanAnswer_eq, length_fanBytes])

theorem readHeadAt_answers (s : State) (address : Nat) : Answers [] s (readHeadAt s address) := by
  unfold readHeadAt
  split
  · exact answers_refuse _ _ _
  · exact answers_read (by simp [headAnswer])

theorem readDamperAt_answers (s : State) (kind number : Nat) : Answers [] s (readDamperAt s kind number) := by
  unfold readDamperAt
  split
  · exact answers_read (by simp [damperAnswer])
  · refine answers_read ?_
    unfold gateAnswer
    dsimp only
    split <;> simp
  · exact answers_refuse _ _ _

theorem identifyNow_answers (s : State) : Answers [] s (identifyNow s) := answers_read (by simp [modelName])

theorem readClockNow_answers (s : State) : Answers [] s (readClockNow s) := answers_read (by simp)

theorem setClockAt_answers (s : State) (minute : Nat) : Answers [.store] s (setClockAt s minute) :=
  answers_ite (answers_refuse _ _ _) (answers_done (setStore_onlyChanges _ _) (by simp))

theorem readConfigAt_answers (s : State) (item index : Nat) : Answers [] s (readConfigAt s item index) := by
  unfold readConfigAt
  split
  · exact answers_refuse _ _ _
  · exact answers_read (by simp [itemAnswer])

theorem saveConfigNow_answers (s : State) : Answers [.store] s (saveConfigNow s) := by
  unfold saveConfigNow
  split
  · exact answers_refuse _ _ _
  · exact answers_done (setStore_onlyChanges _ _) (by simp)

theorem restartNow_answers (s : State) : Answers [.inFlight] s (restartNow s) :=
  answers_ite (answers_refuse _ _ _) (answers_done (emit_onlyChanges _ _) (by simp))

/-! ### Configuration writes -/

/-- A taken write changes the store, and what acting on its item changes (R172). -/
theorem takeWrite_onlyChanges {parts : List Part} {s : State} {k : CfgItem} {v : Nat} (store : .store ∈ parts)
    (act : ∀ u w, onlyChanges parts u (actOnWrite u k w)) : onlyChanges parts s (takeWrite s k v) :=
  onlyChanges_trans (onlyChanges_mono (setCfg_onlyChanges _ _) (by simpa using store)) (act _ _)

theorem writeItem_answers {parts : List Part} {s : State} {item index value : Nat} {k : CfgItem} (store : .store ∈ parts)
    (act : ∀ u w, onlyChanges parts u (actOnWrite u k w)) : Answers parts s (writeItem s item index value k) := by
  unfold writeItem
  split
  · exact answers_refuse _ _ _
  · refine ⟨takeWrite_onlyChanges store act, by simp [itemAnswer], ?_⟩
    dsimp only
    split
    · exact fun _ clamped => absurd rfl clamped
    · exact fun done => absurd rfl done

theorem writeAt_answers {parts : List Part} {s : State} {item index value : Nat} (store : .store ∈ parts)
    (act : ∀ k, itemOf item index = some k → ∀ u w, onlyChanges parts u (actOnWrite u k w)) :
    Answers parts s (writeAt s item index value) := by
  unfold writeAt
  cases h : itemOf item index with
  | none => exact answers_refuse _ _ _
  | some k => exact writeItem_answers store (act k h)

/-- Acting on an item: the tail length, a minimum speed and contact enabled change the roster, a fan or an input; no other item changes more than
its own value. -/
theorem actOnWrite_onlyChanges (s : State) (k : CfgItem) (v : Nat) :
    onlyChanges [.roster, .fans, .fire, .inFlight] s (actOnWrite s k v) := by
  unfold actOnWrite
  split
  · exact onlyChanges_mono (setRoster_onlyChanges _ _) (by simp)
  · exact onlyChanges_mono (raiseCommanded_onlyChanges _ _) (by simp)
  · exact onlyChanges_mono (enableContact_onlyChanges _ _ _) (by simp)
  · exact onlyChanges_refl _ _

/-- A write of an item that acts on nothing else changes the store alone. -/
theorem writeAt_answers_plain {s : State} {item index value : Nat}
    (plain : ∀ k, itemOf item index = some k → ∀ u w, actOnWrite u k w = u) : Answers [.store] s (writeAt s item index value) :=
  writeAt_answers (by simp) fun k h u w => (plain k h u w).symm ▸ onlyChanges_refl _ _

/-! ### The row of each request -/

/-- A request's row: the owner's effect carried out through the port, within parts other than the port (R162, R167). -/
structure RequestRow (i : Instr) (code : Nat) (effect : State → State × Status × List Byte) (parts : List Part) : Prop where
  eq : ∀ s, exec i s = onRequest i code s effect
  answers : ∀ s, Answers parts s (effect s)
  apart : .port ∉ parts
  within : parts ⊆ touches i

section Writes

variable {index : Nat}

/-- A module-wide item that acts on nothing else. -/
theorem actsOnNothing_atIndexZero {k₀ : CfgItem} (h : ∀ u w, actOnWrite u k₀ w = u) (k : CfgItem)
    (named : atIndexZero index k₀ = some k) (u : State) (w : Nat) : actOnWrite u k w = u := by
  unfold atIndexZero at named
  split at named
  · cases named
    exact h u w
  · cases named

/-- An indexed item that acts on nothing else. -/
theorem actsOnNothing_map {α : Type} {at' : α → CfgItem} {named' : Option α} (h : ∀ a u w, actOnWrite u (at' a) w = u) (k : CfgItem)
    (named : named'.map at' = some k) (u : State) (w : Nat) : actOnWrite u k w = u := by
  obtain ⟨a, -, rfl⟩ := Option.map_eq_some_iff.mp named
  exact h a u w

theorem requestRow_of_plain_write {i : Instr} {item value : Nat} (eq : ∀ s, exec i s = writeRequest i item index value s)
    (act : ∀ k, itemOf item index = some k → ∀ u w, actOnWrite u k w = u) (within : [.store] ⊆ touches i) :
    ∃ code effect parts, RequestRow i code effect parts :=
  ⟨_, _, _, eq, fun _ => writeAt_answers_plain act, by simp, within⟩

/-- A configuration write's row is the write of its item; three rows act on a block beside the store (R7, R80, R133). -/
theorem requestRow_of_writeOf {i : Instr} (h : (writeOf i).isSome = true) : ∃ code effect parts, RequestRow i code effect parts := by
  cases i
  case writeConfig item index value =>
    exact ⟨_, _, [.roster, .fans, .fire, .store, .inFlight], fun _ => rfl, fun s => writeAt_answers (by simp) fun k _ u w =>
      onlyChanges_mono (actOnWrite_onlyChanges u k w) (by simp), by simp, by simp [touches]⟩
  case tailLengthWrite index value =>
    refine ⟨_, _, [.roster, .store], fun _ => rfl, fun s => writeAt_answers (by simp) fun k named u w => ?_, by simp, by simp [touches]⟩
    have named : atIndexZero index .tail = some k := named
    unfold atIndexZero at named
    split at named <;> cases named
    exact onlyChanges_mono (setRoster_onlyChanges _ _) (by simp)
  case contactEnabledWrite index value =>
    refine ⟨_, _, [.fire, .store, .inFlight], fun _ => rfl, fun s => writeAt_answers (by simp) fun k named u w => ?_, by simp,
      by simp [touches]⟩
    obtain ⟨z, -, rfl⟩ := Option.map_eq_some_iff.mp named
    exact onlyChanges_mono (enableContact_onlyChanges _ _ _) (by simp)
  case minimumSpeedWrite index value =>
    refine ⟨_, _, [.fans, .store], fun _ => rfl, fun s => writeAt_answers (by simp) fun k named u w => ?_, by simp, by simp [touches]⟩
    obtain ⟨c, -, rfl⟩ := Option.map_eq_some_iff.mp named
    exact onlyChanges_mono (raiseCommanded_onlyChanges _ _) (by simp)
  case windowBaseWrite index value =>
    exact requestRow_of_plain_write (fun _ => rfl) (actsOnNothing_atIndexZero fun _ _ => rfl) (by simp [touches])
  case adjacencyWrite index value =>
    exact requestRow_of_plain_write (fun _ => rfl) (actsOnNothing_map fun _ _ _ => rfl) (by simp [touches])
  case stallMapWrite field index value =>
    cases field <;>
      exact requestRow_of_plain_write (fun _ => rfl) (actsOnNothing_map fun _ _ _ => rfl) (by simp [touches])
  case floorCeilingWrite field index value =>
    cases field <;>
      exact requestRow_of_plain_write (fun _ => rfl) (actsOnNothing_map fun _ _ _ => rfl) (by simp [touches])
  case gasLevelWrite field index value =>
    cases field <;>
      exact requestRow_of_plain_write (fun _ => rfl) (actsOnNothing_atIndexZero fun _ _ => rfl) (by simp [touches])
  case channelPlacementWrite field index value =>
    cases field <;>
      exact requestRow_of_plain_write (fun _ => rfl) (actsOnNothing_map fun _ _ _ => rfl) (by simp [touches])
  all_goals exact absurd h (by simp [writeOf])

end Writes

/-- Every row that a request frame brings is one effect behind the port. -/
theorem requestRow_of_isRequest {i : Instr} (h : isRequest i = true) : ∃ code effect parts, RequestRow i code effect parts := by
  cases i
  case unknownCommand => exact ⟨_, _, [], fun _ => rfl, fun s => answers_refuse _ s _, by simp, by simp⟩
  case badLength => exact ⟨_, _, [], fun _ => rfl, fun s => answers_refuse _ s _, by simp, by simp⟩
  case identify => exact ⟨_, _, _, fun _ => rfl, identifyNow_answers, by simp, by simp⟩
  case readClock => exact ⟨_, _, _, fun _ => rfl, readClockNow_answers, by simp, by simp⟩
  case setClock => exact ⟨_, _, _, fun _ => rfl, fun s => setClockAt_answers s _, by simp, by simp [touches]⟩
  case arrive => exact ⟨_, _, _, fun _ => rfl, fun s => arriveAt_answers s _ _ _ _ _ _, by simp, by simp [touches]⟩
  case relocate => exact ⟨_, _, _, fun _ => rfl, fun s => relocateTo_answers s _ _, by simp, by simp [touches]⟩
  case activity => exact ⟨_, _, _, fun _ => rfl, fun s => activityAt_answers s _ _, by simp, by simp [touches]⟩
  case renew => exact ⟨_, _, _, fun _ => rfl, fun s => renewAt_answers s _, by simp, by simp [touches]⟩
  case setDeparture => exact ⟨_, _, _, fun _ => rfl, fun s => setDepartureAt_answers s _ _, by simp, by simp [touches]⟩
  case depart => exact ⟨_, _, _, fun _ => rfl, fun s => departAt_answers s _, by simp, by simp [touches]⟩
  case readStall => exact ⟨_, _, _, fun _ => rfl, fun s => readStallAt_answers s _, by simp, by simp⟩
  case findTag => exact ⟨_, _, _, fun _ => rfl, fun s => findTagIn_answers s _, by simp, by simp⟩
  case walkFirst => exact ⟨_, _, _, fun _ => rfl, fun s => walkFirstFrom_answers s _, by simp, by simp [touches]⟩
  case walkNext => exact ⟨_, _, _, fun _ => rfl, fun s => walkTo_answers s (firstOccupied s (s.roster.cursor.val + 1)), by simp, by simp [touches]⟩
  case fanService => exact ⟨_, _, _, fun _ => rfl, fun s => fanServiceAt_answers s _ _, by simp, by simp [touches]⟩
  case readLink => exact ⟨_, _, _, fun _ => rfl, readLinkNow_answers, by simp, by simp [touches]⟩
  case fireReset => exact ⟨_, _, _, fun _ => rfl, fireResetNow_answers, by simp, by simp [touches]⟩
  case readHazards => exact ⟨_, _, _, fun _ => rfl, fun s => readHazardsAt_answers s _, by simp, by simp⟩
  case acknowledge => exact ⟨_, _, _, fun _ => rfl, fun s => acknowledgeOne_answers s _, by simp, by simp [touches]⟩
  case acknowledgeAll => exact ⟨_, _, _, fun _ => rfl, acknowledgeEvery_answers, by simp, by simp [touches]⟩
  case readZone => exact ⟨_, _, _, fun _ => rfl, fun s => readZoneAt_answers s _, by simp, by simp⟩
  case readFan => exact ⟨_, _, _, fun _ => rfl, fun s => readFanAt_answers s _, by simp, by simp⟩
  case readHead => exact ⟨_, _, _, fun _ => rfl, fun s => readHeadAt_answers s _, by simp, by simp⟩
  case readDamper => exact ⟨_, _, _, fun _ => rfl, fun s => readDamperAt_answers s _ _, by simp, by simp⟩
  case readConfig => exact ⟨_, _, _, fun _ => rfl, fun s => readConfigAt_answers s _ _, by simp, by simp⟩
  case saveConfig => exact ⟨_, _, _, fun _ => rfl, saveConfigNow_answers, by simp, by simp [touches]⟩
  case restart => exact ⟨_, _, _, fun _ => rfl, restartNow_answers, by simp, by simp [touches]⟩
  case writeConfig | tailLengthWrite | contactEnabledWrite | minimumSpeedWrite | windowBaseWrite | adjacencyWrite | stallMapWrite
      | floorCeilingWrite | gasLevelWrite | channelPlacementWrite =>
    exact requestRow_of_writeOf rfl
  all_goals exact absurd h (by simp [isRequest])

end Sys2Proof.Machine

/-! Every command and every step goes on, within the parts that take part in it; every request is answered, and one that is refused or dropped
changes no block. -/

namespace Sys2Proof.Machine

open State

/-! ### Requests at the port -/

theorem inFlight_port_mem_touches {i : Instr} (h : isRequest i = true) : .inFlight ∈ touches i ∧ .port ∈ touches i := by
  cases i <;> simp [isRequest, touches] at h ⊢

/-- The result of a command goes on, within some parts. -/
def GoesOn (parts : List Part) (s : State) (r : Result) : Prop := ∃ t, r = .next t ∧ onlyChanges parts s t

theorem onEvent_goesOn {parts : List Part} {i : Instr} {s : State} {f : State → State} (flight : .inFlight ∈ parts)
    (effect : ∀ u, onlyChanges parts u (f u)) : GoesOn parts s (onEvent i s f) :=
  ⟨_, rfl, onEvent_onlyChanges rfl effect flight⟩

theorem request_goesOn {i : Instr} (h : isRequest i = true) (s : State) : GoesOn (touches i) s (exec i s) := by
  obtain ⟨code, effect, parts, row⟩ := requestRow_of_isRequest h
  obtain ⟨flight, port⟩ := inFlight_port_mem_touches h
  rw [row.eq s]
  exact ⟨_, rfl, onRequest_onlyChanges rfl (fun u => onlyChanges_mono (row.answers u).frame row.within) flight port⟩

/-! ### The bytes of the link -/

/-- The row that a WRITE-CONFIG of an item is (R164). -/
def writeRow (item index value : Nat) : Instr :=
  match item with
  | 1 => .windowBaseWrite index value
  | 2 => .tailLengthWrite index value
  | 13 => .gasLevelWrite .coHigh index value
  | 14 => .gasLevelWrite .coClear index value
  | 15 => .gasLevelWrite .no2High index value
  | 16 => .gasLevelWrite .no2Clear index value
  | 31 => .floorCeilingWrite .floor index value
  | 32 => .floorCeilingWrite .ceiling index value
  | 37 => .adjacencyWrite index value
  | 38 => .contactEnabledWrite index value
  | 40 => .stallMapWrite .enabled index value
  | 41 => .stallMapWrite .zone index value
  | 50 => .channelPlacementWrite .role index value
  | 51 => .channelPlacementWrite .feed index value
  | 52 => .channelPlacementWrite .ratedFlow index value
  | 55 => .minimumSpeedWrite index value
  | _ => .writeConfig item index value

theorem takeWriteConfig_eq_exec (item index value : Nat) (s : State) :
    takeWriteConfig item index value s = exec (writeRow item index value) s := by
  unfold takeWriteConfig
  split
  case h_17 =>
    simp only [writeRow]
    rfl
  all_goals rfl

/-- The row that a code and a payload of its request length are (R164). -/
def commandRow (code : Nat) (p : List Byte) : Instr :=
  match code with
  | 0x01 => .identify
  | 0x02 => .readClock
  | 0x03 => .setClock (fieldAt p 0 2)
  | 0x10 => .arrive (fieldAt p 0 2) (fieldAt p 2 2) (fieldAt p 4 1) (fieldAt p 5 1) (fieldAt p 6 1) (fieldAt p 7 2)
  | 0x11 => .relocate (fieldAt p 0 2) (fieldAt p 2 2)
  | 0x12 => .activity (fieldAt p 0 2) (fieldAt p 2 1)
  | 0x13 => .renew (fieldAt p 0 2)
  | 0x14 => .setDeparture (fieldAt p 0 2) (fieldAt p 2 2)
  | 0x15 => .depart (fieldAt p 0 2)
  | 0x18 => .readStall (fieldAt p 0 2)
  | 0x19 => .findTag (fieldAt p 0 2)
  | 0x1A => .walkFirst (fieldAt p 0 2)
  | 0x1B => .walkNext
  | 0x20 => .readZone (fieldAt p 0 1)
  | 0x21 => .readFan (fieldAt p 0 1)
  | 0x22 => .readHead (fieldAt p 0 1)
  | 0x23 => .readDamper (fieldAt p 0 1) (fieldAt p 1 1)
  | 0x24 => .readLink
  | 0x28 => .readHazards (fieldAt p 0 1)
  | 0x29 => .acknowledge (fieldAt p 0 2)
  | 0x2A => .acknowledgeAll
  | 0x30 => .fanService (fieldAt p 0 1) (fieldAt p 1 1)
  | 0x38 => writeRow (fieldAt p 0 1) (fieldAt p 1 1) (fieldAt p 2 2)
  | 0x39 => .readConfig (fieldAt p 0 1) (fieldAt p 1 1)
  | 0x3A => .saveConfig
  | 0x3E => .fireReset
  | 0x3F => .restart
  | _ => .unknownCommand code

theorem takeCommand_eq_exec (code : Nat) (p : List Byte) (s : State) : takeCommand code p s = exec (commandRow code p) s := by
  unfold takeCommand
  split
  case h_23 => exact takeWriteConfig_eq_exec _ _ _ s
  case h_28 =>
    simp only [commandRow]
    rfl
  all_goals rfl

/-- The row that a request's code and payload are: an unknown command, a bad length, or the command's row (R162). -/
def decoded (code : Nat) (payload : List Byte) : Instr :=
  match requestLength code with
  | none => .unknownCommand code
  | some n => if payload.length = n then commandRow code payload else .badLength code

/-- Dispatching a request runs its row. -/
theorem dispatchRequest_eq_exec (code : Nat) (payload : List Byte) (s : State) :
    dispatchRequest code payload s = exec (decoded code payload) s := by
  unfold dispatchRequest decoded
  cases requestLength code with
  | none => rfl
  | some n =>
    dsimp only
    split
    · exact takeCommand_eq_exec _ _ s
    · rfl

theorem isRequest_writeRow (item index value : Nat) : isRequest (writeRow item index value) = true := by
  unfold writeRow
  split <;> rfl

theorem isRequest_decoded (code : Nat) (payload : List Byte) : isRequest (decoded code payload) = true := by
  unfold decoded
  split
  · rfl
  · split
    · unfold commandRow
      split
      case h_23 => exact isRequest_writeRow _ _ _
      all_goals rfl
    · rfl

/-- A complete frame runs a row of the table, a broadcast, or the discarding of a frame (R161 to R163). -/
theorem takeFrame_eq_exec (frame : List Byte) (s : State) :
    ∃ i, (isRequest i = true ∨ i = .requestFrameDiscarded ∨ ∃ code payload, i = .broadcastSetClock code payload) ∧
      takeFrame frame s = exec i s := by
  unfold takeFrame
  dsimp only
  split
  · exact ⟨.requestFrameDiscarded, .inr (.inl rfl), rfl⟩
  · split
    · exact ⟨.broadcastSetClock _ _, .inr (.inr ⟨_, _, rfl⟩), rfl⟩
    · split
      · exact ⟨_, .inl (isRequest_decoded _ _), dispatchRequest_eq_exec _ _ s⟩
      · exact ⟨.requestFrameDiscarded, .inr (.inl rfl), rfl⟩

/-- What a byte of the link does: it changes the port alone, or completes a frame, whose row it runs in the same step (log entry 11). -/
theorem execSupervisoryByteReceived_cases (b : Byte) (s : State) :
    (∃ t, exec (.supervisoryByteReceived b) s = .next t ∧ onlyChanges [.port, .inFlight] s t ∧
      t.inFlight = s.inFlight.erase (.supervisoryByteReceived b)) ∨
    ∃ i, (isRequest i = true ∨ i = .requestFrameDiscarded ∨ ∃ code payload, i = .broadcastSetClock code payload) ∧
      exec (.supervisoryByteReceived b) s = exec i (s.taken (.supervisoryByteReceived b)) := by
  have taken : onlyChanges [.port, .inFlight] s (s.taken (.supervisoryByteReceived b)) :=
    onlyChanges_mono (taken_onlyChanges _ _) (by simp)
  have stored (p : LinkPort) : onlyChanges [.port, .inFlight] s ((s.taken (.supervisoryByteReceived b)).setPort p) :=
    onlyChanges_trans taken (onlyChanges_mono (setPort_onlyChanges _ _) (by simp))
  show (∃ t, execSupervisoryByteReceived b s = .next t ∧ _) ∨ ∃ i, _ ∧ execSupervisoryByteReceived b s = _
  unfold execSupervisoryByteReceived
  dsimp only
  split
  · exact .inl ⟨_, rfl, taken, rfl⟩
  · split
    · refine .inl ⟨_, rfl, onlyChanges_ite (stored _) taken, ?_⟩
      split <;> rfl
    · unfold receiveByte
      dsimp only
      split
      · exact .inr ⟨.requestFrameDiscarded, .inr (.inl rfl), rfl⟩
      · split
        · exact .inr (takeFrame_eq_exec _ _)
        · exact .inl ⟨_, rfl, stored _, rfl⟩
    · exact .inl ⟨_, rfl, taken, rfl⟩

end Sys2Proof.Machine

/-! The frame of every event, and with it of every command and step (section 2.2). -/

namespace Sys2Proof.Machine

open State

/-! ### The effects of the events -/

theorem finishEvaluation_onlyChanges (z : Zone) (s : State) : onlyChanges [.zones, .inFlight] s (finishEvaluation z s) :=
  onlyChanges_ite
    (onlyChanges_trans (onlyChanges_mono (setZone_onlyChanges _ _ _) (by simp)) (onlyChanges_mono (emit_onlyChanges _ _) (by simp)))
    (onlyChanges_mono (setZone_onlyChanges _ _ _) (by simp))

/-- A zone's event changes its unit, and then takes an evaluation event. -/
theorem setZone_evaluationEvent_onlyChanges (s : State) (z : Zone) (u : ZoneUnit) :
    onlyChanges [.zones, .inFlight] s (evaluationEvent z (s.setZone z u)) :=
  onlyChanges_trans (onlyChanges_mono (setZone_onlyChanges _ _ _) (by simp)) (evaluationEvent_onlyChanges _ _)

theorem followPoll_onlyChanges (s : State) : onlyChanges [.inFlight] s (followPoll s) :=
  onlyChanges_ite (emit_onlyChanges _ _) (onlyChanges_refl _ _)

theorem reassess_requestZone_onlyChanges (s : State) (zone zone' : Option Zone) :
    onlyChanges [.sensors, .inFlight] s (requestZone (reassess s zone) zone') :=
  onlyChanges_trans (reassess_onlyChanges _ _) (onlyChanges_mono (requestZone_onlyChanges _ _) (by simp))

theorem setHead_onlyChanges' (s : State) (h : HeadAddr) (r : HeadRecord) : onlyChanges [.sensors, .inFlight] s (s.setHead h r) :=
  onlyChanges_mono (setHead_onlyChanges _ _ _) (by simp)

theorem requestZone_onlyChanges' (s : State) (zone : Option Zone) : onlyChanges [.sensors, .inFlight] s (requestZone s zone) :=
  onlyChanges_mono (requestZone_onlyChanges _ _) (by simp)

theorem dropHead_onlyChanges (s : State) (h : HeadAddr) : onlyChanges [.sensors, .inFlight] s (dropHead s h) := by
  have window (u : State) : onlyChanges [.sensors, .inFlight] u
      (if u.sensors.window = some h then u.setSensors { u.sensors with window := none } else u) :=
    onlyChanges_ite (onlyChanges_mono (setSensors_onlyChanges _ _) (by simp)) (onlyChanges_refl _ _)
  have dropped := onlyChanges_trans (setHead_onlyChanges' s h (HeadRecord.initial none))
    (onlyChanges_trans (window _) (onlyChanges_trans
      (onlyChanges_mono (reportChange_onlyChanges _ s.sensors.heads[h].lost false .sensorLost h.val) (by simp))
      (reassess_onlyChanges _ s.sensors.heads[h].zone)))
  exact onlyChanges_ite (onlyChanges_trans dropped (requestZone_onlyChanges' _ _)) dropped

theorem applyHeadZone_onlyChanges (s : State) (h : HeadAddr) : onlyChanges [.sensors, .inFlight] s (applyHeadZone s h) := by
  refine onlyChanges_ite (onlyChanges_refl _ _) ?_
  split
  · exact dropHead_onlyChanges _ _
  · rename_i b _
    have moved := onlyChanges_trans (setHead_onlyChanges' s h { s.sensors.heads[h] with zone := some b })
      (onlyChanges_trans (reassess_onlyChanges _ s.sensors.heads[h].zone) (reassess_onlyChanges _ (some b)))
    exact onlyChanges_ite
      (onlyChanges_trans moved (onlyChanges_trans (requestZone_onlyChanges' _ _) (requestZone_onlyChanges' _ _))) moved

theorem pollCycle_onlyChanges (s : State) :
    onlyChanges [.sensors, .inFlight] s
      (let t := allHeads.foldl applyHeadZone s
       followPoll (t.setSensors { t.sensors with due := configuredHeads t, cycleTimer := Config.pollCycleSeconds })) :=
  onlyChanges_trans (onlyChanges_foldl applyHeadZone_onlyChanges _ _)
    (onlyChanges_trans (onlyChanges_mono (setSensors_onlyChanges _ _) (by simp))
      (onlyChanges_mono (followPoll_onlyChanges _) (by simp)))

theorem takeGood_onlyChanges (s : State) (h : HeadAddr) (status : ReplyStatus) (rawCo rawNo2 : Int) :
    onlyChanges [.sensors, .inFlight] s (takeGood s h status rawCo rawNo2) := by
  have returned (u : State) (zone : Option Zone) : onlyChanges [.sensors, .inFlight] u
      (if s.sensors.heads[h].lost then reassess (u.report false .sensorLost h.val) zone else u) :=
    onlyChanges_ite (onlyChanges_trans (onlyChanges_mono (report_onlyChanges _ _ _ _) (by simp)) (reassess_onlyChanges _ _))
      (onlyChanges_refl _ _)
  have taken := onlyChanges_trans
    (setHead_onlyChanges' s h (goodRecord s.store.minute s.sensors.heads[h] status rawCo rawNo2)) (returned _ s.sensors.heads[h].zone)
  exact onlyChanges_ite (onlyChanges_trans taken (requestZone_onlyChanges' _ _)) taken

theorem loseHead_onlyChanges (s : State) (h : HeadAddr) : onlyChanges [.sensors, .inFlight] s (loseHead s h) :=
  onlyChanges_ite
    (onlyChanges_trans (setHead_onlyChanges' _ _ _) (onlyChanges_trans (onlyChanges_mono (report_onlyChanges _ _ _ _) (by simp))
      (reassess_requestZone_onlyChanges _ _ _)))
    (setHead_onlyChanges' _ _ _)

theorem gateInStarting_onlyChanges (s : State) (c : Chan) (f : FanRecord) :
    onlyChanges [.fans, .queueA, .queueB, .dampers, .gates, .inFlight] s (gateInStarting s c f) := by
  have fan (g : FanRecord) : onlyChanges [.fans, .queueA, .queueB, .dampers, .gates, .inFlight] s (s.setFan c g) :=
    onlyChanges_mono (setFan_onlyChanges _ _ _) (by simp)
  refine onlyChanges_ite (onlyChanges_ite ?_ (fan _)) (fan _)
  exact onlyChanges_trans (onlyChanges_mono (changeFan_onlyChanges _ _ _) (by simp))
    (onlyChanges_trans (onlyChanges_mono (reportChange_onlyChanges _ _ _ _ _) (by simp))
      (onlyChanges_trans (onlyChanges_mono (emit_onlyChanges _ _) (by simp))
        (onlyChanges_trans (onlyChanges_mono (releasePermit_onlyChanges _ _) (by simp)) (examine_onlyChanges _ _))))

theorem gateInRunning_onlyChanges (s : State) (c : Chan) (f : FanRecord) :
    onlyChanges [.fans, .queueA, .queueB, .dampers, .gates, .inFlight] s (gateInRunning s c f) := by
  have fan (g : FanRecord) : onlyChanges [.fans, .queueA, .queueB, .dampers, .gates, .inFlight] s (s.setFan c g) :=
    onlyChanges_mono (setFan_onlyChanges _ _ _) (by simp)
  exact onlyChanges_ite (fan _) (onlyChanges_ite
    (onlyChanges_ite (onlyChanges_mono (stopFan_onlyChanges _ _ _ _) (by simp)) (fan _)) (fan _))

theorem restartFan_onlyChanges (s : State) (c : Chan) : onlyChanges [.fans, .inFlight] s (restartFan s c) := by
  unfold restartFan
  split
  · exact clearFan_onlyChanges _ _ _
  · exact clearFan_onlyChanges _ _ _
  · exact onlyChanges_refl _ _

theorem leaveBlocking_onlyChanges (c : Chan) (s : State) (z : Zone) : onlyChanges [.dampers, .inFlight] s (leaveBlocking c s z) :=
  onlyChanges_ite
    (onlyChanges_ite (beginClose_onlyChanges _ _ _) (onlyChanges_mono (setDamper_onlyChanges _ _ _) (by simp)))
    (onlyChanges_refl _ _)

theorem enterBlocking_onlyChanges (s : State) (c : Chan) : onlyChanges [.dampers, .inFlight] s (enterBlocking s c) := by
  unfold enterBlocking
  split
  · exact onlyChanges_mono (setDamper_onlyChanges _ _ _) (by simp)
  · exact onlyChanges_refl _ _

theorem reportToDampers_onlyChanges (s : State) (c : Chan) : onlyChanges [.dampers, .inFlight] s (reportToDampers s c) :=
  onlyChanges_ite (enterBlocking_onlyChanges _ _) (onlyChanges_foldl (leaveBlocking_onlyChanges c) _ _)

theorem reportToGate_onlyChanges (s : State) (c : Chan) : onlyChanges [.gates, .inFlight] s (reportToGate s c) :=
  onlyChanges_ite (onlyChanges_refl _ _)
    (onlyChanges_ite (takeGateTarget_onlyChanges _ _ _ _) (onlyChanges_mono (setGate_onlyChanges _ _ _) (by simp)))

theorem takeOpen_onlyChanges (s : State) (z : Zone) (d : DamperRecord) : onlyChanges [.dampers, .inFlight] s (takeOpen s z d) := by
  unfold takeOpen
  dsimp only
  split
  all_goals first | exact beginOpen_onlyChanges _ _ _ | exact onlyChanges_mono (setDamper_onlyChanges _ _ _) (by simp)

theorem takeClose_onlyChanges (s : State) (z : Zone) (d : DamperRecord) : onlyChanges [.dampers, .inFlight] s (takeClose s z d) := by
  have damper (d : DamperRecord) : onlyChanges [.dampers, .inFlight] s (s.setDamper z d) :=
    onlyChanges_mono (setDamper_onlyChanges _ _ _) (by simp)
  unfold takeClose
  split
  all_goals first | exact damper _ | exact onlyChanges_ite (beginClose_onlyChanges _ _ _) (damper _)

theorem setFire_onlyChanges' (s : State) (f : FireInterface) : onlyChanges [.fire, .inFlight] s (s.setFire f) :=
  onlyChanges_mono (setFire_onlyChanges _ _) (by simp)

theorem takeCapability_onlyChanges (s : State) (w : CapabilityWord) : onlyChanges [.fire, .inFlight] s (takeCapability s w) := by
  have fire (f : FireInterface) := setFire_onlyChanges' s f
  have linked : onlyChanges [.fire, .inFlight] s (enterLinked s) :=
    onlyChanges_trans (fire _) (onlyChanges_mono (reportChange_onlyChanges _ _ _ _ _) (by simp))
  unfold takeCapability
  dsimp only
  split
  · exact onlyChanges_ite (fire _) (onlyChanges_ite (onlyChanges_refl _ _) (fire _))
  · exact onlyChanges_ite (fire _) (onlyChanges_ite (onlyChanges_refl _ _) (onlyChanges_ite (fire _) (fire _)))
  · exact onlyChanges_ite linked (fire _)
  all_goals exact onlyChanges_refl _ _

theorem bandChanged_onlyChanges (s : State) (z : Zone) : onlyChanges [.fire] s (bandChanged s z) := by
  unfold bandChanged
  dsimp only
  split
  · exact onlyChanges_refl _ _
  · exact setFire_onlyChanges _ _

theorem broadcastEffect_onlyChanges (s : State) (code : Nat) (payload : List Byte) :
    onlyChanges [.store] s (broadcastEffect s code payload) :=
  onlyChanges_ite (setStore_onlyChanges _ _) (onlyChanges_refl _ _)

/-! ### The inputs -/

/-- An input's event reads its pin anew with or without the supply; a running module takes the reading. -/
theorem pinEvent_onlyChanges {parts : List Part} {i : Instr} {s : State} {p : Pins} {b : Bool} {f : State → State}
    (effect : ∀ u, onlyChanges parts u (f u)) (flight : .inFlight ∈ parts) (pins : .pins ∈ parts) :
    onlyChanges parts s (if b then f ((s.taken i).setPins p) else (s.taken i).setPins p) := by
  have read : onlyChanges parts s ((s.taken i).setPins p) :=
    onlyChanges_trans (onlyChanges_mono (taken_onlyChanges _ _) (by simpa using flight))
      (onlyChanges_mono (setPins_onlyChanges _ _) (by simpa using pins))
  exact onlyChanges_ite (onlyChanges_trans read (effect _)) read

/-! ### Every event -/

theorem execPowerOn_goesOn (s : State) : GoesOn (touches .powerOn) s (execPowerOn s) :=
  ⟨_, rfl, fun p hp => by cases p <;> simp_all [samePart, touches, startingState]⟩

theorem execResetLineRelease_goesOn (s : State) : GoesOn (touches .resetLineRelease) s (execResetLineRelease s) :=
  ⟨_, rfl, fun p hp => by cases p <;> simp_all [samePart, touches, startingState]⟩

theorem execPowerLoss_goesOn (s : State) : GoesOn (touches .powerLoss) s (execPowerLoss s) :=
  ⟨_, rfl, fun p hp => by cases p <;> simp_all [samePart, touches]⟩

theorem execDepotClockMinute_goesOn (s : State) : GoesOn (touches .depotClockMinute) s (execDepotClockMinute s) :=
  onEvent_goesOn (by simp [touches]) fun u => onlyChanges_mono (setStore_onlyChanges _ _) (by simp [touches])

theorem execFrameSilenceTimeout_goesOn (s : State) : GoesOn (touches .frameSilenceTimeout) s (execFrameSilenceTimeout s) :=
  onEvent_goesOn (by simp [touches]) fun u =>
    onlyChanges_ite (onlyChanges_mono (dropFrame_onlyChanges _) (by simp [touches])) (onlyChanges_refl _ _)

theorem execRequestFrameDiscarded_goesOn (s : State) : GoesOn (touches .requestFrameDiscarded) s (execRequestFrameDiscarded s) :=
  onEvent_goesOn (by simp [touches]) fun u => onlyChanges_mono (dropFrame_onlyChanges _) (by simp [touches])

theorem execResponseSent_goesOn (s : State) : GoesOn (touches .responseSent) s (execResponseSent s) :=
  onEvent_goesOn (by simp [touches]) fun u =>
    onlyChanges_ite (onlyChanges_mono (setPort_onlyChanges _ _) (by simp [touches])) (onlyChanges_refl _ _)

theorem execBroadcastSetClock_goesOn (code : Nat) (payload : List Byte) (s : State) :
    GoesOn (touches (.broadcastSetClock code payload)) s (execBroadcastSetClock code payload s) := by
  refine onEvent_goesOn (by simp [touches]) fun u => ?_
  split
  · exact onlyChanges_refl _ _
  · exact onlyChanges_trans (onlyChanges_mono (broadcastEffect_onlyChanges _ _ _) (by simp [touches]))
      (onlyChanges_mono (dropFrame_onlyChanges _) (by simp [touches]))

theorem execAllowanceExpiry_goesOn (i : StallIdx) (s : State) :
    GoesOn (touches (.allowanceExpiry i)) s (execAllowanceExpiry i s) := by
  refine onEvent_goesOn (by simp [touches]) fun u => ?_
  split
  · exact onlyChanges_ite (onlyChanges_trans (onlyChanges_mono (setStall_onlyChanges _ _ _) (by simp [touches]))
      (onlyChanges_mono (requestZoneOf_onlyChanges _ _) (by simp [touches]))) (onlyChanges_refl _ _)
  · exact onlyChanges_refl _ _

theorem execStallSumRequest_goesOn (z : Zone) (s : State) : GoesOn (touches (.stallSumRequest z)) s (execStallSumRequest z s) :=
  onEvent_goesOn (by simp [touches]) fun u => onlyChanges_trans (onlyChanges_mono (setRoster_onlyChanges _ _) (by simp [touches]))
    (onlyChanges_mono (emit_onlyChanges _ _) (by simp [touches]))

theorem execRosterRestart_goesOn (s : State) : GoesOn (touches .rosterRestart) s (execRosterRestart s) :=
  onEvent_goesOn (by simp [touches]) fun u => onlyChanges_trans (onlyChanges_mono (setRoster_onlyChanges _ _) (by simp [touches]))
    (onlyChanges_mono (emit_onlyChanges _ _) (by simp [touches]))

theorem execEvaluationTimerExpiry_goesOn (z : Zone) (s : State) :
    GoesOn (touches (.evaluationTimerExpiry z)) s (execEvaluationTimerExpiry z s) :=
  onEvent_goesOn (by simp [touches]) fun u => setZone_evaluationEvent_onlyChanges _ _ _

theorem execEvaluationRequest_goesOn (z : Zone) (s : State) :
    GoesOn (touches (.evaluationRequest z)) s (execEvaluationRequest z s) :=
  onEvent_goesOn (by simp [touches]) fun u => evaluationEvent_onlyChanges _ _

theorem execEvaluationComplete_goesOn (z : Zone) (answer : RosterAnswer) (s : State) :
    GoesOn (touches (.evaluationComplete z answer)) s (execEvaluationComplete z answer s) := by
  refine onEvent_goesOn (by simp [touches]) fun u => ?_
  split
  · exact onlyChanges_refl _ _
  · exact onlyChanges_ite
      (onlyChanges_trans (onlyChanges_mono (setZone_onlyChanges _ _ _) (by simp [touches]))
        (onlyChanges_mono (emit_onlyChanges _ _) (by simp [touches])))
      (onlyChanges_trans (onlyChanges_mono (setZone_onlyChanges _ _ _) (by simp [touches]))
        (onlyChanges_trans (onlyChanges_mono (emit_onlyChanges _ _) (by simp [touches])) (finishEvaluation_onlyChanges _ _)))

theorem execClearDelayRunOut_goesOn (z : Zone) (s : State) :
    GoesOn (touches (.clearDelayRunOut z)) s (execClearDelayRunOut z s) := by
  refine onEvent_goesOn (by simp [touches]) fun u => ?_
  split
  · exact setZone_evaluationEvent_onlyChanges _ _ _
  · exact onlyChanges_refl _ _

theorem execQuietEntryTimerExpiry_goesOn (z : Zone) (s : State) :
    GoesOn (touches (.quietEntryTimerExpiry z)) s (execQuietEntryTimerExpiry z s) := by
  refine onEvent_goesOn (by simp [touches]) fun u => ?_
  split
  · exact setZone_evaluationEvent_onlyChanges _ _ _
  · exact onlyChanges_refl _ _

theorem execPulseTimerExpiry_goesOn (z : Zone) (s : State) :
    GoesOn (touches (.pulseTimerExpiry z)) s (execPulseTimerExpiry z s) := by
  refine onEvent_goesOn (by simp [touches]) fun u => ?_
  split
  · exact setZone_evaluationEvent_onlyChanges _ _ _
  · exact onlyChanges_refl _ _

theorem execSpaceTimerExpiry_goesOn (z : Zone) (s : State) :
    GoesOn (touches (.spaceTimerExpiry z)) s (execSpaceTimerExpiry z s) := by
  refine onEvent_goesOn (by simp [touches]) fun u => ?_
  split
  · exact setZone_evaluationEvent_onlyChanges _ _ _
  · exact onlyChanges_refl _ _

theorem execZoneRestart_goesOn (z : Zone) (s : State) : GoesOn (touches (.zoneRestart z)) s (execZoneRestart z s) := by
  refine onEvent_goesOn (by simp [touches]) fun u => ?_
  have report := onlyChanges_mono (reportChange_onlyChanges u u.zones[z].gasHigh false .gasHigh z.val)
    (show _ ⊆ touches (.zoneRestart z) by simp [touches])
  dsimp only
  split
  · exact onlyChanges_trans report (onlyChanges_mono (setZone_onlyChanges _ _ _) (by simp [touches]))
  · exact onlyChanges_trans report (onlyChanges_trans (onlyChanges_mono (setZone_onlyChanges _ _ _) (by simp [touches]))
      (onlyChanges_mono (emit_onlyChanges _ _) (by simp [touches])))

theorem execStandbyClearedReport_goesOn (z : Zone) (s : State) :
    GoesOn (touches (.standbyClearedReport z)) s (execStandbyClearedReport z s) :=
  onEvent_goesOn (by simp [touches]) fun u => setZone_evaluationEvent_onlyChanges _ _ _

theorem execFanTargets_goesOn (z : Zone) (targets : List (Chan × FanTarget)) (s : State) :
    GoesOn (touches (.fanTargets z targets)) s (execFanTargets z targets s) :=
  onEvent_goesOn (by simp [touches]) fun u => onlyChanges_trans (onlyChanges_mono (takeTargets_onlyChanges _ _ _) (by simp [touches]))
    (examineTouched_onlyChanges _ _)

theorem execStandbyOffTarget_goesOn (c : Chan) (s : State) :
    GoesOn (touches (.standbyOffTarget c)) s (execStandbyOffTarget c s) := by
  have taken (u : State) := onlyChanges_mono (takeTarget_onlyChanges u c .off)
    (show _ ⊆ touches (.standbyOffTarget c) by simp [touches])
  exact onEvent_goesOn (by simp [touches]) fun u => onlyChanges_ite (onlyChanges_trans (taken u) (examine_onlyChanges _ _)) (taken u)

theorem execPathCheck_goesOn (c : Chan) (s : State) : GoesOn (touches (.pathCheck c)) s (execPathCheck c s) :=
  onEvent_goesOn (by simp [touches]) fun u => onlyChanges_ite (startFan_onlyChanges _ _) (onlyChanges_refl _ _)

theorem execTachGateComplete_goesOn (c : Chan) (edges : Nat) (s : State) :
    GoesOn (touches (.tachGateComplete c edges)) s (execTachGateComplete c edges s) := by
  refine onEvent_goesOn (by simp [touches]) fun u => ?_
  have stored (f : FanRecord) := onlyChanges_mono (setFan_onlyChanges u c f)
    (show _ ⊆ touches (.tachGateComplete c edges) by simp [touches])
  dsimp only
  split
  · exact gateInStarting_onlyChanges _ _ _
  · exact gateInRunning_onlyChanges _ _ _
  · exact onlyChanges_ite (onlyChanges_trans (stored _) (finishRundown_onlyChanges _ _)) (stored _)
  · exact stored _

theorem execStartWindowRunOut_goesOn (c : Chan) (s : State) :
    GoesOn (touches (.startWindowRunOut c)) s (execStartWindowRunOut c s) :=
  onEvent_goesOn (by simp [touches]) fun u => onlyChanges_ite
    (onlyChanges_trans (onlyChanges_mono (stopFan_onlyChanges _ _ _ _) (by simp [touches]))
      (onlyChanges_trans (onlyChanges_mono (releasePermit_onlyChanges _ _) (by simp [touches])) (examine_onlyChanges _ _)))
    (onlyChanges_refl _ _)

theorem execSettleTimeExpiry_goesOn (c : Chan) (s : State) :
    GoesOn (touches (.settleTimeExpiry c)) s (execSettleTimeExpiry c s) :=
  onEvent_goesOn (by simp [touches]) fun u => onlyChanges_mono (setFan_onlyChanges _ _ _) (by simp [touches])

theorem execCleanRunExpiry_goesOn (c : Chan) (s : State) : GoesOn (touches (.cleanRunExpiry c)) s (execCleanRunExpiry c s) := by
  refine onEvent_goesOn (by simp [touches]) fun u => ?_
  split
  · exact onlyChanges_mono (setFan_onlyChanges _ _ _) (by simp [touches])
  · exact onlyChanges_refl _ _

theorem execRundownLimitExpiry_goesOn (c : Chan) (s : State) :
    GoesOn (touches (.rundownLimitExpiry c)) s (execRundownLimitExpiry c s) :=
  onEvent_goesOn (by simp [touches]) fun u => onlyChanges_ite (finishRundown_onlyChanges _ _) (onlyChanges_refl _ _)

theorem execRetryWaitExpiry_goesOn (c : Chan) (s : State) : GoesOn (touches (.retryWaitExpiry c)) s (execRetryWaitExpiry c s) :=
  onEvent_goesOn (by simp [touches]) fun u => onlyChanges_ite
    (onlyChanges_trans (onlyChanges_mono (joinQueue_onlyChanges _ _ _) (by simp [touches])) (examine_onlyChanges _ _))
    (onlyChanges_refl _ _)

theorem execFanRestart_goesOn (s : State) : GoesOn (touches .fanRestart) s (execFanRestart s) :=
  onEvent_goesOn (by simp [touches]) fun u => onlyChanges_foldl restartFan_onlyChanges _ _

theorem execFanStateReport_goesOn (c : Chan) (s : State) : GoesOn (touches (.fanStateReport c)) s (execFanStateReport c s) :=
  onEvent_goesOn (by simp [touches]) fun u => onlyChanges_trans
    (onlyChanges_ite (onlyChanges_refl _ _) (onlyChanges_mono (syncGate_onlyChanges _ _) (by simp [touches])))
    (onlyChanges_trans (onlyChanges_mono (reportToDampers_onlyChanges _ _) (by simp [touches]))
      (onlyChanges_mono (reportToGate_onlyChanges _ _) (by simp [touches])))

theorem execDamperRequest_goesOn (z : Zone) (request : DamperRequest) (s : State) :
    GoesOn (touches (.damperRequest z request)) s (execDamperRequest z request s) := by
  refine onEvent_goesOn (by simp [touches]) fun u => onlyChanges_ite (onlyChanges_refl _ _) ?_
  dsimp only
  split
  · exact takeOpen_onlyChanges _ _ _
  · exact takeOpen_onlyChanges _ _ _
  · exact takeClose_onlyChanges _ _ _
  · exact onlyChanges_mono (setDamper_onlyChanges _ _ _) (by simp [touches])

theorem execEndSwitchChange_goesOn (z : Zone) (openSwitch closedSwitch : Bool) (s : State) :
    GoesOn (touches (.endSwitchChange z openSwitch closedSwitch)) s (execEndSwitchChange z openSwitch closedSwitch s) := by
  refine ⟨_, rfl, pinEvent_onlyChanges (f := fun u => switchEvent u z) (fun u => ?_) (by simp [touches]) (by simp [touches])⟩
  exact onlyChanges_ite (onlyChanges_refl _ _) (onlyChanges_mono (moveDamper_onlyChanges _ _ _ _ _) (by simp [touches]))

theorem execDamperTravelTimeout_goesOn (z : Zone) (s : State) :
    GoesOn (touches (.damperTravelTimeout z)) s (execDamperTravelTimeout z s) := by
  refine onEvent_goesOn (by simp [touches]) fun u => ?_
  split
  · exact moveDamper_onlyChanges _ _ _ _ _
  · exact moveDamper_onlyChanges _ _ _ _ _
  · exact onlyChanges_refl _ _

theorem execDamperOpenReport_goesOn (z : Zone) (f : Feed) (s : State) :
    GoesOn (touches (.damperOpenReport z f)) s (execDamperOpenReport z f s) :=
  onEvent_goesOn (by simp [touches]) fun u => examine_onlyChanges _ _

theorem execGateAtReport_goesOn (c : Chan) (f : Feed) (s : State) :
    GoesOn (touches (.gateAtReport c f)) s (execGateAtReport c f s) :=
  onEvent_goesOn (by simp [touches]) fun u => examine_onlyChanges _ _

theorem execGrantReport_goesOn (c : Chan) (f : Feed) (s : State) :
    GoesOn (touches (.grantReport c f)) s (execGrantReport c f s) :=
  onEvent_goesOn (by simp [touches]) fun u => examine_onlyChanges _ _

theorem execGateCommand_goesOn (c : Chan) (target : GateTarget) (s : State) :
    GoesOn (touches (.gateCommand c target)) s (execGateCommand c target s) :=
  onEvent_goesOn (by simp [touches]) fun u => onlyChanges_ite (onlyChanges_refl _ _) (onlyChanges_ite (onlyChanges_refl _ _)
    (onlyChanges_ite (takeGateTarget_onlyChanges _ _ _ _) (onlyChanges_mono (setGate_onlyChanges _ _ _) (by simp [touches]))))

theorem execGateFeedbackBandChange_goesOn (c : Chan) (band : GateBand) (s : State) :
    GoesOn (touches (.gateFeedbackBandChange c band)) s (execGateFeedbackBandChange c band s) := by
  refine ⟨_, rfl, pinEvent_onlyChanges (f := fun u => bandEvent u c band) (fun u => ?_) (by simp [touches]) (by simp [touches])⟩
  exact onlyChanges_ite (onlyChanges_refl _ _) (onlyChanges_mono (moveGate_onlyChanges _ _ _ _ _) (by simp [touches]))

theorem execGateTravelTimeout_goesOn (c : Chan) (s : State) :
    GoesOn (touches (.gateTravelTimeout c)) s (execGateTravelTimeout c s) :=
  onEvent_goesOn (by simp [touches]) fun u => onlyChanges_ite (moveGate_onlyChanges _ _ _ _ _) (onlyChanges_refl _ _)

theorem execStandbyRequestRaise_goesOn (z : Zone) (call : StandbyCall) (s : State) :
    GoesOn (touches (.standbyRequestRaise z call)) s (execStandbyRequestRaise z call s) :=
  onEvent_goesOn (by simp [touches]) fun u => runOn_onlyChanges _ _

theorem execStandbyRequestChange_goesOn (z : Zone) (call : StandbyCall) (s : State) :
    GoesOn (touches (.standbyRequestChange z call)) s (execStandbyRequestChange z call s) :=
  onEvent_goesOn (by simp [touches]) fun u => runOn_onlyChanges _ _

theorem execStandbyRequestWithdraw_goesOn (z : Zone) (s : State) :
    GoesOn (touches (.standbyRequestWithdraw z)) s (execStandbyRequestWithdraw z s) :=
  onEvent_goesOn (by simp [touches]) fun u => runOn_onlyChanges _ _

theorem execGateJamReport_goesOn (c : Chan) (s : State) : GoesOn (touches (.gateJamReport c)) s (execGateJamReport c s) :=
  onEvent_goesOn (by simp [touches]) fun u => runOn_onlyChanges _ _

theorem execStandbyAvailabilityReport_goesOn (c : Chan) (leftService : Bool) (s : State) :
    GoesOn (touches (.standbyAvailabilityReport c leftService)) s (execStandbyAvailabilityReport c leftService s) :=
  onEvent_goesOn (by simp [touches]) fun u => onlyChanges_trans (runOn_onlyChanges _ _) (onlyChanges_mono (emit_onlyChanges _ _) (by simp [touches]))

theorem execCoverTimerExpiry_goesOn (z : Zone) (s : State) :
    GoesOn (touches (.coverTimerExpiry z)) s (execCoverTimerExpiry z s) := by
  refine onEvent_goesOn (by simp [touches]) fun u => ?_
  split
  · exact onlyChanges_refl _ _
  · exact onlyChanges_trans (onlyChanges_mono (setAlloc_onlyChanges _ _) (by simp [touches]))
      (onlyChanges_mono (reportChange_onlyChanges _ _ _ _ _) (by simp [touches]))

theorem execAllocatorRestart_goesOn (s : State) : GoesOn (touches .allocatorRestart) s (execAllocatorRestart s) :=
  onEvent_goesOn (by simp [touches]) fun u => onlyChanges_trans (onlyChanges_mono (setAlloc_onlyChanges _ _) (by simp [touches]))
    (onlyChanges_mono (emit_onlyChanges _ _) (by simp [touches]))

theorem execPollCycleStart_goesOn (s : State) : GoesOn (touches .pollCycleStart) s (execPollCycleStart s) :=
  onEvent_goesOn (by simp [touches]) fun u => pollCycle_onlyChanges _

theorem execHeadPoll_goesOn (s : State) : GoesOn (touches .headPoll) s (execHeadPoll s) := by
  refine onEvent_goesOn (by simp [touches]) fun u => ?_
  split
  · exact onlyChanges_mono (setSensors_onlyChanges _ _) (by simp [touches])
  · exact onlyChanges_refl _ _

theorem execHeadReply_goesOn (address : Nat) (status : ReplyStatus) (rawCo rawNo2 : Int) (checkHolds : Bool) (s : State) :
    GoesOn (touches (.headReply address status rawCo rawNo2 checkHolds)) s (execHeadReply address status rawCo rawNo2 checkHolds s) := by
  refine onEvent_goesOn (by simp [touches]) fun u => ?_
  split
  · exact onlyChanges_refl _ _
  · exact onlyChanges_ite (onlyChanges_trans (onlyChanges_ite (takeGood_onlyChanges _ _ _ _ _) (setHead_onlyChanges' _ _ _))
      (endTransaction_onlyChanges _)) (onlyChanges_refl _ _)

theorem execReplyWindowEnd_goesOn (s : State) : GoesOn (touches .replyWindowEnd) s (execReplyWindowEnd s) := by
  refine onEvent_goesOn (by simp [touches]) fun u => ?_
  split
  · exact onlyChanges_refl _ _
  · exact onlyChanges_trans (setHead_onlyChanges' _ _ _) (endTransaction_onlyChanges _)

theorem execHoldTimerExpiry_goesOn (h : HeadAddr) (s : State) :
    GoesOn (touches (.holdTimerExpiry h)) s (execHoldTimerExpiry h s) :=
  onEvent_goesOn (by simp [touches]) fun u => onlyChanges_ite (loseHead_onlyChanges _ _) (onlyChanges_refl _ _)

theorem execContactBandChange_goesOn (z : Zone) (ohms : Nat) (s : State) :
    GoesOn (touches (.contactBandChange z ohms)) s (execContactBandChange z ohms s) :=
  ⟨_, rfl, pinEvent_onlyChanges (f := fun u => bandChanged u z)
    (fun u => onlyChanges_mono (bandChanged_onlyChanges _ _) (by simp [touches])) (by simp [touches]) (by simp [touches])⟩

theorem execContactConfirmationExpiry_goesOn (z : Zone) (s : State) :
    GoesOn (touches (.contactConfirmationExpiry z)) s (execContactConfirmationExpiry z s) :=
  onEvent_goesOn (by simp [touches]) fun u => onlyChanges_ite (enterContact_onlyChanges _ _ _) (onlyChanges_refl _ _)

theorem execPanelFrameDiscarded_goesOn (s : State) : GoesOn (touches .panelFrameDiscarded) s (execPanelFrameDiscarded s) :=
  onEvent_goesOn (by simp [touches]) fun u => onlyChanges_refl _ _

theorem execCapabilityWord_goesOn (w : CapabilityWord) (s : State) :
    GoesOn (touches (.capabilityWord w)) s (execCapabilityWord w s) :=
  onEvent_goesOn (by simp [touches]) fun u => takeCapability_onlyChanges _ _

theorem execStatusFrame_goesOn (flags : BitVec 8) (s : State) :
    GoesOn (touches (.statusFrame flags)) s (execStatusFrame flags s) :=
  onEvent_goesOn (by simp [touches]) fun u => onlyChanges_ite
    (onlyChanges_trans (setFire_onlyChanges' _ _) (onlyChanges_foldl setLatch_onlyChanges _ _)) (onlyChanges_refl _ _)

theorem execFireServiceCommand_goesOn (zone : Nat) (word : FireServiceWord) (s : State) :
    GoesOn (touches (.fireServiceCommand zone word)) s (execFireServiceCommand zone word s) := by
  refine onEvent_goesOn (by simp [touches]) fun u => ?_
  split
  · exact onlyChanges_refl _ _
  · exact onlyChanges_ite (onlyChanges_trans (setFire_onlyChanges' _ _) (onlyChanges_mono (emit_onlyChanges _ _) (by simp [touches])))
      (onlyChanges_refl _ _)

theorem execPanelResetWord_goesOn (s : State) : GoesOn (touches .panelResetWord) s (execPanelResetWord s) :=
  onEvent_goesOn (by simp [touches]) fun u => onlyChanges_ite (resetFire_onlyChanges _) (onlyChanges_refl _ _)

theorem execHearingTimerExpiry_goesOn (s : State) : GoesOn (touches .hearingTimerExpiry) s (execHearingTimerExpiry s) :=
  onEvent_goesOn (by simp [touches]) fun u => onlyChanges_ite (setFire_onlyChanges' _ _) (onlyChanges_refl _ _)

theorem execStateTimerExpiry_goesOn (s : State) : GoesOn (touches .stateTimerExpiry) s (execStateTimerExpiry s) := by
  refine onEvent_goesOn (by simp [touches]) fun u => ?_
  split
  · exact setFire_onlyChanges' _ _
  · exact setFire_onlyChanges' _ _
  · exact setFire_onlyChanges' _ _
  · exact onlyChanges_refl _ _

theorem execSupervisionTimerExpiry_goesOn (s : State) :
    GoesOn (touches .supervisionTimerExpiry) s (execSupervisionTimerExpiry s) :=
  onEvent_goesOn (by simp [touches]) fun u => onlyChanges_ite (onlyChanges_trans (setFire_onlyChanges' _ _)
    (onlyChanges_mono (reportChange_onlyChanges _ _ _ _ _) (by simp [touches]))) (onlyChanges_refl _ _)

theorem execConditionActiveReport_goesOn (kind : HazardKind) (source : Nat) (s : State) :
    GoesOn (touches (.conditionActiveReport kind source)) s (execConditionActiveReport kind source s) :=
  onEvent_goesOn (by simp [touches]) fun u => onlyChanges_mono (setHazards_onlyChanges _ _) (by simp [touches])

theorem execConditionClearReport_goesOn (kind : HazardKind) (source : Nat) (s : State) :
    GoesOn (touches (.conditionClearReport kind source)) s (execConditionClearReport kind source s) :=
  onEvent_goesOn (by simp [touches]) fun u => onlyChanges_mono (setHazards_onlyChanges _ _) (by simp [touches])

theorem execHazardRestart_goesOn (s : State) : GoesOn (touches .hazardRestart) s (execHazardRestart s) :=
  onEvent_goesOn (by simp [touches]) fun u => onlyChanges_mono (setHazards_onlyChanges _ _) (by simp [touches])

theorem execSaveComplete_goesOn (readBack : ReadBack) (s : State) :
    GoesOn (touches (.saveComplete readBack)) s (execSaveComplete readBack s) := by
  refine onEvent_goesOn (by simp [touches]) fun u => ?_
  split
  · exact onlyChanges_mono (setStore_onlyChanges _ _) (by simp [touches])
  · exact onlyChanges_refl _ _

/-- Every event that no request brings goes on within its parts, but for the bytes of the link. -/
theorem event_goesOn {i : Instr} (event : isRequest i = false) (h : ∀ b, i ≠ .supervisoryByteReceived b) (s : State) :
    GoesOn (touches i) s (exec i s) := by
  cases i
  case powerOn => exact execPowerOn_goesOn s
  case resetLineRelease => exact execResetLineRelease_goesOn s
  case powerLoss => exact execPowerLoss_goesOn s
  case depotClockMinute => exact execDepotClockMinute_goesOn s
  case frameSilenceTimeout => exact execFrameSilenceTimeout_goesOn s
  case requestFrameDiscarded => exact execRequestFrameDiscarded_goesOn s
  case responseSent => exact execResponseSent_goesOn s
  case broadcastSetClock => exact execBroadcastSetClock_goesOn _ _ s
  case allowanceExpiry => exact execAllowanceExpiry_goesOn _ s
  case stallSumRequest => exact execStallSumRequest_goesOn _ s
  case rosterRestart => exact execRosterRestart_goesOn s
  case evaluationTimerExpiry => exact execEvaluationTimerExpiry_goesOn _ s
  case evaluationRequest => exact execEvaluationRequest_goesOn _ s
  case evaluationComplete => exact execEvaluationComplete_goesOn _ _ s
  case clearDelayRunOut => exact execClearDelayRunOut_goesOn _ s
  case quietEntryTimerExpiry => exact execQuietEntryTimerExpiry_goesOn _ s
  case pulseTimerExpiry => exact execPulseTimerExpiry_goesOn _ s
  case spaceTimerExpiry => exact execSpaceTimerExpiry_goesOn _ s
  case zoneRestart => exact execZoneRestart_goesOn _ s
  case standbyClearedReport => exact execStandbyClearedReport_goesOn _ s
  case fanTargets => exact execFanTargets_goesOn _ _ s
  case standbyOffTarget => exact execStandbyOffTarget_goesOn _ s
  case pathCheck => exact execPathCheck_goesOn _ s
  case tachGateComplete => exact execTachGateComplete_goesOn _ _ s
  case startWindowRunOut => exact execStartWindowRunOut_goesOn _ s
  case settleTimeExpiry => exact execSettleTimeExpiry_goesOn _ s
  case cleanRunExpiry => exact execCleanRunExpiry_goesOn _ s
  case rundownLimitExpiry => exact execRundownLimitExpiry_goesOn _ s
  case retryWaitExpiry => exact execRetryWaitExpiry_goesOn _ s
  case fanRestart => exact execFanRestart_goesOn s
  case fanStateReport => exact execFanStateReport_goesOn _ s
  case damperRequest => exact execDamperRequest_goesOn _ _ s
  case endSwitchChange => exact execEndSwitchChange_goesOn _ _ _ s
  case damperTravelTimeout => exact execDamperTravelTimeout_goesOn _ s
  case damperOpenReport => exact execDamperOpenReport_goesOn _ _ s
  case gateAtReport => exact execGateAtReport_goesOn _ _ s
  case grantReport => exact execGrantReport_goesOn _ _ s
  case gateCommand => exact execGateCommand_goesOn _ _ s
  case gateFeedbackBandChange => exact execGateFeedbackBandChange_goesOn _ _ s
  case gateTravelTimeout => exact execGateTravelTimeout_goesOn _ s
  case standbyRequestRaise => exact execStandbyRequestRaise_goesOn _ _ s
  case standbyRequestChange => exact execStandbyRequestChange_goesOn _ _ s
  case standbyRequestWithdraw => exact execStandbyRequestWithdraw_goesOn _ s
  case gateJamReport => exact execGateJamReport_goesOn _ s
  case standbyAvailabilityReport => exact execStandbyAvailabilityReport_goesOn _ _ s
  case coverTimerExpiry => exact execCoverTimerExpiry_goesOn _ s
  case allocatorRestart => exact execAllocatorRestart_goesOn s
  case pollCycleStart => exact execPollCycleStart_goesOn s
  case headPoll => exact execHeadPoll_goesOn s
  case headReply => exact execHeadReply_goesOn _ _ _ _ _ s
  case replyWindowEnd => exact execReplyWindowEnd_goesOn s
  case holdTimerExpiry => exact execHoldTimerExpiry_goesOn _ s
  case contactBandChange => exact execContactBandChange_goesOn _ _ s
  case contactConfirmationExpiry => exact execContactConfirmationExpiry_goesOn _ s
  case panelFrameDiscarded => exact execPanelFrameDiscarded_goesOn s
  case capabilityWord => exact execCapabilityWord_goesOn _ s
  case statusFrame => exact execStatusFrame_goesOn _ s
  case fireServiceCommand => exact execFireServiceCommand_goesOn _ _ s
  case panelResetWord => exact execPanelResetWord_goesOn s
  case hearingTimerExpiry => exact execHearingTimerExpiry_goesOn s
  case stateTimerExpiry => exact execStateTimerExpiry_goesOn s
  case supervisionTimerExpiry => exact execSupervisionTimerExpiry_goesOn s
  case conditionActiveReport => exact execConditionActiveReport_goesOn _ _ s
  case conditionClearReport => exact execConditionClearReport_goesOn _ _ s
  case hazardRestart => exact execHazardRestart_goesOn s
  case saveComplete => exact execSaveComplete_goesOn _ s
  case supervisoryByteReceived b => exact absurd rfl (h b)
  all_goals exact absurd event (by simp [isRequest])

/-! ### Every command, and every step -/

/-- The rows that a frame brings take their part among those of the byte that completes it (log entry 11). -/
theorem touches_subset_byte {i : Instr} (b : Byte)
    (h : isRequest i = true ∨ i = .requestFrameDiscarded ∨ ∃ code payload, i = .broadcastSetClock code payload) :
    touches i ⊆ touches (.supervisoryByteReceived b) := by
  obtain request | rfl | ⟨code, payload, rfl⟩ := h
  · cases i <;> simp [isRequest, touches] at request ⊢
  · simp [touches]
  · simp [touches]

theorem byte_goesOn (b : Byte) (s : State) :
    GoesOn (touches (.supervisoryByteReceived b)) s (exec (.supervisoryByteReceived b) s) := by
  obtain ⟨t, eq, frame, _⟩ | ⟨i, row, eq⟩ := execSupervisoryByteReceived_cases b s
  · exact ⟨t, eq, onlyChanges_mono frame (by simp [touches])⟩
  · have ran : GoesOn (touches i) (s.taken (.supervisoryByteReceived b)) (exec i (s.taken (.supervisoryByteReceived b))) := by
      obtain request | rfl | ⟨code, payload, rfl⟩ := row
      · exact request_goesOn request _
      · exact execRequestFrameDiscarded_goesOn _
      · exact execBroadcastSetClock_goesOn _ _ _
    obtain ⟨t, result, frame⟩ := ran
    exact ⟨t, eq.trans result, onlyChanges_trans
      (onlyChanges_mono (taken_onlyChanges _ _) (by simp [touches])) (onlyChanges_mono frame (touches_subset_byte b row))⟩

theorem exec_goesOn (i : Instr) (s : State) : GoesOn (touches i) s (exec i s) := by
  by_cases request : isRequest i = true
  · exact request_goesOn request s
  · by_cases byte : ∃ b, i = .supervisoryByteReceived b
    · obtain ⟨b, rfl⟩ := byte
      exact byte_goesOn b s
    · exact event_goesOn (by simpa using request) (fun b eq => byte ⟨b, eq⟩) s

theorem pending_not_mem_touches (i : Instr) : .pending ∉ touches i := by
  cases i <;> simp [touches]

/-- A command leaves the queue of commands as it is. -/
theorem exec_pending {i : Instr} {s t : State} (h : exec i s = .next t) : t.pending = s.pending := by
  obtain ⟨t', eq, frame⟩ := exec_goesOn i s
  obtain rfl : t = t' := by rw [h] at eq; injection eq
  exact frame .pending (pending_not_mem_touches i)

theorem takeEach_cons (i : Instr) (l : List Instr) (s : State) :
    takeEach (i :: l) s = match exec i s with
      | .next t => takeEach l t
      | .fault f => .fault f
      | .refused r => .refused r := rfl

theorem takeEach_cons_of_next {i : Instr} {s t : State} (h : exec i s = .next t) (l : List Instr) :
    takeEach (i :: l) s = takeEach l t := by
  rw [takeEach_cons, h]

/-- Events taken one after another keep what each of them keeps. -/
theorem takeEach_keeps {P : State → Prop} (keeps : ∀ {i s t}, P s → exec i s = .next t → P t) :
    ∀ (l : List Instr) {s : State}, P s → ∃ t, takeEach l s = .next t ∧ P t
  | [], s, h => ⟨s, rfl, h⟩
  | i :: l, s, h => by
    obtain ⟨t, eq, _⟩ := exec_goesOn i s
    obtain ⟨u, taken, hu⟩ := takeEach_keeps keeps l (keeps h eq)
    exact ⟨u, (takeEach_cons_of_next eq l).trans taken, hu⟩

/-- What the module does of its own has a next state, which has what every command and the counting of the timers keep. -/
theorem idle_keeps {P : State → Prop} (tick : ∀ s, P s → P s.tick) (keeps : ∀ {i s t}, P s → exec i s = .next t → P t) (s : State)
    (h : P s) : ∃ t, idle s = .next t ∧ P t := by
  have goes (i : Instr) : ∃ t, exec i s = .next t ∧ P t := by
    obtain ⟨t, eq, _⟩ := exec_goesOn i s
    exact ⟨t, eq, keeps h eq⟩
  unfold idle passSecond
  split
  · exact ⟨s, rfl, h⟩
  · split
    · exact goes _
    · split
      · exact goes _
      · split
        · exact goes _
        · exact takeEach_keeps keeps _ (tick s h)

/-- A step has a next state, which has what every command, the counting of the timers and the queue of commands keep. -/
theorem step_keeps {P : State → Prop} (unqueued : ∀ s l, P s → P { s with pending := l })
    (tick : ∀ s, P s → P s.tick) (keeps : ∀ {i s t}, P s → exec i s = .next t → P t) (s : State) (h : P s) :
    ∃ t, step s = .next t ∧ P t := by
  unfold step
  split
  · exact idle_keeps tick keeps s h
  next i rest _ =>
    obtain ⟨t, eq, _⟩ := exec_goesOn i { s with pending := rest }
    exact ⟨t, eq, keeps (unqueued s rest h) eq⟩

/-- A step takes one command off the queue. -/
theorem step_pending (s : State) : ∃ t, step s = .next t ∧ t.pending = s.pending.tail := by
  unfold step
  split
  next queue =>
    obtain ⟨t, eq, empty⟩ :=
      idle_keeps (P := fun u => u.pending = []) (fun _ h => h) (fun h eq => (exec_pending eq).trans h) s queue
    exact ⟨t, eq, by rw [empty, queue, List.tail_nil]⟩
  next i rest queue =>
    obtain ⟨t, eq, _⟩ := exec_goesOn i { s with pending := rest }
    exact ⟨t, eq, by rw [exec_pending eq, queue, List.tail_cons]⟩

/-! ### The obligations -/

/-- Settles O1: a step at a queue with a front is that command's `exec`, by definition. -/
theorem frontOfQueueRunsExec : Obligations.FrontOfQueueRunsExec := fun _ _ _ => rfl

/-- Settles O3: every row has its frame, and no row's frame reaches the queue. -/
theorem everyCommandGoesOnWithinItsParts : Obligations.EveryCommandGoesOnWithinItsParts :=
  ⟨exec_goesOn, step_pending⟩

end Sys2Proof.Machine

/-! The supervisory link: what the port does with bytes, frames, refused requests and the end of a response (sections 9.1 to 9.4), and the depot
clock that requests and broadcasts set (10.3). -/

namespace Sys2Proof.Machine

open State

/-! ### Requests at a ready module and at one that cannot accept them -/

/-- An accepted request: its owner's effect, and then the response built from it (R162, R167). -/
theorem onRequest_of_ready {i : Instr} {code : Nat} {s : State} {f : State → State × Status × List Byte} (r : ready s) :
    onRequest i code s f = .next
      ((f (s.taken i)).1.respond { code := code, status := (f (s.taken i)).2.1, payload := (f (s.taken i)).2.2 }) := by
  obtain ⟨power, accepts⟩ := ready_iff_canAccept.mp r
  exact (onRequest_eq_next_iff power).mpr (.inl ⟨accepts, rfl⟩)

/-- A request that the port cannot accept is dropped (R161, log entry 10). -/
theorem onRequest_of_dropped {i : Instr} {code : Nat} {s : State} {f : State → State × Status × List Byte} (power : s.powered = true)
    (h : s.port.state = .answering ∨ s.port.address = 0) : onRequest i code s f = .next (s.taken i).dropFrame :=
  (onRequest_eq_next_iff power).mpr (.inr ⟨by obtain h | h := h <;> simp [State.canAccept, h], rfl⟩)

/-- An effect that keeps the port and sends a list is answered from the port as it was, and sends the list and the end of the response. -/
theorem onRequest_answered {i : Instr} {code : Nat} {s u : State} {status : Status} {payload : List Byte} {l : List Instr}
    {parts : List Part} {f : State → State × Status × List Byte} (r : ready s) (effect : f (s.taken i) = (u, status, payload))
    (frame : onlyChanges parts (s.taken i) u) (port : u.port = s.port) (sends : u.inFlight = s.inFlight.erase i ++ l) :
    ∃ t, onRequest i code s f = .next t ∧ t = u.respond { code := code, status := status, payload := payload } ∧
      answering s t code status payload ∧ sent i s t (l ++ [.responseSent]) ∧ onlyChanges (.port :: .inFlight :: parts) s t := by
  refine ⟨_, (onRequest_of_ready r).trans (by rw [effect]), rfl, ?_, ?_, ?_⟩
  · rw [answering, ← port]
    rfl
  · show u.inFlight ++ [.responseSent] = s.inFlight.erase i ++ (l ++ [.responseSent])
    rw [sends, List.append_assoc]
  · exact onlyChanges_trans (onlyChanges_mono (taken_onlyChanges s i) (by simp))
      (onlyChanges_trans (onlyChanges_mono frame (by simp)) (onlyChanges_mono (respond_onlyChanges _ _) (by simp)))

/-- A refused request changes the port alone. -/
theorem onRequest_refused {i : Instr} {code : Nat} {s : State} {status : Status} {f : State → State × Status × List Byte} (r : ready s)
    (effect : f (s.taken i) = refuse (s.taken i) status) :
    ∃ t, onRequest i code s f = .next t ∧ answering s t code status [] ∧ sent i s t [.responseSent] ∧
      onlyChanges [.port, .inFlight] s t := by
  obtain ⟨t, eq, -, answer, sends, frame⟩ := onRequest_answered (l := []) r effect (onlyChanges_refl [] _) rfl (by simp)
  exact ⟨t, eq, answer, sends, frame⟩

/-- A read changes the port alone. -/
theorem onRequest_read {i : Instr} {code : Nat} {s : State} {payload : List Byte} {f : State → State × Status × List Byte} (r : ready s)
    (effect : f (s.taken i) = done (s.taken i) payload) :
    ∃ t, onRequest i code s f = .next t ∧ answering s t code .done payload ∧ sent i s t [.responseSent] ∧
      onlyChanges [.port, .inFlight] s t := by
  obtain ⟨t, eq, -, answer, sends, frame⟩ := onRequest_answered (l := []) r effect (onlyChanges_refl [] _) rfl (by simp)
  exact ⟨t, eq, answer, sends, frame⟩

theorem dropFrame_of_answering {s : State} (h : s.port.state = .answering) : s.dropFrame = s := by simp [State.dropFrame, h]

theorem dropFrame_of_not_answering {s : State} (h : s.port.state ≠ .answering) :
    s.dropFrame = s.setPort { s.port with state := .listening, buffer := [] } := by
  unfold State.dropFrame
  split
  · contradiction
  · rfl

@[simp] theorem dropFrame_inFlight (s : State) : s.dropFrame.inFlight = s.inFlight := by
  unfold State.dropFrame
  split <;> rfl

@[simp] theorem dropFrame_response (s : State) : s.dropFrame.port.response = s.port.response := by
  unfold State.dropFrame
  split <;> rfl

/-- Settles O4: a status other than DONE and DONE-CLAMPED comes from a refusal (`Answers.refused`), and what the port cannot accept is dropped. -/
theorem refusedOrDroppedRequestChangesNothing : Obligations.RefusedOrDroppedRequestChangesNothing := by
  intro i s t request result
  obtain ⟨code, effect, parts, row⟩ := requestRow_of_isRequest request
  rw [row.eq s] at result
  refine ⟨fun r response held notDone notClamped => ?_, fun power cannot => ?_⟩
  · have refused : effect (s.taken i) = refuse (s.taken i) (effect (s.taken i)).2.1 := by
      rw [onRequest_of_ready r] at result
      injection result with result
      subst result
      cases held
      exact (row.answers (s.taken i)).refused notDone notClamped
    obtain ⟨u, eq, answer, sends, frame⟩ := onRequest_refused (code := code) r refused
    obtain rfl : t = u := by rw [result] at eq; injection eq
    rw [answer] at held
    cases held
    exact ⟨frame, sends, rfl⟩
  · rw [onRequest_of_dropped power cannot] at result
    injection result with result
    subst result
    refine ⟨onlyChanges_trans (onlyChanges_mono (taken_onlyChanges _ _) (by simp))
      (onlyChanges_mono (dropFrame_onlyChanges _) (by simp)), by simp [sent], by simp, fun h => ?_, fun h => ?_⟩
    · rw [dropFrame_of_answering (s := s.taken i) h]
      rfl
    · rw [dropFrame_of_not_answering (s := s.taken i) h]
      rfl

/-- Settles O5: the payload is the owner's, at most 64 bytes (`Answers.short`). -/
theorem everyRequestIsAnswered : Obligations.EveryRequestIsAnswered := by
  intro i s request r
  obtain ⟨code, effect, parts, row⟩ := requestRow_of_isRequest request
  have port : (effect (s.taken i)).1.port = s.port := (row.answers (s.taken i)).frame .port row.apart
  refine ⟨_, code, (effect (s.taken i)).2.1, (effect (s.taken i)).2.2, (row.eq s).trans (onRequest_of_ready r), ?_,
    (row.answers _).short, ?_⟩
  · rw [answering, ← port]
    rfl
  · exact List.getLast?_concat

/-! ### The port's own events -/

/-- An event at a running module whose effect is within some parts. -/
theorem onEvent_within {i : Instr} {s : State} {f : State → State} {parts : List Part} (power : s.powered = true)
    (effect : onlyChanges parts (s.taken i) (f (s.taken i))) :
    ∃ t, onEvent i s f = .next t ∧ t = f (s.taken i) ∧ onlyChanges (.inFlight :: parts) s t :=
  ⟨_, onEvent_of_powered power, rfl, onlyChanges_trans (onlyChanges_mono (taken_onlyChanges s i) (by simp))
    (onlyChanges_mono effect (by simp))⟩

theorem dropFrame_port (s : State) :
    s.dropFrame.port = if s.port.state = .answering then s.port else { s.port with state := .listening, buffer := [] } := by
  by_cases h : s.port.state = .answering
  · rw [dropFrame_of_answering h, if_pos h]
  · rw [dropFrame_of_not_answering h, if_neg h]
    rfl

/-- Settles O9: each of the three events is the dropping of a frame, or the return from ANSWERING (R161). -/
theorem portReturnsToListening : Obligations.PortReturnsToListening := by
  intro s power
  have flight {t : State} (h : onlyChanges [.inFlight, .port] s t) : onlyChanges [.port, .inFlight] s t :=
    onlyChanges_mono h (by simp)
  refine ⟨?_, ?_, ?_⟩
  · obtain ⟨t, eq, rfl, frame⟩ := onEvent_within (i := .frameSilenceTimeout) (f := fun s =>
      if s.port.state = .receiving then s.dropFrame else s) power (onlyChanges_ite (dropFrame_onlyChanges _) (onlyChanges_refl _ _))
    refine ⟨_, eq, flight frame, ?_⟩
    by_cases h : s.port.state = .receiving <;> simp [h, dropFrame_port]
  · obtain ⟨t, eq, rfl, frame⟩ := onEvent_within (i := .requestFrameDiscarded) power (dropFrame_onlyChanges _)
    exact ⟨_, eq, flight frame, dropFrame_port _⟩
  · obtain ⟨t, eq, rfl, frame⟩ := onEvent_within (i := .responseSent) (f := fun s =>
      if s.port.state = .answering then s.setPort { s.port with state := .listening, buffer := [] } else s) power
      (onlyChanges_ite (setPort_onlyChanges _ _) (onlyChanges_refl _ _))
    refine ⟨_, eq, flight frame, ?_, ?_⟩
    · by_cases h : s.port.state = .answering <;> simp [h]
    · by_cases h : s.port.state = .answering <;> simp [h]

/-- Settles O10: dispatch sorts out both rows before the command's own (R162). -/
theorem unknownAndMalformedRequests : Obligations.UnknownAndMalformedRequests := by
  refine ⟨fun code payload s r unknown =>
      ⟨?_, onRequest_refused (i := .unknownCommand code) (f := fun s => refuse s .unknownCommand) r rfl⟩,
    fun code n payload s r known other =>
      ⟨?_, onRequest_refused (i := .badLength code) (f := fun s => refuse s .badLength) r rfl⟩⟩
  · rw [dispatchRequest_eq_exec, decoded, unknown]
  · rw [dispatchRequest_eq_exec, decoded, known]
    exact congrArg (exec · s) (if_neg other)

/-! ### Bytes and frames -/

/-- A field at the start of a payload. -/
theorem fieldAt_first {r : List Byte} {w n : Nat} (fits : n < 256 ^ w) : fieldAt (bytesOf w n ++ r) 0 w = n := by
  unfold fieldAt
  rw [List.drop_zero, List.take_append_of_le_length (by simp), List.take_of_length_le (by simp), numberOf_bytesOf fits]

/-- A field that is the whole payload. -/
theorem fieldAt_only {w n : Nat} (fits : n < 256 ^ w) : fieldAt (bytesOf w n) 0 w = n := by
  simpa using fieldAt_first (r := []) fits

/-- A field behind another one. -/
theorem fieldAt_skip {r : List Byte} {v m offset w : Nat} (h : v ≤ offset) :
    fieldAt (bytesOf v m ++ r) offset w = fieldAt r (offset - v) w := by
  simp [fieldAt, List.drop_append, List.drop_of_length_le, h]

/-- A field of one byte is that byte. -/
theorem fieldAt_one {l : List Byte} {k : Nat} (h : k < l.length) : fieldAt l k 1 = (l.getD k 0).toNat := by
  unfold fieldAt
  rw [List.drop_eq_getElem_cons h, List.take_succ_cons, List.take_zero]
  simp [numberOf, List.getD_eq_getElem?_getD, h]

theorem decoded_of_length {code n : Nat} {payload : List Byte} (known : requestLength code = some n) (h : payload.length = n) :
    decoded code payload = commandRow code payload := by
  simp [decoded, known, h]

theorem fitsByte_iff {n : Nat} : fitsByte n = true ↔ n < 256 ^ 1 := by simp [fitsByte]

theorem fitsWord_iff {n : Nat} : fitsWord n = true ↔ n < 256 ^ 2 := by simp [fitsWord]

/-- WRITE-CONFIG's payload gives back its three fields. -/
theorem decoded_writeConfig {item index value : Nat} (a : item < 256 ^ 1) (b : index < 256 ^ 1) (c : value < 256 ^ 2) :
    decoded 0x38 (bytesOf 1 item ++ bytesOf 1 index ++ bytesOf 2 value) = writeRow item index value := by
  refine (decoded_of_length (n := 4) rfl (by simp)).trans ?_
  show writeRow (fieldAt _ 0 1) (fieldAt _ 1 1) (fieldAt _ 2 2) = _
  simp only [List.append_assoc, fieldAt_skip, fieldAt_first, fieldAt_only, a, b, c, Nat.reduceLeDiff, Nat.reduceSub, Nat.le_refl,
    Nat.sub_self]

theorem writeRow_of_noOwnRow {item : Nat} (index value : Nat) (h : itemHasOwnRow item = false) :
    writeRow item index value = .writeConfig item index value := by
  unfold writeRow
  split
  case h_17 => rfl
  all_goals simp [itemHasOwnRow] at h

/-- Decoding gives back the row of every well-formed request, field by field in the order of R164. -/
theorem decoded_requestBytes {i : Instr} {code : Nat} {payload : List Byte} (h : i.wellFormed = true)
    (bytes : requestBytes i = some (code, payload)) : decoded code payload = i := by
  cases i
  case identify | readClock | walkNext | readLink | acknowledgeAll | saveConfig | fireReset | restart =>
    cases bytes
    exact decoded_of_length rfl rfl
  all_goals simp only [Instr.wellFormed, Bool.and_eq_true, fitsByte_iff, fitsWord_iff] at h
  case setClock | renew | depart | readStall | findTag | walkFirst | readZone | readFan | readHead | readHazards | acknowledge =>
    cases bytes
    refine (decoded_of_length rfl (by simp)).trans ?_
    simp only [commandRow, fieldAt_only h]
  case relocate | activity | setDeparture | readDamper | fanService | readConfig =>
    cases bytes
    refine (decoded_of_length rfl (by simp)).trans ?_
    obtain ⟨first, second⟩ := h
    simp only [commandRow, fieldAt_skip, fieldAt_first, fieldAt_only, first, second, Nat.le_refl, Nat.sub_self]
  case arrive =>
    cases bytes
    obtain ⟨⟨⟨⟨⟨label, tag⟩, cls⟩, act⟩, charger⟩, departure⟩ := h
    refine (decoded_of_length (n := 9) rfl (by simp)).trans ?_
    show Instr.arrive (fieldAt _ 0 2) (fieldAt _ 2 2) (fieldAt _ 4 1) (fieldAt _ 5 1) (fieldAt _ 6 1) (fieldAt _ 7 2) = _
    simp only [List.append_assoc, fieldAt_skip, fieldAt_first, fieldAt_only, label, tag, cls, act, charger, departure,
      Nat.reduceLeDiff, Nat.reduceSub, Nat.le_refl, Nat.sub_self]
  case writeConfig =>
    cases bytes
    obtain ⟨⟨⟨item, index⟩, value⟩, plain⟩ := h
    rw [decoded_writeConfig item index value, writeRow_of_noOwnRow _ _ (by simpa using plain)]
  case windowBaseWrite | tailLengthWrite | adjacencyWrite | contactEnabledWrite | minimumSpeedWrite =>
    cases bytes
    obtain ⟨index, value⟩ := h
    rw [decoded_writeConfig (by decide) index value]
    rfl
  case gasLevelWrite f _ _ | floorCeilingWrite f _ _ | stallMapWrite f _ _ | channelPlacementWrite f _ _ =>
    cases bytes
    obtain ⟨index, value⟩ := h
    cases f <;> (rw [decoded_writeConfig (by decide) index value]; rfl)
  case unknownCommand =>
    cases bytes
    obtain ⟨-, unknown⟩ := h
    simp [decoded, Option.isNone_iff_eq_none.mp unknown]
  all_goals cases bytes

/-- Settles O6: dispatch runs the row that decoding gives. -/
theorem dispatchInvertsEncoding : Obligations.DispatchInvertsEncoding := by
  intro i code payload s h bytes
  rw [dispatchRequest_eq_exec, decoded_requestBytes h bytes]

/-! ### Receiving a frame -/

variable {b : Byte} {s : State}

/-- What a LISTENING port does with a byte (R161). -/
theorem byte_listening (power : s.powered = true) (h : s.port.state = .listening) :
    exec (.supervisoryByteReceived b) s = .next
      (if b = 0x3C#8 then (s.taken (.supervisoryByteReceived b)).setPort { s.port with state := .receiving, buffer := [b] }
       else s.taken (.supervisoryByteReceived b)) := by
  show execSupervisoryByteReceived b s = _
  simp [execSupervisoryByteReceived, power, h]

/-- An ANSWERING port discards a byte (R161). -/
theorem byte_answering (power : s.powered = true) (h : s.port.state = .answering) :
    exec (.supervisoryByteReceived b) s = .next (s.taken (.supervisoryByteReceived b)) := by
  show execSupervisoryByteReceived b s = _
  simp [execSupervisoryByteReceived, power, h]

/-- A RECEIVING port goes by the frame so far (R161). -/
theorem byte_receiving (power : s.powered = true) (h : s.port.state = .receiving) :
    exec (.supervisoryByteReceived b) s = receiveByte b (s.taken (.supervisoryByteReceived b)) := by
  show execSupervisoryByteReceived b s = _
  simp [execSupervisoryByteReceived, power, h]

/-- A frame of four bytes is overlong by its last byte. -/
theorem overlong_of_length {l : List Byte} (h : l.length = 3) : overlong (l ++ [b]) = decide (64 < b.toNat) := by
  simp [overlong, h, fieldAt_one, Config.maxPayload]

theorem overlong_of_length_ne {l : List Byte} (h : l.length ≠ 3) : overlong (l ++ [b]) = false := by
  simp [overlong, h]

/-- A frame that has not reached its last check byte is not complete. -/
theorem frameComplete_append (l : List Byte) :
    frameComplete (l ++ [b]) = true ↔ 4 ≤ l.length ∧ l.length + 1 = (l.getD 3 0).toNat + 6 := by
  by_cases long : 4 ≤ l.length
  · have third : (l ++ [b]).getD 3 0 = l.getD 3 0 := by
      simp [List.getD_eq_getElem?_getD, List.getElem?_append_left (show 3 < l.length by omega)]
    simp only [frameComplete, fieldAt_one (l := l ++ [b]) (k := 3) (by simp; omega), third]
    simp [long]
  · simp [frameComplete, long]

/-- A byte in RECEIVING that neither makes the frame overlong nor completes it is stored. -/
theorem byte_stored (power : s.powered = true) (h : s.port.state = .receiving)
    (short : overlong (s.port.buffer ++ [b]) = false) (more : frameComplete (s.port.buffer ++ [b]) = false) :
    exec (.supervisoryByteReceived b) s =
      .next ((s.taken (.supervisoryByteReceived b)).setPort { s.port with buffer := s.port.buffer ++ [b] }) := by
  rw [byte_receiving power h]
  simp [receiveByte, short, more]

/-- Settles O8: the table of R161, a row for each state of the port. -/
theorem bytesAreReceived : Obligations.BytesAreReceived := by
  intro b s power
  obtain ⟨t, eq, -⟩ := exec_goesOn (.supervisoryByteReceived b) s
  have next {u : State} (h : exec (.supervisoryByteReceived b) s = .next u) : t = u := by
    rw [eq] at h
    injection h
  refine ⟨t, eq, fun h start => ?_, fun h other => ?_, fun h => next (byte_answering power h), fun h third long => ?_, fun h before => ?_⟩
  · rw [next (byte_listening power h), if_pos start]
  · rw [next (byte_listening power h), if_neg other]
  · have discarded : exec (.supervisoryByteReceived b) s =
        onEvent .requestFrameDiscarded (s.taken (.supervisoryByteReceived b)) State.dropFrame := by
      rw [byte_receiving power h]
      simp [receiveByte, overlong_of_length third, long, execRequestFrameDiscarded]
    rw [onEvent_of_powered (by simpa using power)] at discarded
    rw [next discarded]
    refine ⟨onlyChanges_trans (onlyChanges_mono (taken_onlyChanges _ _) (by simp)) (onlyChanges_trans
      (onlyChanges_mono (taken_onlyChanges _ _) (by simp)) (onlyChanges_mono (dropFrame_onlyChanges _) (by simp))), ?_⟩
    rw [dropFrame_port]
    simp [h]
  · have short : overlong (s.port.buffer ++ [b]) = false := by
      by_cases third : s.port.buffer.length = 3
      · rw [overlong_of_length third]
        simp only [decide_eq_false_iff_not]
        omega
      · exact overlong_of_length_ne third
    have more : frameComplete (s.port.buffer ++ [b]) = false := by
      rw [Bool.eq_false_iff, ne_eq, frameComplete_append]
      omega
    exact next (byte_stored power h short more)

theorem taken_of_empty {i : Instr} (h : s.inFlight = []) : s.taken i = s := by
  cases s
  simp_all [State.taken]

theorem takeEach_singleton (i : Instr) (s : State) : takeEach [i] s = exec i s := by
  rw [takeEach_cons]
  cases exec i s <;> rfl

/-- The module with its port in the middle of a frame. -/
def receiving (s : State) (buffer : List Byte) : State := s.setPort { s.port with state := .receiving, buffer := buffer }

/-- No byte of a frame but the first and the last does anything but enter the buffer. -/
def StoredInTurn (frame : List Byte) : Prop :=
  ∀ l b r, frame = l ++ b :: r → r ≠ [] → overlong (l ++ [b]) = false ∧ frameComplete (l ++ [b]) = false

/-- The bytes of the rest of a frame are stored, and the last one completes it. -/
theorem takeEach_rest (power : s.powered = true) (empty : s.inFlight = []) {frame : List Byte} (stored : StoredInTurn frame) (last : Byte) :
    ∀ rest buffer, frame = buffer ++ rest ++ [last] →
      takeEach ((rest ++ [last]).map .supervisoryByteReceived) (receiving s buffer) =
        receiveByte last (receiving s (buffer ++ rest))
  | [], buffer, _ => by
    rw [List.nil_append, List.map_singleton, takeEach_singleton, byte_receiving (s := receiving s buffer) power rfl,
      taken_of_empty (s := receiving s buffer) empty, List.append_nil]
  | b :: rest, buffer, eq => by
    obtain ⟨short, more⟩ := stored buffer b (rest ++ [last]) (by simp [eq]) (by simp)
    rw [List.cons_append, List.map_cons, takeEach_cons_of_next (byte_stored (s := receiving s buffer) power rfl short more),
      taken_of_empty (s := receiving s buffer) empty]
    show takeEach _ (receiving s (buffer ++ [b])) = _
    rw [takeEach_rest power empty stored last rest (buffer ++ [b]) (by simp [eq]), List.append_assoc, List.singleton_append]

/-- The bytes a check sequence covers, in a request frame. -/
def frameBody (address code : Nat) (payload : List Byte) : List Byte :=
  bytesOf 1 address ++ bytesOf 1 code ++ bytesOf 1 payload.length ++ payload

section Frame

variable {address code : Nat} {payload : List Byte}

theorem requestFrame_eq : requestFrame address code payload =
    0x3C#8 :: (frameBody address code payload ++ bytesOf 2 (crc16 (frameBody address code payload)).toNat) := rfl

theorem length_requestFrame : (requestFrame address code payload).length = payload.length + 6 := by
  simp only [requestFrame_eq, frameBody, List.length_cons, List.length_append, length_bytesOf]
  omega

/-- The payload length stands in the fourth byte of a frame. -/
theorem getElem_requestFrame_three :
    (requestFrame address code payload)[3]? = some (BitVec.ofNat 8 payload.length) := by
  simp [requestFrame_eq, frameBody, bytesOf]

theorem requestFrame_storedInTurn (short : payload.length ≤ 64) : StoredInTurn (requestFrame address code payload) := by
  intro l b r eq rest
  have length : l.length + 1 + r.length = payload.length + 6 := by
    rw [← length_requestFrame (address := address) (code := code), eq, List.length_append, List.length_cons]
    omega
  have behind : 0 < r.length := List.length_pos_iff.mpr rest
  have count : (BitVec.ofNat 8 payload.length).toNat = payload.length := by
    rw [BitVec.toNat_ofNat]
    omega
  have fourth := getElem_requestFrame_three (address := address) (code := code) (payload := payload)
  rw [eq] at fourth
  refine ⟨?_, ?_⟩
  · by_cases third : l.length = 3
    · rw [List.getElem?_append_right (by omega), third, Nat.sub_self, List.getElem?_cons_zero] at fourth
      cases fourth
      rw [overlong_of_length third, count]
      exact decide_eq_false (by omega)
    · exact overlong_of_length_ne third
  · rw [Bool.eq_false_iff, ne_eq, frameComplete_append]
    rintro ⟨long, complete⟩
    rw [List.getElem?_append_left (by omega)] at fourth
    rw [List.getD_eq_getElem?_getD, fourth, Option.getD_some, count] at complete
    omega

/-- A request frame is complete, and its check sequence holds. -/
theorem requestFrame_complete (short : payload.length ≤ 64) : frameComplete (requestFrame address code payload) = true := by
  have fourth : fieldAt (requestFrame address code payload) 3 1 = payload.length := by
    rw [fieldAt_one (by rw [length_requestFrame]; omega), List.getD_eq_getElem?_getD, getElem_requestFrame_three, Option.getD_some,
      BitVec.toNat_ofNat]
    omega
  simp [frameComplete, fourth, length_requestFrame]

theorem checkedBytes_requestFrame : checkedBytes (requestFrame address code payload) = frameBody address code payload := by
  have length : (frameBody address code payload).length = payload.length + 3 := by
    simp only [frameBody, List.length_append, length_bytesOf]
    omega
  rw [checkedBytes, length_requestFrame, requestFrame_eq, List.drop_succ_cons, List.drop_zero,
    List.take_append_of_le_length (by omega), List.take_of_length_le (by omega)]

theorem checkBytes_requestFrame :
    checkBytes (requestFrame address code payload) = (crc16 (frameBody address code payload)).toNat := by
  have length : (0x3C#8 :: frameBody address code payload).length = payload.length + 6 - 2 := by
    simp only [frameBody, List.length_cons, List.length_append, length_bytesOf]
    omega
  rw [checkBytes, length_requestFrame, requestFrame_eq, ← List.cons_append, ← length, List.drop_left]
  exact numberOf_bytesOf (BitVec.isLt _)

theorem frameChecks_requestFrame : frameChecks (requestFrame address code payload) = true := by
  rw [frameChecks, checkedBytes_requestFrame, checkBytes_requestFrame, beq_self_eq_true]

theorem framePayload_requestFrame : framePayload (requestFrame address code payload) = payload := by
  rw [framePayload, length_requestFrame]
  simp [requestFrame_eq, frameBody, bytesOf]

theorem requestFrame_eq_fields (address code : Nat) (payload : List Byte) :
    ∃ rest, requestFrame address code payload = bytesOf 1 0x3C ++ (bytesOf 1 address ++ (bytesOf 1 code ++ rest)) :=
  ⟨_, by simp only [requestFrame_eq, frameBody, List.append_assoc]; rfl⟩

/-- A request frame with the module's address runs the request it carries (R161). -/
theorem takeFrame_requestFrame {u : State} (own : address = u.port.address) (low : 1 ≤ address) (high : address < 256)
    (byte : code < 256) : takeFrame (requestFrame address code payload) u = dispatchRequest code payload u := by
  obtain ⟨rest, fields⟩ := requestFrame_eq_fields address code payload
  have second : fieldAt (requestFrame address code payload) 1 1 = address := by
    rw [fields, fieldAt_skip (Nat.le_refl 1), Nat.sub_self, fieldAt_first high]
  have third : fieldAt (requestFrame address code payload) 2 1 = code := by
    rw [fields, fieldAt_skip (by decide), fieldAt_skip (Nat.le_refl 1), Nat.sub_self, fieldAt_first byte]
  have named : address ≠ 0 := by omega
  simp [takeFrame, frameChecks_requestFrame, framePayload_requestFrame, second, third, named, ← own]

end Frame

/-- Settles O7: the bytes between the first and the last are stored in turn (`takeEach_rest`), and the last one's frame passes its checks. -/
theorem frameBytesRunTheRequest : Obligations.FrameBytesRunTheRequest := by
  intro s code payload power listening buffer empty low high byte short
  have complete := requestFrame_complete (address := s.port.address) (code := code) short
  have stored := requestFrame_storedInTurn (address := s.port.address) (code := code) short
  have first : ∃ rest last, requestFrame s.port.address code payload = 0x3C#8 :: (rest ++ [last]) := by
    obtain h | ⟨rest, last, h⟩ := List.eq_nil_or_concat
      (frameBody s.port.address code payload ++ bytesOf 2 (crc16 (frameBody s.port.address code payload)).toNat)
    · simp [frameBody, bytesOf] at h
    · exact ⟨rest, last, by rw [requestFrame_eq, h, List.concat_eq_append]⟩
  obtain ⟨rest, last, eq⟩ := first
  have begun : exec (.supervisoryByteReceived 0x3C#8) s = .next (receiving s [0x3C#8]) := by
    rw [byte_listening power listening, if_pos rfl, taken_of_empty empty]
    rfl
  have whole : [0x3C#8] ++ rest ++ [last] = requestFrame s.port.address code payload := by simp [eq]
  have notOver : overlong ([0x3C#8] ++ rest ++ [last]) = false := by
    rw [whole, overlong, length_requestFrame]
    simp
  have before : (requestFrame s.port.address code payload).dropLast = [0x3C#8] ++ rest := by
    rw [← whole, List.dropLast_concat]
  rw [before]
  conv_lhs => rw [eq]
  rw [List.map_cons, takeEach_cons_of_next begun, takeEach_rest power empty stored last rest _ whole.symm]
  show receiveByte last (receiving s ([0x3C#8] ++ rest)) = dispatchRequest code payload (receiving s ([0x3C#8] ++ rest))
  have frame : (receiving s ([0x3C#8] ++ rest)).port.buffer ++ [last] = requestFrame s.port.address code payload := whole
  unfold receiveByte
  dsimp only
  rw [frame, ← whole, notOver, whole, complete]
  simp only [Bool.false_eq_true, if_false, if_true]
  exact takeFrame_requestFrame rfl low (by omega) byte

/-! ### The depot clock -/

theorem setMinute_store (s : State) (minute : Nat) :
    (setMinute s minute).store = { s.store with minute := minute, seconds := 0, clockSet := true } := rfl

theorem setClock_answered (r : ready s) {minute : Nat} (h : minute ≤ 1439) :
    ∃ t, exec (.setClock minute) s = .next t ∧ answering s t 0x03 .done [] ∧
      t.store = { s.store with minute := minute, seconds := 0, clockSet := true } ∧
      sent (.setClock minute) s t [.responseSent] ∧ onlyChanges [.store, .port, .inFlight] s t := by
  obtain ⟨t, eq, rfl, answer, sends, frame⟩ := onRequest_answered (i := .setClock minute) (code := 0x03) (l := [])
    (f := fun s => setClockAt s minute) (u := setMinute (s.taken (.setClock minute)) minute) r
    (if_neg (Nat.not_lt.mpr h)) (setStore_onlyChanges _ _) rfl (by simp [setMinute])
  exact ⟨_, eq, answer, rfl, sends, onlyChanges_mono frame (by simp)⟩

theorem setClock_refused (r : ready s) {minute : Nat} (h : 1439 < minute) :
    ∃ t, exec (.setClock minute) s = .next t ∧ answering s t 0x03 .fieldRange [] ∧ t.store = s.store := by
  obtain ⟨t, eq, answer, -, frame⟩ :=
    onRequest_refused (i := .setClock minute) (code := 0x03) (f := fun s => setClockAt s minute) r (if_pos h)
  exact ⟨t, eq, answer, frame .store (by simp)⟩

theorem numberOf_pair (high low : Byte) : numberOf [high, low] = 256 * high.toNat + low.toNat := by simp [numberOf]

theorem broadcastEffect_of_other {code : Nat} {payload : List Byte} (h : code ≠ 0x03 ∨ payload.length ≠ 2) :
    broadcastEffect s code payload = s :=
  if_neg fun k => h.elim (fun other => other k.1) fun other => other k.2.1

theorem broadcastEffect_port (code : Nat) (payload : List Byte) : (broadcastEffect s code payload).port = s.port := by
  unfold broadcastEffect
  split <;> rfl

/-- A broadcast at a port that is not ANSWERING has its effect, and its frame is dropped without an answer (R163). -/
theorem broadcast_taken (power : s.powered = true) (h : s.port.state ≠ .answering) (code : Nat) (payload : List Byte) :
    exec (.broadcastSetClock code payload) s = .next
      ((broadcastEffect (s.taken (.broadcastSetClock code payload)) code payload).setPort
        { s.port with state := .listening, buffer := [] }) := by
  have port : (broadcastEffect (s.taken (.broadcastSetClock code payload)) code payload).port = s.port := broadcastEffect_port _ _
  rw [← port, ← dropFrame_of_not_answering (by rw [port]; exact h)]
  show execBroadcastSetClock code payload s = _
  unfold execBroadcastSetClock
  rw [onEvent_of_powered power]
  split
  · contradiction
  · rfl

/-- Settles O11: each row of the clock by the rule for requests, broadcasts or events. -/
theorem depotClock : Obligations.DepotClock := by
  intro s
  refine ⟨fun r minute => ⟨fun h => setClock_answered r h, fun h => setClock_refused r h⟩, fun r => ?_, fun power h code payload => ?_,
    fun power => ?_⟩
  · obtain ⟨t, eq, answer, -, frame⟩ := onRequest_read (i := .readClock) (code := 0x02) (f := readClockNow) r rfl
    exact ⟨t, eq, answer, frame⟩
  · refine ⟨_, broadcast_taken power h code payload, ?_, rfl, ?_, fun high low clock pair fits => ?_, fun high low pair far => ?_,
      fun other => ?_⟩
    · exact onlyChanges_trans (onlyChanges_mono (taken_onlyChanges _ _) (by simp)) (onlyChanges_trans
        (onlyChanges_mono (broadcastEffect_onlyChanges _ _ _) (by simp)) (onlyChanges_mono (setPort_onlyChanges _ _) (by simp)))
    · rw [sent, setPort_inFlight, List.append_nil]
      exact broadcastEffect_onlyChanges _ _ _ .inFlight (by simp)
    · rw [← numberOf_pair] at fits ⊢
      subst clock pair
      rw [setPort_store, broadcastEffect, if_pos ⟨rfl, rfl, fits⟩]
      rfl
    · rw [← numberOf_pair] at far
      subst pair
      rw [setPort_store, broadcastEffect, if_neg fun k => absurd k.2.2 (by omega)]
      rfl
    · rw [setPort_store, broadcastEffect_of_other other]
      rfl
  · obtain ⟨t, eq, rfl, frame⟩ := onEvent_within (i := .depotClockMinute) (f := fun s => s.setStore (nextMinute s.store)) power
      (setStore_onlyChanges _ _)
    exact ⟨_, eq, onlyChanges_mono frame (by simp), rfl⟩

end Sys2Proof.Machine

/-! Power: what the loss of the supply leaves, and the starting state that power-on and the reset line's release bring (10.2, 10.4). -/

namespace Sys2Proof.Machine

open State

/-! ### A module without its supply -/

/-- A command at a module without its supply changes the inputs and what is in flight alone (log entry 9). -/
def Idles (s : State) (r : Result) : Prop := ∀ t, r = .next t → onlyChanges [.pins, .inFlight] s t

theorem taken_idles (s : State) (i : Instr) : onlyChanges [.pins, .inFlight] s (s.taken i) :=
  onlyChanges_mono (taken_onlyChanges _ _) (by simp)

theorem onEvent_idles {i : Instr} {s : State} {f : State → State} (off : s.powered = false) : Idles s (onEvent i s f) := by
  intro t h
  obtain ⟨on, -⟩ | ⟨-, rfl⟩ := onEvent_eq_next_iff.mp h
  · rw [on] at off
    cases off
  · exact taken_idles _ _

theorem pinEvent_idles {i : Instr} {s : State} {p : Pins} {b : Bool} {f : State → State} (off : s.powered = false) :
    Idles s (.next (if s.powered && b then f ((s.taken i).setPins p) else (s.taken i).setPins p)) := by
  rintro t ⟨⟩
  rw [off]
  exact onlyChanges_trans (taken_idles _ _) (onlyChanges_mono (setPins_onlyChanges _ _) (by simp))

theorem byte_idles {s : State} (b : Byte) (off : s.powered = false) : Idles s (execSupervisoryByteReceived b s) := by
  have eq : execSupervisoryByteReceived b s = .next (s.taken (.supervisoryByteReceived b)) := by
    simp [execSupervisoryByteReceived, off]
  rintro t h
  rw [eq] at h
  injection h with h
  exact h ▸ taken_idles _ _

theorem exec_idles {s : State} (off : s.powered = false) {i : Instr} (h : i ≠ .powerOn) (k : i ≠ .resetLineRelease) (l : i ≠ .powerLoss) :
    Idles s (exec i s) := by
  by_cases request : isRequest i = true
  · obtain ⟨code, effect, parts, row⟩ := requestRow_of_isRequest request
    rw [row.eq s]
    exact onEvent_idles off
  cases i
  case powerOn => exact absurd rfl h
  case resetLineRelease => exact absurd rfl k
  case powerLoss => exact absurd rfl l
  case supervisoryByteReceived b => exact byte_idles b off
  case endSwitchChange z _ _ => exact show Idles s (execEndSwitchChange z _ _ s) from pinEvent_idles (f := fun u => switchEvent u z) off
  case gateFeedbackBandChange c band => exact show Idles s (execGateFeedbackBandChange c band s) from pinEvent_idles (f := fun u => bandEvent u c band) off
  case contactBandChange z _ => exact show Idles s (execContactBandChange z _ s) from pinEvent_idles (f := fun u => bandChanged u z) off
  all_goals first | exact absurd rfl request | (simp only [exec]; exact onEvent_idles off)

/-- Settles O13. -/
theorem powerLossStopsTheModule : Obligations.PowerLossStopsTheModule :=
  ⟨fun s => ⟨_, rfl, rfl, fun p hp => by cases p <;> simp_all [samePart], rfl⟩,
    fun _ _ _ off h k l result => exec_idles off h k l _ result⟩

/-! ### The starting state, block by block -/

section Starting

variable {s : State}

/-- The configuration a module starts with. -/
def startingCfg (s : State) : Cfg := (startingStore s.store).cfg

theorem starting_stall (i : StallIdx) : (startingState s).roster.stalls[i] = { level := 0, steps := 0, occupant := none } :=
  Vector.getElem_replicate _

theorem starting_zone (z : Zone) : (startingState s).zones[z] = ZoneUnit.initial (startingCfg s).zones[z].quietEntry :=
  Vector.getElem_ofFn _

theorem starting_fan (c : Chan) : (startingState s).fans[c] = FanRecord.initial := Vector.getElem_replicate _

theorem starting_queue (f : Feed) : (startingState s).queue f = StartQueue.initial := by cases f <;> rfl

theorem starting_damper (z : Zone) :
    (startingState s).dampers[z] = startingDamper (startingCfg s).zones[z].damperTimeout (reading s z) :=
  Vector.getElem_ofFn _

theorem starting_gate (c : Chan) :
    (startingState s).gates[c] = startingGate (startingCfg s).channels[c].role s.pins.feedback[c] :=
  Vector.getElem_ofFn _

theorem starting_grant (c : Chan) : (startingState s).alloc.grants[c] = none := Vector.getElem_replicate _

theorem starting_shortfall (z : Zone) : (startingState s).alloc.shortfall[z] = false := Vector.getElem_replicate _

theorem starting_head (h : HeadAddr) : (startingState s).sensors.heads[h] = HeadRecord.initial (startingCfg s).heads[h] :=
  Vector.getElem_ofFn _

theorem starting_zoneBlind (z : Zone) : (startingState s).sensors.zoneBlind[z] = false := Vector.getElem_replicate _

theorem starting_contact (z : Zone) :
    (startingState s).fire.contacts[z] =
      ContactInput.resting (startingContact (startingCfg s).zones[z].contactEnabled s.pins.loopOhms[z]) := by
  show (startingFire (startingCfg s) s.pins).contacts[z] = _
  simp [startingFire]

theorem starting_latch (z : Zone) :
    (startingState s).fire.latches[z] = ((startingState s).fire.contacts[z].state == .alarm) := by
  show (startingFire (startingCfg s) s.pins).latches[z] = ((startingFire (startingCfg s) s.pins).contacts[z].state == .alarm)
  simp [startingFire, ContactInput.resting]

theorem starting_command (z : Zone) : (startingState s).fire.commands[z] = none := Vector.getElem_replicate _

theorem mem_allZones (z : Zone) : z ∈ allZones := List.mem_finRange z

/-- A zone's first stall sum request is in flight. -/
theorem starting_stallSumRequest (z : Zone) : .stallSumRequest z ∈ (startingState s).inFlight :=
  List.mem_append_left _ (List.mem_append_left _ (List.mem_map_of_mem (mem_allZones z)))

theorem mem_startingFireReports {i : Instr} {f : FireInterface} :
    i ∈ startingFireReports f ↔ ∃ z : Zone,
      (f.contacts[z].state = .alarm ∧ (i = .conditionActiveReport .fire z.val ∨ i = .evaluationRequest z)) ∨
      (f.contacts[z].state = .lineFault ∧ i = .conditionActiveReport .fireInputFault z.val) := by
  simp only [startingFireReports, List.mem_flatMap]
  refine exists_congr fun z => ?_
  cases f.contacts[z].state <;> simp [mem_allZones]

/-- What the first readings of the contact inputs report is in flight. -/
theorem starting_fireReport {i : Instr} (h : i ∈ startingFireReports (startingState s).fire) : i ∈ (startingState s).inFlight :=
  List.mem_append_left _ (List.mem_append_right _ h)

/-- The first poll is in flight exactly where a head is configured. -/
theorem starting_headPoll : .headPoll ∈ (startingState s).inFlight ↔ (startingState s).sensors.due ≠ [] := by
  have flight : (startingState s).inFlight = allZones.map .stallSumRequest ++ startingFireReports (startingState s).fire ++
    (if (startingState s).sensors.due.isEmpty then [] else [.headPoll]) := rfl
  rw [flight]
  cases h : (startingState s).sensors.due with
  | nil => simp [mem_startingFireReports]
  | cons => simp

theorem startingContact_disabled {enabled : Bool} {ohms : Nat} : startingContact enabled ohms = .disabled ↔ enabled = false := by
  cases enabled with
  | false => simp [startingContact]
  | true => cases h : bandOf ohms <;> simp [startingContact, stateOfBand, h]

theorem bandOf_alarm {ohms : Nat} : bandOf ohms = .alarm ↔ 400 ≤ ohms ∧ ohms ≤ 2000 := by
  unfold bandOf
  split
  · simp; omega
  · split
    · simp; omega
    · split <;> (simp; omega)

theorem startingContact_alarm {enabled : Bool} {ohms : Nat} :
    startingContact enabled ohms = .alarm ↔ enabled = true ∧ 400 ≤ ohms ∧ ohms ≤ 2000 := by
  rw [← bandOf_alarm]
  cases enabled with
  | false => simp [startingContact]
  | true => cases h : bandOf ohms <;> simp [startingContact, stateOfBand, h]

/-- The configuration comes from the image, or is the factory's (R174, R175). -/
theorem startingStore_of_image {st : ConfigStore} {c : Cfg} (image : st.nv = .image c) (unspoilt : st.saving = none) :
    (startingStore st).cfg = c ∧ (startingStore st).defaulted = false ∧ (startingStore st).nv = .image c := by
  simp [startingStore, cutSave, loaded, image, unspoilt]

theorem startingStore_of_noImage {st : ConfigStore} (h : (∀ c, st.nv ≠ .image c) ∨ st.saving ≠ none) :
    (startingStore st).cfg = Cfg.factory ∧ (startingStore st).defaulted = true := by
  have none : ∀ c, cutSave st ≠ .image c := by
    intro c
    unfold cutSave
    split
    · simp
    · obtain h | h := h
      · exact h c
      · simp_all [Option.isSome_iff_ne_none]
  unfold startingStore
  cases h : cutSave st with
  | image c => exact absurd h (none c)
  | blank => exact ⟨rfl, rfl⟩
  | unreadable => exact ⟨rfl, rfl⟩

end Starting

/-- Settles O12. -/
theorem powerOnStartsEveryBlock : Obligations.PowerOnStartsEveryBlock := by
  intro s
  refine ⟨startingState s, rfl, rfl, rfl, rfl, rfl, fun c image unspoilt => ?_, startingStore_of_noImage, rfl, rfl, rfl, rfl, rfl,
    starting_stall, rfl, fun z => ?_, fun c => ?_, rfl, rfl, fun z => ?_, fun c => ?_, rfl, starting_grant, starting_shortfall,
    fun h => ?_, rfl, rfl, starting_zoneBlind, ?_, starting_headPoll, fun z => ?_, rfl, rfl, rfl, rfl, rfl, rfl, rfl, rfl, rfl⟩
  · exact startingStore_of_image image unspoilt
  · rw [starting_zone]
    exact ⟨rfl, rfl, rfl, rfl, rfl, rfl, rfl, starting_stallSumRequest z⟩
  · rw [starting_fan]
    exact ⟨rfl, rfl, rfl, rfl, rfl, rfl, rfl, rfl, rfl, rfl, rfl, rfl, rfl⟩
  · rw [starting_damper]
    unfold reading
    refine ⟨fun o c => ?_, fun o c => ?_, fun same => ?_, ?_⟩
    · rw [o, c]
      exact ⟨rfl, rfl, rfl⟩
    · rw [o, c]
      exact ⟨rfl, rfl, rfl⟩
    · rw [same]
      cases s.pins.closedSwitch[z] <;> exact ⟨rfl, rfl, rfl⟩
    · cases readingOf s.pins.openSwitch[z] s.pins.closedSwitch[z] <;> exact ⟨rfl, rfl⟩
  · rw [starting_gate]
    show ((startingGate (startingCfg s).channels[c].role s.pins.feedback[c]).inUse = true ↔
      ∃ reach, (startingCfg s).channels[c].role = .standby reach) ∧ _
    cases (startingCfg s).channels[c].role with
    | standby reach =>
      refine ⟨⟨fun _ => ⟨reach, rfl⟩, fun _ => ?_⟩, fun _ => ⟨fun z at' => ?_, fun shut => ?_, fun between => ?_⟩⟩
      · cases s.pins.feedback[c] <;> rfl
      · rw [at']
        exact ⟨rfl, rfl⟩
      · rw [shut]
        exact ⟨rfl, rfl⟩
      · rw [between]
        exact ⟨rfl, rfl, rfl⟩
    | zone z => simp [startingGate, GateRecord.unused]
    | unused => simp [startingGate, GateRecord.unused]
  · rw [starting_head]
    exact ⟨rfl, rfl, rfl, rfl, rfl⟩
  · rfl
  · have contact := starting_contact (s := s) z
    have reports {i : Instr} {state : ContactState} (h : (startingState s).fire.contacts[z].state = state)
        (sends : (state = .alarm ∧ (i = .conditionActiveReport .fire z.val ∨ i = .evaluationRequest z)) ∨
          (state = .lineFault ∧ i = .conditionActiveReport .fireInputFault z.val)) : i ∈ (startingState s).inFlight :=
      starting_fireReport (mem_startingFireReports.mpr ⟨z, by rw [h]; exact sends⟩)
    refine ⟨?_, starting_command z, ?_, ?_, fun alarm => ⟨?_, ?_⟩, fun fault => ?_⟩
    · rw [starting_latch]
      exact beq_iff_eq
    · rw [contact]
      exact startingContact_disabled
    · rw [contact]
      exact startingContact_alarm
    · exact reports alarm (.inl ⟨rfl, .inl rfl⟩)
    · exact reports alarm (.inl ⟨rfl, .inr rfl⟩)
    · exact reports fault (.inr ⟨rfl, rfl⟩)

/-! ### The starting state keeps every law -/

theorem factory_cfgLaw : CfgLaw Cfg.factory := by
  refine ⟨?_, ?_, ?_, ?_⟩
  · simp only [CfgWideLaw]
    decide +kernel
  · simp only [ZoneCfgLaw]
    decide +kernel
  · simp only [ChanCfgLaw]
    decide +kernel
  · simp only [AdjacencyLaw]
    decide +kernel

theorem startingStore_law {st : ConfigStore} (law : StoreLaw st) : StoreLaw (startingStore st) := by
  obtain ⟨-, -, image, -, -⟩ := law
  have copy : ∀ c, cutSave st = .image c → CfgLaw c := by
    intro c h
    unfold cutSave at h
    split at h
    · cases h
    · exact image c h
  have start : CfgLaw (loaded (cutSave st)).1 := by
    cases h : cutSave st with
    | image c => exact copy c h
    | blank => exact factory_cfgLaw
    | unreadable => exact factory_cfgLaw
  exact ⟨start, fun c h => (nomatch h), copy, by simp [startingStore], by simp [startingStore]⟩

section StartingLaws

variable {s : State}

theorem starting_rosterLaw : RosterLaw (startingState s) := by
  refine ⟨fun i => ?_, fun i o there => ?_, fun i j o p there => ?_⟩
  · rw [starting_stall]
    exact ⟨Nat.zero_le _, fun _ => rfl, fun h => absurd h (Nat.lt_irrefl 0)⟩
  · rw [starting_stall] at there
    cases there
  · rw [starting_stall] at there
    cases there

theorem starting_fansLaw : FansLaw (startingState s) := by
  refine ⟨fun c => ?_, fun f => ?_⟩
  · unfold FanLaw
    rw [starting_fan, starting_queue]
    simp [FanRecord.initial, StartQueue.initial, FanState.turning]
  · unfold QueueLaw
    rw [starting_queue]
    refine ⟨List.nodup_nil, fun c => ⟨fun h => (nomatch h), fun ⟨h, _⟩ => ?_⟩, fun c h => (nomatch h)⟩
    rw [starting_fan] at h
    cases h

theorem startingDamper_law (timeout : Nat) (r : SwitchReading) : DamperLaw (startingDamper timeout r) := by
  cases r <;> simp [startingDamper, DamperRecord.resting, DamperLaw]

theorem gateFromFeedback_law (band : GateBand) (reported : FanState) : GateLaw (gateFromFeedback band reported) := by
  cases band <;> simp [gateFromFeedback, GateRecord.unused, GateLaw]

theorem unused_gateLaw : GateLaw GateRecord.unused := by
  simp [GateLaw, GateRecord.unused, GateState.isAt]

theorem startingGate_law (role : Role) (band : GateBand) : GateLaw (startingGate role band) := by
  cases role with
  | standby reach => exact gateFromFeedback_law _ _
  | zone z => exact unused_gateLaw
  | unused => exact unused_gateLaw

theorem initial_headLaw (zone : Option Zone) : HeadLaw (HeadRecord.initial zone) := by
  simp +contextual [HeadLaw, HeadRecord.initial, HeadState.counts]

/-- No zone is blind while no head is LOST (R131). -/
theorem blind_eq_false_of_not_lost {heads : Vector HeadRecord 32} (h : ∀ a : HeadAddr, heads[a].lost = false) (z : Zone) :
    blind heads z = false := by
  unfold blind
  cases eq : allHeads.filter fun a => heads[a].zone == some z with
  | nil => rfl
  | cons a l =>
    show (!false && (heads[a].lost && _)) = false
    rw [h a]
    rfl

theorem starting_sensorLaw : SensorLaw (startingState s).sensors := by
  refine ⟨fun h => ?_, fun h asked => ?_, fun z => ?_⟩
  · rw [starting_head]
    exact initial_headLaw _
  · rw [starting_head]
    obtain due | window := asked
    · exact (List.mem_filter.mp due).2
    · cases window
  · rw [starting_zoneBlind, blind_eq_false_of_not_lost]
    intro a
    rw [starting_head]
    rfl

theorem starting_fireLaw : FireLaw (startingState s) := by
  refine ⟨?_, ?_, ?_, ?_, fun z => ⟨?_, fun _ => ?_⟩⟩
  · simp [startingState, startingFire]
  · simp [startingState, startingFire]
  · exact fun h => nomatch h
  · exact fun h => nomatch h
  · rw [starting_contact]
    exact startingContact_disabled
  · rw [starting_contact]
    rfl

theorem initial_hazardLaw : HazardLaw HazardList.initial := by simp [HazardLaw, HazardList.initial]

/-- The starting state keeps every law, whatever state the module was in (R177). -/
theorem starting_lawful (store : StoreLaw s.store) : Lawful (startingState s) := by
  refine ⟨starting_rosterLaw, fun z => ?_, starting_fansLaw, fun z => ?_, fun c => ?_, ⟨?_, ?_, fun c z h => ?_, fun z h => ?_⟩,
    starting_sensorLaw, starting_fireLaw, initial_hazardLaw, startingStore_law store, ?_⟩
  · rw [starting_zone]
    exact ⟨fun _ => rfl, fun h => nomatch h⟩
  · rw [starting_damper]
    exact startingDamper_law _ _
  · rw [starting_gate]
    exact startingGate_law _ _
  · exact List.nodup_nil
  · exact fun e h => nomatch h
  · rw [starting_grant] at h
    cases h
  · rw [starting_shortfall] at h
    cases h
  · exact ⟨fun _ => rfl, fun h => (nomatch h), fun h => (nomatch h)⟩

end StartingLaws

/-- The state after reset is a starting state: its own (log entries 7 and 8). -/
theorem startingState_reset : startingState State.reset = State.reset := by decide +kernel

theorem storeLaw_reset : StoreLaw State.reset.store :=
  ⟨factory_cfgLaw, fun _ h => (nomatch h), fun _ h => (nomatch h), by decide, by decide⟩

/-- Settles O14: the laws hold in every starting state (`starting_lawful`). -/
theorem resetIsAStartingState : Obligations.ResetIsAStartingState :=
  ⟨congrArg Host.Outcome.next startingState_reset, startingState_reset ▸ starting_lawful storeLaw_reset⟩

end Sys2Proof.Machine

/-! What a step does on an empty queue: the module's own next event, or a second in which the timers count down and the expiries that are due are
taken in their order (log entries 1 and 5). -/

namespace Sys2Proof.Machine

open State

variable {s : State}

/-! ### Counting down -/

theorem down_eq_secondLater (n : Nat) : down n = secondLater n := rfl

theorem downIf_eq (t : Option Nat) : downIf t = t.map secondLater := rfl

theorem clearDelay_tick_eq (d : ClearDelay) : d.tick = delayLater d := by cases d <;> rfl

theorem quiet_tick_eq (q : QuietPhase) : q.tick = quietLater q := by cases q <;> rfl

theorem fanTimer_tick_eq (t : FanTimer) : t.tick = fanTimerLater t := by cases t <;> rfl

theorem tick_onlyChanges (s : State) :
    onlyChanges [.roster, .zones, .fans, .dampers, .gates, .alloc, .sensors, .fire, .store] s s.tick := by
  intro p hp
  cases p <;> simp_all [samePart, State.tick]

theorem tick_stall (i : StallIdx) : s.tick.roster.stalls[i] = s.roster.stalls[i].tick := Vector.getElem_map _ _

theorem tick_zone (z : Zone) : s.tick.zones[z] = s.zones[z].tick := Vector.getElem_map _ _

theorem tick_fan (c : Chan) : s.tick.fans[c] = s.fans[c].tick := Vector.getElem_map _ _

theorem tick_damper (z : Zone) : s.tick.dampers[z] = { s.dampers[z] with timer := downIf s.dampers[z].timer } :=
  Vector.getElem_map _ _

theorem tick_gate (c : Chan) : s.tick.gates[c] = { s.gates[c] with timer := downIf s.gates[c].timer } := Vector.getElem_map _ _

theorem tick_head (h : HeadAddr) : s.tick.sensors.heads[h] = { s.sensors.heads[h] with hold := downIf s.sensors.heads[h].hold } :=
  Vector.getElem_map _ _

theorem tick_contact (z : Zone) :
    s.tick.fire.contacts[z] = { s.fire.contacts[z] with confirm := downIf s.fire.contacts[z].confirm } :=
  Vector.getElem_map _ _

/-- The second's counting is the manual's: every timer that is not due counts down by one, and every other field stays. -/
theorem tick_countedDown (s : State) : countedDown s s.tick := by
  refine ⟨tick_onlyChanges s, rfl, tick_stall, fun z => ⟨?_, tick_damper z⟩, fun c => ⟨?_, tick_gate c⟩, rfl, tick_head, rfl,
    tick_contact, rfl, ?_⟩
  · rw [tick_zone, ← clearDelay_tick_eq, ← quiet_tick_eq]
    rfl
  · rw [tick_fan, ← funext fanTimer_tick_eq]
    rfl
  · show s.store.tick = _
    unfold ConfigStore.tick
    split <;> rfl

/-! ### The expiries that are due -/

theorem inLast_iff {t : Option Nat} : inLast t = true ↔ ∃ n, t = some n ∧ n ≤ 1 := by
  cases t <;> simp [inLast]

theorem allowanceAt_inLast {i : StallIdx} :
    inLast (allowanceAt s i) = true ↔ ∃ o n, s.roster.stalls[i].occupant = some o ∧ o.allowance = some n ∧ n ≤ 1 := by
  unfold allowanceAt
  rw [inLast_iff]
  cases s.roster.stalls[i].occupant <;> simp

theorem coverOf_inLast {z : Zone} :
    inLast (coverOf s z) = true ↔
      ∃ e n, (s.alloc.requests.find? fun e => e.zone == z) = some e ∧ e.cover = some n ∧ n ≤ 1 := by
  unfold coverOf requestOf
  rw [inLast_iff]
  cases s.alloc.requests.find? fun e => e.zone == z <;> simp

theorem fallsDue_of_fanExpiry {c : Chan} {i : Instr} (h : i ∈ fanExpiry c s.fans[c].timer) : fallsDue s i := by
  cases timer : s.fans[c].timer with
  | none =>
    rw [timer] at h
    cases h
  | some t =>
    rw [timer] at h
    cases t <;>
    · simp only [fanExpiry, List.mem_ite_nil_right, List.mem_singleton] at h
      obtain ⟨last, rfl⟩ := h
      exact ⟨_, timer, last⟩

theorem fallsDue_of_quietExpiry {z : Zone} {i : Instr} (h : i ∈ quietExpiry z s.zones[z].quiet) : fallsDue s i := by
  cases phase : s.zones[z].quiet with
  | out =>
    rw [phase] at h
    cases h
  | due =>
    rw [phase] at h
    cases h
  | delay n | pulse n | space n =>
    rw [phase] at h
    simp only [quietExpiry, List.mem_ite_nil_right, List.mem_singleton] at h
    obtain ⟨last, rfl⟩ := h
    exact ⟨n, phase, last⟩

theorem fallsDue_of_clearExpiry {z : Zone} {i : Instr} (h : i ∈ clearExpiry z s.zones[z].clearDelay) : fallsDue s i := by
  cases phase : s.zones[z].clearDelay with
  | idle =>
    rw [phase] at h
    cases h
  | runOut =>
    rw [phase] at h
    cases h
  | running n =>
    rw [phase] at h
    simp only [clearExpiry, List.mem_ite_nil_right, List.mem_singleton] at h
    obtain ⟨last, rfl⟩ := h
    exact ⟨n, phase, last⟩

theorem mem_zoneExpiries {z : Zone} {i : Instr} :
    i ∈ zoneExpiries s z ↔ (s.zones[z].evalTimer ≤ 1 ∧ i = .evaluationTimerExpiry z) ∨ i ∈ clearExpiry z s.zones[z].clearDelay ∨
      i ∈ quietExpiry z s.zones[z].quiet ∨ (inLast s.dampers[z].timer = true ∧ i = .damperTravelTimeout z) ∨
      (inLast (coverOf s z) = true ∧ i = .coverTimerExpiry z) ∨
      (inLast s.fire.contacts[z].confirm = true ∧ i = .contactConfirmationExpiry z) := by
  simp only [zoneExpiries, List.mem_append, List.mem_ite_nil_right, List.mem_singleton, or_assoc]

theorem mem_chanExpiries {c : Chan} {i : Instr} :
    i ∈ chanExpiries s c ↔ i ∈ fanExpiry c s.fans[c].timer ∨ (inLast s.fans[c].settle = true ∧ i = .settleTimeExpiry c) ∨
      (inLast s.gates[c].timer = true ∧ i = .gateTravelTimeout c) := by
  simp only [chanExpiries, List.mem_append, List.mem_ite_nil_right, List.mem_singleton, or_assoc]

theorem fallsDue_of_zoneExpiries {z : Zone} {i : Instr} (h : i ∈ zoneExpiries s z) : fallsDue s i := by
  obtain ⟨last, rfl⟩ | clear | quiet | ⟨last, rfl⟩ | ⟨last, rfl⟩ | ⟨last, rfl⟩ := mem_zoneExpiries.mp h
  · exact last
  · exact fallsDue_of_clearExpiry clear
  · exact fallsDue_of_quietExpiry quiet
  · exact inLast_iff.mp last
  · exact coverOf_inLast.mp last
  · exact inLast_iff.mp last

theorem fallsDue_of_chanExpiries {c : Chan} {i : Instr} (h : i ∈ chanExpiries s c) : fallsDue s i := by
  obtain fan | ⟨last, rfl⟩ | ⟨last, rfl⟩ := mem_chanExpiries.mp h
  · exact fallsDue_of_fanExpiry fan
  · exact inLast_iff.mp last
  · exact inLast_iff.mp last

theorem mem_linkExpiries {f : FireInterface} {i : Instr} :
    i ∈ linkExpiries f ↔ ((∃ n, f.hearingTimer = some n ∧ n ≤ 1) ∧ i = .hearingTimerExpiry) ∨
      ((∃ n, f.stateTimer = some n ∧ n ≤ 1) ∧ i = .stateTimerExpiry) ∨
      ((∃ n, f.supervision = some n ∧ n ≤ 10) ∧ i = .supervisionTimerExpiry) := by
  simp only [linkExpiries, List.mem_append, List.mem_ite_nil_right, List.mem_singleton, or_assoc, inLast_iff]
  cases f.supervision <;> simp

/-- The parts the list of expiries is made of. -/
theorem mem_expiries {i : Instr} :
    i ∈ expiries s ↔ (59 ≤ s.store.seconds ∧ i = .depotClockMinute) ∨
      (∃ k : StallIdx, inLast (allowanceAt s k) = true ∧ i = .allowanceExpiry k) ∨ (∃ z : Zone, i ∈ zoneExpiries s z) ∨
      (∃ c : Chan, i ∈ chanExpiries s c) ∨
      (∃ h : HeadAddr, inLast s.sensors.heads[h].hold = true ∧ i = .holdTimerExpiry h) ∨ i ∈ linkExpiries s.fire ∨
      (s.sensors.cycleTimer ≤ 1 ∧ i = .pollCycleStart) := by
  simp only [expiries, List.mem_append, List.mem_ite_nil_right, List.mem_singleton, List.mem_map, List.mem_filter, List.mem_flatMap,
    allStalls, allZones, allChans, allHeads, List.mem_finRange, true_and, or_assoc, @eq_comm _ _ i]

theorem fallsDue_of_mem_expiries {i : Instr} (h : i ∈ expiries s) : fallsDue s i := by
  obtain ⟨last, rfl⟩ | ⟨k, last, rfl⟩ | ⟨z, zone⟩ | ⟨c, chan⟩ | ⟨a, last, rfl⟩ | link | ⟨last, rfl⟩ := mem_expiries.mp h
  · exact last
  · exact allowanceAt_inLast.mp last
  · exact fallsDue_of_zoneExpiries zone
  · exact fallsDue_of_chanExpiries chan
  · exact inLast_iff.mp last
  · obtain ⟨last, rfl⟩ | ⟨last, rfl⟩ | ⟨last, rfl⟩ := mem_linkExpiries.mp link
    · exact last
    · exact last
    · exact last
  · exact last

theorem mem_expiries_of_fallsDue {i : Instr} (h : fallsDue s i) : i ∈ expiries s := by
  have zone {z : Zone} {j : Instr} (k : j ∈ zoneExpiries s z) : j ∈ expiries s :=
    mem_expiries.mpr (.inr (.inr (.inl ⟨z, k⟩)))
  have chan {c : Chan} {j : Instr} (k : j ∈ chanExpiries s c) : j ∈ expiries s :=
    mem_expiries.mpr (.inr (.inr (.inr (.inl ⟨c, k⟩))))
  have link {j : Instr} (k : j ∈ linkExpiries s.fire) : j ∈ expiries s :=
    mem_expiries.mpr (.inr (.inr (.inr (.inr (.inr (.inl k))))))
  cases i
  case depotClockMinute => exact mem_expiries.mpr (.inl ⟨h, rfl⟩)
  case allowanceExpiry k => exact mem_expiries.mpr (.inr (.inl ⟨k, allowanceAt_inLast.mpr h, rfl⟩))
  case evaluationTimerExpiry z => exact zone (mem_zoneExpiries.mpr (.inl ⟨h, rfl⟩))
  case clearDelayRunOut z =>
    obtain ⟨n, phase, last⟩ := h
    refine zone (mem_zoneExpiries (z := z) |>.mpr (.inr (.inl ?_)))
    rw [phase]
    simp [clearExpiry, last]
  case quietEntryTimerExpiry z | pulseTimerExpiry z | spaceTimerExpiry z =>
    obtain ⟨n, phase, last⟩ := h
    refine zone (mem_zoneExpiries (z := z) |>.mpr (.inr (.inr (.inl ?_))))
    rw [phase]
    simp [quietExpiry, last]
  case damperTravelTimeout z => exact zone (mem_zoneExpiries.mpr (.inr (.inr (.inr (.inl ⟨inLast_iff.mpr h, rfl⟩)))))
  case coverTimerExpiry z => exact zone (mem_zoneExpiries.mpr (.inr (.inr (.inr (.inr (.inl ⟨coverOf_inLast.mpr h, rfl⟩))))))
  case contactConfirmationExpiry z =>
    exact zone (mem_zoneExpiries.mpr (.inr (.inr (.inr (.inr (.inr ⟨inLast_iff.mpr h, rfl⟩))))))
  case startWindowRunOut c | cleanRunExpiry c | rundownLimitExpiry c | retryWaitExpiry c =>
    obtain ⟨n, timer, last⟩ := h
    refine chan (mem_chanExpiries (c := c) |>.mpr (.inl ?_))
    rw [timer]
    simp [fanExpiry, last]
  case settleTimeExpiry c => exact chan (mem_chanExpiries.mpr (.inr (.inl ⟨inLast_iff.mpr h, rfl⟩)))
  case gateTravelTimeout c => exact chan (mem_chanExpiries.mpr (.inr (.inr ⟨inLast_iff.mpr h, rfl⟩)))
  case holdTimerExpiry a => exact mem_expiries.mpr (.inr (.inr (.inr (.inr (.inl ⟨a, inLast_iff.mpr h, rfl⟩)))))
  case hearingTimerExpiry => exact link (mem_linkExpiries.mpr (.inl ⟨h, rfl⟩))
  case stateTimerExpiry => exact link (mem_linkExpiries.mpr (.inr (.inl ⟨h, rfl⟩)))
  case supervisionTimerExpiry => exact link (mem_linkExpiries.mpr (.inr (.inr ⟨h, rfl⟩)))
  case pollCycleStart => exact mem_expiries.mpr (.inr (.inr (.inr (.inr (.inr (.inr ⟨h, rfl⟩))))))
  all_goals exact h.elim

/-! ### Their order -/

/-- The places of some expiries ascend, from one place on and below another. -/
structure InPlaces (low high : Nat) (l : List Instr) : Prop where
  ascending : l.Pairwise fun i j => duePlace i < duePlace j
  within : ∀ i ∈ l, low ≤ duePlace i ∧ duePlace i < high

theorem InPlaces.nil (low high : Nat) : InPlaces low high [] := ⟨List.Pairwise.nil, fun _ h => (nomatch h)⟩

theorem InPlaces.single {low high : Nat} {i : Instr} (h : low ≤ duePlace i ∧ duePlace i < high) : InPlaces low high [i] :=
  ⟨List.pairwise_singleton _ _, by simpa using h⟩

theorem InPlaces.singleIf {low high : Nat} {i : Instr} {p : Prop} [Decidable p] (h : low ≤ duePlace i ∧ duePlace i < high) :
    InPlaces low high (if p then [i] else []) := by
  split
  · exact .single h
  · exact .nil _ _

theorem InPlaces.append {low mid high : Nat} {l m : List Instr} (h : InPlaces low mid l) (k : InPlaces mid high m)
    (below : low ≤ mid) (above : mid ≤ high) : InPlaces low high (l ++ m) := by
  obtain ⟨hs, hw⟩ := h
  obtain ⟨ks, kw⟩ := k
  refine ⟨List.pairwise_append.mpr ⟨hs, ks, fun i hi j hj => Nat.lt_of_lt_of_le (hw i hi).2 (kw j hj).1⟩, fun i hi => ?_⟩
  obtain hi | hi := List.mem_append.mp hi
  · exact ⟨(hw i hi).1, Nat.lt_of_lt_of_le (hw i hi).2 above⟩
  · exact ⟨Nat.le_trans below (kw i hi).1, (kw i hi).2⟩

/-- Expiries of numbered sources, each source's within its own places. -/
theorem InPlaces.flatMap {n base width : Nat} {f : Fin n → List Instr}
    (h : ∀ z : Fin n, InPlaces (base + width * z.val) (base + width * (z.val + 1)) (f z)) :
    InPlaces base (base + width * n) ((List.finRange n).flatMap f) := by
  induction n with
  | zero => simpa using InPlaces.nil _ _
  | succ n ih =>
    rw [List.finRange_succ_last, List.flatMap_append, List.flatMap_map, List.flatMap_singleton]
    have last := h (Fin.last n)
    exact (ih fun z => h z.castSucc).append last (Nat.le_add_right _ _)
      (Nat.add_le_add_left (Nat.mul_le_mul_left _ (Nat.le_succ n)) _)

theorem filter_map_eq_flatMap {α : Type} (p : α → Bool) (f : α → Instr) (l : List α) :
    (l.filter p).map f = l.flatMap fun a => if p a = true then [f a] else [] := by
  induction l with
  | nil => rfl
  | cons a l ih => by_cases h : p a = true <;> simp [h, ih]

theorem fanExpiry_inPlaces (c : Chan) (t : Option FanTimer) : InPlaces (200 + 10 * c.val) (201 + 10 * c.val) (fanExpiry c t) := by
  cases t with
  | none => exact .nil _ _
  | some t => cases t <;> exact .singleIf (by simp [duePlace])

theorem quietExpiry_inPlaces (z : Zone) (q : QuietPhase) : InPlaces (102 + 10 * z.val) (103 + 10 * z.val) (quietExpiry z q) := by
  cases q with
  | out => exact .nil _ _
  | due => exact .nil _ _
  | delay n | pulse n | space n => exact .singleIf (by simp [duePlace])

theorem clearExpiry_inPlaces (z : Zone) (d : ClearDelay) : InPlaces (101 + 10 * z.val) (102 + 10 * z.val) (clearExpiry z d) := by
  cases d with
  | idle => exact .nil _ _
  | runOut => exact .nil _ _
  | running n => exact .singleIf (by simp [duePlace])

theorem zoneExpiries_inPlaces (z : Zone) : InPlaces (100 + 10 * z.val) (100 + 10 * (z.val + 1)) (zoneExpiries s z) := by
  have evaluation : InPlaces (100 + 10 * z.val) (101 + 10 * z.val) (if s.zones[z].evalTimer ≤ 1 then [.evaluationTimerExpiry z] else []) :=
    .singleIf (by simp [duePlace])
  have damper : InPlaces (103 + 10 * z.val) (104 + 10 * z.val) (if inLast s.dampers[z].timer then [.damperTravelTimeout z] else []) :=
    .singleIf (by simp [duePlace])
  have cover : InPlaces (104 + 10 * z.val) (105 + 10 * z.val) (if inLast (coverOf s z) then [.coverTimerExpiry z] else []) :=
    .singleIf (by simp [duePlace])
  have contact : InPlaces (105 + 10 * z.val) (100 + 10 * (z.val + 1))
      (if inLast s.fire.contacts[z].confirm then [.contactConfirmationExpiry z] else []) :=
    .singleIf (by simp [duePlace]; omega)
  exact (((((evaluation.append (clearExpiry_inPlaces z _) (by omega) (by omega)).append (quietExpiry_inPlaces z _) (by omega)
    (by omega)).append damper (by omega) (by omega)).append cover (by omega) (by omega)).append contact (by omega) (by omega))

theorem chanExpiries_inPlaces (c : Chan) : InPlaces (200 + 10 * c.val) (200 + 10 * (c.val + 1)) (chanExpiries s c) := by
  have settle : InPlaces (201 + 10 * c.val) (202 + 10 * c.val) (if inLast s.fans[c].settle then [.settleTimeExpiry c] else []) :=
    .singleIf (by simp [duePlace])
  have gate : InPlaces (202 + 10 * c.val) (200 + 10 * (c.val + 1)) (if inLast s.gates[c].timer then [.gateTravelTimeout c] else []) :=
    .singleIf (by simp [duePlace]; omega)
  exact ((fanExpiry_inPlaces c _).append settle (by omega) (by omega)).append gate (by omega) (by omega)

theorem linkExpiries_inPlaces (f : FireInterface) : InPlaces 500 503 (linkExpiries f) := by
  have hearing : InPlaces 500 501 (if inLast f.hearingTimer then [.hearingTimerExpiry] else []) := .singleIf (by simp [duePlace])
  have state : InPlaces 501 502 (if inLast f.stateTimer then [.stateTimerExpiry] else []) := .singleIf (by simp [duePlace])
  have supervision : InPlaces 502 503 (match f.supervision with
      | some n => if n ≤ 10 then [Instr.supervisionTimerExpiry] else []
      | none => []) := by
    cases f.supervision with
    | none => exact .nil _ _
    | some n => exact .singleIf (by simp [duePlace])
  exact (hearing.append state (by omega) (by omega)).append supervision (by omega) (by omega)

theorem expiries_inPlaces (s : State) : InPlaces 0 504 (expiries s) := by
  have clock : InPlaces 0 1 (if 59 ≤ s.store.seconds then [.depotClockMinute] else []) := .singleIf (by simp [duePlace])
  have stalls : InPlaces 1 97 ((allStalls.filter fun i => inLast (allowanceAt s i)).map .allowanceExpiry) := by
    rw [filter_map_eq_flatMap]
    exact InPlaces.flatMap (base := 1) (width := 1) (f := fun k : StallIdx =>
      if inLast (allowanceAt s k) = true then [Instr.allowanceExpiry k] else []) fun k => .singleIf (by simp [duePlace])
  have zones : InPlaces 97 200 (allZones.flatMap (zoneExpiries s)) := by
    have own := InPlaces.flatMap (zoneExpiries_inPlaces (s := s))
    exact ⟨own.ascending, fun i hi => by have := own.within i hi; omega⟩
  have chans : InPlaces 200 360 (allChans.flatMap (chanExpiries s)) := InPlaces.flatMap (chanExpiries_inPlaces (s := s))
  have heads : InPlaces 360 500 ((allHeads.filter fun h => inLast s.sensors.heads[h].hold).map .holdTimerExpiry) := by
    rw [filter_map_eq_flatMap]
    have own := InPlaces.flatMap (base := 400) (width := 1) (f := fun h : HeadAddr =>
      if inLast s.sensors.heads[h].hold = true then [Instr.holdTimerExpiry h] else []) fun h => .singleIf (by simp [duePlace])
    exact ⟨own.ascending, fun i hi => by have := own.within i hi; omega⟩
  have cycle : InPlaces 503 504 (if s.sensors.cycleTimer ≤ 1 then [.pollCycleStart] else []) := .singleIf (by simp [duePlace])
  exact (((((clock.append stalls (by omega) (by omega)).append zones (by omega) (by omega)).append chans (by omega)
    (by omega)).append heads (by omega) (by omega)).append (linkExpiries_inPlaces _) (by omega) (by omega)).append cycle (by omega)
    (by omega)

/-! ### The obligation -/

theorem takenInTurn_of_takeEach : ∀ (l : List Instr) {u t : State}, takeEach l u = .next t → takenInTurn l u t
  | [], u, t, h => by
    injection h with h
    exact h.symm
  | i :: l, u, t, h => by
    obtain ⟨v, eq, -⟩ := exec_goesOn i u
    rw [takeEach_cons_of_next eq] at h
    exact ⟨v, eq, takenInTurn_of_takeEach l h⟩

/-- Events taken one after another go on. -/
theorem takeEach_next (l : List Instr) (u : State) : ∃ t, takeEach l u = .next t := by
  obtain ⟨t, eq, -⟩ := takeEach_keeps (P := fun _ => True) (fun _ _ => trivial) l (s := u) trivial
  exact ⟨t, eq⟩

theorem step_of_empty (empty : s.pending = []) : step s = idle s := by
  unfold step
  rw [empty]

/-- A second passes where nothing else is to do. -/
theorem idle_passSecond (power : s.powered = true) (flight : s.inFlight = []) (window : s.sensors.window = none)
    (port : s.port.state ≠ .receiving) : idle s = passSecond s := by
  simp [idle, power, flight, window, port]

/-- Settles O2. -/
theorem emptyQueueStepTakesOwnEvent : Obligations.EmptyQueueStepTakesOwnEvent := by
  intro s empty
  rw [step_of_empty empty]
  refine ⟨fun off => by simp [idle, off], fun power => ⟨fun i rest flight => by simp [idle, power, flight], fun flight =>
    ⟨fun h window => by simp [idle, power, flight, window], fun window => ⟨fun port => by simp [idle, power, flight, window, port],
      fun port => ?_, fun port none => ?_⟩⟩⟩⟩
  · obtain ⟨t, taken⟩ := takeEach_next (expiries s) s.tick
    refine ⟨s.tick, expiries s, t, tick_countedDown s, fun i => ⟨fallsDue_of_mem_expiries, mem_expiries_of_fallsDue⟩,
      (expiries_inPlaces s).ascending, takenInTurn_of_takeEach _ taken, ?_⟩
    rw [idle_passSecond power flight window port]
    exact taken
  · have notDue {i : Instr} (due : fallsDue s i) : False := by
      have mem := mem_expiries_of_fallsDue due
      rw [none] at mem
      cases mem
    have clock : ¬ 59 ≤ s.store.seconds := fun h => notDue (i := .depotClockMinute) h
    have cycle : ¬ s.sensors.cycleTimer ≤ 1 := fun h => notDue (i := .pollCycleStart) h
    have counted : s.tick.store = { s.store with seconds := s.store.seconds + 1 } := by
      show s.store.tick = _
      simp [ConfigStore.tick, clock]
    refine ⟨s.tick, ?_, tick_onlyChanges s, by rw [counted], by rw [counted], fun z => ?_, ?_⟩
    · rw [idle_passSecond power flight window port, passSecond, none]
      rfl
    · have timer : ¬ s.zones[z].evalTimer ≤ 1 := fun h => notDue (i := .evaluationTimerExpiry z) h
      rw [tick_zone]
      show down s.zones[z].evalTimer + 1 = _
      rw [down, if_neg timer]
      omega
    · show down s.sensors.cycleTimer + 1 = _
      rw [down, if_neg cycle]
      omega

end Sys2Proof.Machine

/-! The stall roster: what each record command, read, walk step and event leaves and sends (chapter 1). -/

namespace Sys2Proof.Machine

open State

variable {s : State}

/-! ### The parts of a record command -/

theorem classOfCode_code (c : VehicleClass) : classOfCode c.code = some c := by cases c <;> rfl

theorem activityOfCode_code (a : Activity) : activityOfCode a.code = some a := by cases a <;> rfl

theorem stallOfLabel_of_eq {cfg : Cfg} {label : Nat} {i : StallIdx} (h : label = cfg.windowBase + i.val) :
    stallOfLabel cfg label = some i := by
  subst h
  have inside : cfg.windowBase + i.val - cfg.windowBase < 96 := by omega
  simp [stallOfLabel]

theorem allowanceFor_eq (cfg : Cfg) (a : Activity) : allowanceFor cfg a = fullAllowance cfg a := by cases a <;> rfl

theorem isRunning_iff (a : Activity) : a.isRunning = true ↔ a = .engineRun ∨ a = .warmUp := by cases a <;> decide

theorem leavesResidue_iff (a : Activity) : a.leavesResidue = true ↔ a = .engineRun ∨ a = .warmUp ∨ a = .thermalWatch := by
  cases a <;> decide

theorem setResidue_eq (cfg : Cfg) (c : VehicleClass) (a : Activity) (e : StallEntry) :
    setResidue cfg c a e = residueSet cfg.tail (weightOf cfg c a) e := by
  unfold setResidue residueSet residueTerm
  by_cases h : cfg.tail = 0
  · simp [h]
  · by_cases k : max (weightOf cfg c a) (e.level * e.steps / cfg.tail) = 0 <;> simp [h, k]

/-- What leaving an activity does to a stall's residue (R5). -/
theorem leaveActivity_eq (cfg : Cfg) (o : Occupant) (e : StallEntry) : leaveActivity cfg o e = entryLeft cfg o e := by
  unfold leaveActivity entryLeft
  by_cases h : o.activity.leavesResidue = true
  · rw [if_pos h, if_pos ((leavesResidue_iff _).mp h), setResidue_eq]
  · rw [if_neg h, if_neg fun k => h ((leavesResidue_iff _).mpr k)]

theorem leaveActivity_occupant (cfg : Cfg) (o : Occupant) (e : StallEntry) : (leaveActivity cfg o e).occupant = e.occupant := by
  unfold leaveActivity setResidue
  split
  · split <;> rfl
  · rfl

/-- What a change of a stall's BATTERY-THERMAL condition sends (R23). -/
def thermalChange (i : StallIdx) (before after : Bool) : List Instr :=
  if before = after then [] else if after = true then [.conditionActiveReport .batteryThermal i.val]
  else [.conditionClearReport .batteryThermal i.val]

theorem reportThermal_eq (s : State) (i : StallIdx) (before after : Bool) :
    reportThermal s i before after = s.emit (thermalChange i before after) := by
  cases before <;> cases after <;> simp [reportThermal, State.reportChange, State.report, thermalChange]

theorem requestZoneOf_eq (s : State) (i : StallIdx) : requestZoneOf s i = s.emit [.evaluationRequest s.store.cfg.stalls[i].zone] := rfl

theorem stallRecord_congr {t : State} (roster : t.roster = s.roster) (store : t.store = s.store) (i : StallIdx) :
    stallRecord t i = stallRecord s i := by
  unfold stallRecord State.cfg
  rw [roster, store]

/-- A request that replaces the roster, sends a list and answers a stall's record as it then stands (R167). -/
theorem roster_answered {i : Instr} {code : Nat} {f : State → State × Status × List Byte} {R : Roster} {l : List Instr} {k : StallIdx}
    (r : ready s) (effect : f (s.taken i) = answerStall (((s.taken i).setRoster R).emit l) k) :
    ∃ t, onRequest i code s f = .next t ∧ t.roster = R ∧ answering s t code .done (stallRecord t k) ∧
      sent i s t (l ++ [.responseSent]) ∧ onlyChanges [.roster, .port, .inFlight] s t := by
  have frame : onlyChanges [.roster, .inFlight] (s.taken i) (((s.taken i).setRoster R).emit l) :=
    onlyChanges_trans (onlyChanges_mono (setRoster_onlyChanges _ _) (by simp)) (onlyChanges_mono (emit_onlyChanges _ _) (by simp))
  obtain ⟨t, eq, rfl, answer, sends, frame⟩ := onRequest_answered (code := code) (l := l) r effect frame rfl rfl
  exact ⟨_, eq, rfl, answer, sends, onlyChanges_mono frame (by simp)⟩

/-- A request that answers a stall's record and changes nothing (R26, R27). -/
theorem stallRead_answered {i : Instr} {code : Nat} {f : State → State × Status × List Byte} {k : StallIdx} (r : ready s)
    (effect : f (s.taken i) = answerStall (s.taken i) k) :
    ∃ t, onRequest i code s f = .next t ∧ answering s t code .done (stallRecord s k) ∧ sent i s t [.responseSent] ∧
      onlyChanges [.port, .inFlight] s t :=
  onRequest_read r effect

/-! ### The record commands -/

/-- No record holds a tag. -/
theorem stallOfTag_eq_none {tag : Nat} (h : ∀ (j : StallIdx) (o : Occupant), s.roster.stalls[j].occupant = some o → o.tag ≠ tag) :
    stallOfTag s tag = none := by
  refine List.find?_eq_none.mpr fun j _ => ?_
  cases there : s.roster.stalls[j].occupant with
  | none => simp
  | some o => simpa using h j o there

/-- The record that holds a tag, where no two hold one. -/
theorem stallOfTag_eq_some {tag : Nat} {i : StallIdx} {o : Occupant} (there : s.roster.stalls[i].occupant = some o) (tagged : o.tag = tag)
    (law : TagLaw s.roster) : stallOfTag s tag = some i := by
  have held : (stallOfTag s tag).isSome = true := by
    rw [stallOfTag, List.find?_isSome]
    refine ⟨i, List.mem_finRange i, ?_⟩
    rw [there]
    simpa using tagged
  obtain ⟨j, found⟩ := Option.isSome_iff_exists.mp held
  have holds := List.find?_some (l := allStalls) (a := j) found
  cases here : s.roster.stalls[j].occupant with
  | none =>
    rw [here] at holds
    cases holds
  | some p =>
    have same : p.tag = tag := by
      rw [here] at holds
      simpa using holds
    rw [found, law i j o p there here (tagged.trans same.symm)]

theorem badTag_eq_false {tag : Nat} (low : 1 ≤ tag) (high : tag ≤ 65534) : badTag tag = false := by
  simp only [badTag, Bool.or_eq_false_iff, beq_eq_false_iff_ne, decide_eq_false_iff_not]
  omega

theorem badDeparture_eq_false {departure : Nat} (h : departure = 65535 ∨ departure < 1440) : badDeparture departure = false := by
  simp only [badDeparture, Bool.and_eq_false_iff, bne_eq_false_iff_eq, decide_eq_false_iff_not]
  omega

theorem arriveFault_eq_none {i : StallIdx} {tag charger departure : Nat} {c : VehicleClass} {a : Activity} (low : 1 ≤ tag)
    (high : tag ≤ 65534) (may : mayHold c a = true) (minute : departure = 65535 ∨ departure < 1440)
    (circuit : charger = 255 ∨ 1 ≤ charger ∧ charger ≤ 48 ∧ c = .electric) (enabled : s.store.cfg.stalls[i].enabled = true)
    (vacant : s.roster.stalls[i].occupant = none) (unheld : stallOfTag s tag = none) :
    arriveFault s i tag c.code a.code charger departure = none := by
  have charges : badCharger charger = false ∧ (charger != 255 && c != .electric) = false := by
    obtain rfl | ⟨low, high, rfl⟩ := circuit
    · exact ⟨rfl, rfl⟩
    · simp [badCharger, low, high]
  have on : s.cfg.stalls[i].enabled = true := enabled
  simp only [arriveFault, badTag_eq_false low high, classOfCode_code, activityOfCode_code, badDeparture_eq_false minute, charges.1,
    on, occupied, vacant, unheld, may, charges.2, firstFault, Option.isNone_some, Option.isSome_none, Bool.or_self, Bool.not_true]

/-- Settles O16. -/
theorem arriveCreatesRecord : Obligations.ArriveCreatesRecord := by
  intro s label tag cls act charger departure i c a r named low high cls' act' may minute circuit enabled vacant unheld
  subst cls' act'
  have sends : thermalChange i false (a == .thermalWatch) =
      if a = .thermalWatch then [.conditionActiveReport .batteryThermal i.val] else [] := by
    cases a <;> rfl
  have effect : arriveAt (s.taken (.arrive label tag c.code a.code charger departure)) label tag c.code a.code charger departure =
      answerStall (((s.taken (.arrive label tag c.code a.code charger departure)).setRoster
        { s.roster with
          stalls := s.roster.stalls.set i { s.roster.stalls[i] with
            occupant := some (arrivingRecord s tag c a charger departure) } }).emit
        (thermalChange i false (a == .thermalWatch) ++ [.evaluationRequest s.store.cfg.stalls[i].zone])) i := by
    unfold arriveAt
    have window : stallOfLabel (s.taken (.arrive label tag c.code a.code charger departure)).cfg label = some i :=
      stallOfLabel_of_eq named
    have passes : arriveFault (s.taken (.arrive label tag c.code a.code charger departure)) i tag c.code a.code charger departure = none :=
      arriveFault_eq_none low high may minute circuit enabled vacant (stallOfTag_eq_none unheld)
    simp only [window, passes, classOfCode_code, activityOfCode_code, reportThermal_eq, requestZoneOf_eq, emit_emit]
    rfl
  obtain ⟨t, eq, roster, answer, sent, frame⟩ := roster_answered (code := 0x10)
    (f := fun s => arriveAt s label tag c.code a.code charger departure) r effect
  refine ⟨t, eq, ?_, answer, ?_, frame⟩
  · rw [roster, arrivingRecord, allowanceFor_eq]
    rfl
  · rw [sends, List.append_assoc] at sent
    exact sent

theorem relocateFault_eq_none {i j : StallIdx} {tag : Nat} (low : 1 ≤ tag) (high : tag ≤ 65534) (held : stallOfTag s tag = some i)
    (enabled : s.store.cfg.stalls[j].enabled = true) (vacant : s.roster.stalls[j].occupant = none) : relocateFault s tag j = none := by
  have on : s.cfg.stalls[j].enabled = true := enabled
  simp only [relocateFault, badTag_eq_false low high, held, on, occupied, vacant, firstFault, Option.isNone_some, Option.isSome_none,
    Bool.not_true]

/-- What RELOCATE does: the record leaves its stall and comes to the other, the condition and the requests follow it (R19, R23). -/
theorem moveRecord_eq {i j : StallIdx} {o : Occupant} (there : s.roster.stalls[i].occupant = some o) (apart : i ≠ j) :
    moveRecord s i j =
      (s.setRoster { s.roster with
        stalls := (s.roster.stalls.set i { s.roster.stalls[i] with occupant := none }).set j
          { s.roster.stalls[j] with occupant := some o } }).emit
      ((if o.activity = .thermalWatch then
          [.conditionClearReport .batteryThermal i.val, .conditionActiveReport .batteryThermal j.val]
        else []) ++ moveRequests s i j) := by
  have other : (s.setStall i { s.roster.stalls[i] with occupant := none }).roster.stalls[j] = s.roster.stalls[j] :=
    Vector.getElem_set_ne i.isLt j.isLt fun h => apart (Fin.ext h)
  have watched : s.roster.stalls[i].inThermalWatch = (o.activity == .thermalWatch) := by
    rw [StallEntry.inThermalWatch, there]
  have sends : thermalChange i (o.activity == .thermalWatch) false ++ thermalChange j false (o.activity == .thermalWatch) =
      if o.activity = .thermalWatch then
        [.conditionClearReport .batteryThermal i.val, .conditionActiveReport .batteryThermal j.val]
      else [] := by
    cases o.activity <;> rfl
  unfold moveRecord
  rw [← sends]
  simp only [other, watched, there, reportThermal_eq, emit_emit, List.append_assoc]
  rfl

/-- Settles O17. -/
theorem relocateMovesRecord : Obligations.RelocateMovesRecord := by
  intro s tag newLabel i j o r named low high there tagged law enabled vacant
  have held := stallOfTag_eq_some there tagged law
  have apart : i ≠ j := fun h => by
    subst h
    rw [there] at vacant
    cases vacant
  have effect : relocateTo (s.taken (.relocate tag newLabel)) tag newLabel =
      answerStall (moveRecord (s.taken (.relocate tag newLabel)) i j) j := by
    have window : stallOfLabel (s.taken (.relocate tag newLabel)).cfg newLabel = some j := stallOfLabel_of_eq named
    have passes : relocateFault (s.taken (.relocate tag newLabel)) tag j = none := relocateFault_eq_none low high held enabled vacant
    have found : stallOfTag (s.taken (.relocate tag newLabel)) tag = some i := held
    unfold relocateTo
    simp only [window, passes, found]
  rw [moveRecord_eq (s := s.taken _) there apart] at effect
  obtain ⟨t, eq, roster, answer, sent, frame⟩ := roster_answered (code := 0x11) (f := fun s => relocateTo s tag newLabel) r effect
  exact ⟨t, eq, roster, answer, sent, frame⟩

theorem activityFault_eq_none {i : StallIdx} {o : Occupant} {a : Activity} (there : s.roster.stalls[i].occupant = some o)
    (held : mayHold o.cls o.activity = true) (may : mayHold o.cls a = true) (safe : ¬(o.activity = .thermalWatch ∧ a = .charging)) :
    activityFault s i a.code = none := by
  have changes : (o.activity == .thermalWatch && a == .charging) = false := by
    simpa using safe
  simp only [activityFault, activityOfCode_code, there, firstFault, mayChange, held, may, changes, Option.isNone_some, Bool.not_true,
    Bool.and_true, Bool.and_false, Bool.not_false]

theorem renewInPlace_eq (cfg : Cfg) (o : Occupant) : renewInPlace cfg o =
    { o with
      lapsed := false
      allowance := if o.activity = .engineRun ∨ o.activity = .warmUp then fullAllowance cfg o.activity else o.allowance } := by
  unfold renewInPlace
  by_cases h : o.activity.isRunning = true
  · rw [if_pos h, if_pos ((isRunning_iff _).mp h), allowanceFor_eq]
  · rw [if_neg h, if_neg fun k => h ((isRunning_iff _).mpr k)]

/-- What a change of activity sends for BATTERY-THERMAL (R23). -/
theorem thermalChange_of_ne {old new : Activity} (i : StallIdx) (h : new ≠ old) :
    thermalChange i (old == .thermalWatch) (new == .thermalWatch) =
      if old = .thermalWatch then [.conditionClearReport .batteryThermal i.val]
      else if new = .thermalWatch then [.conditionActiveReport .batteryThermal i.val] else [] := by
  by_cases k : old = .thermalWatch
  · have off : (new == Activity.thermalWatch) = false := beq_eq_false_iff_ne.mpr fun h' => h (h'.trans k.symm)
    rw [k, off]
    rfl
  · rw [beq_eq_false_iff_ne.mpr k, if_neg k]
    cases new <;> rfl

theorem takeActivity_of_eq {i : StallIdx} {o : Occupant} : takeActivity s i o o.activity =
    (s.setRoster { s.roster with
      stalls := s.roster.stalls.set i { s.roster.stalls[i] with occupant := some (renewInPlace s.store.cfg o) } }).emit [] := by
  rw [takeActivity, if_pos rfl, emit_nil]
  rfl

theorem takeActivity_of_ne {i : StallIdx} {o : Occupant} {a : Activity} (h : a ≠ o.activity) : takeActivity s i o a =
    (s.setRoster { s.roster with
      stalls := s.roster.stalls.set i { entryLeft s.store.cfg o s.roster.stalls[i] with occupant := some (changeActivity s o a) } }).emit
    (thermalChange i (o.activity == .thermalWatch) (a == .thermalWatch) ++ [.evaluationRequest s.store.cfg.stalls[i].zone]) := by
  rw [takeActivity, if_neg h.symm]
  simp only [leaveActivity_eq, reportThermal_eq, requestZoneOf_eq, emit_emit]
  rfl

/-- Settles O18. -/
theorem activityChangesRecord : Obligations.ActivityChangesRecord := by
  intro s label act i o a r named code there held may safe
  subst code
  have effect : activityAt (s.taken (.activity label a.code)) label a.code =
      answerStall (takeActivity (s.taken (.activity label a.code)) i o a) i := by
    have window : stallOfLabel (s.taken (.activity label a.code)).cfg label = some i := stallOfLabel_of_eq named
    have passes : activityFault (s.taken (.activity label a.code)) i a.code = none := activityFault_eq_none there held may safe
    have here : (s.taken (.activity label a.code)).roster.stalls[i].occupant = some o := there
    unfold activityAt
    simp only [window, passes, here, activityOfCode_code]
  by_cases same : a = o.activity
  · rw [same, takeActivity_of_eq, ← same] at effect
    obtain ⟨t, eq, roster, answer, sent, frame⟩ := roster_answered (code := 0x12) (f := fun s => activityAt s label a.code) r effect
    refine ⟨t, eq, answer, frame, fun _ => ⟨?_, sent⟩, fun other => absurd same other⟩
    rw [roster, renewInPlace_eq, same]
    rfl
  · rw [takeActivity_of_ne same] at effect
    obtain ⟨t, eq, roster, answer, sent, frame⟩ := roster_answered (code := 0x12) (f := fun s => activityAt s label a.code) r effect
    refine ⟨t, eq, answer, frame, fun other => absurd other same, fun _ => ⟨?_, ?_⟩⟩
    · rw [roster, changeActivity, allowanceFor_eq]
      rfl
    · rw [thermalChange_of_ne i same, List.append_assoc] at sent
      exact sent

/-- RENEW of a running record (R20). -/
theorem renew_answered {label : Nat} {i : StallIdx} {o : Occupant} (r : ready s) (named : label = s.store.cfg.windowBase + i.val)
    (there : s.roster.stalls[i].occupant = some o) (running : o.activity = .engineRun ∨ o.activity = .warmUp) :
    ∃ t, exec (.renew label) s = .next t ∧
      t.roster =
        { s.roster with
          stalls := s.roster.stalls.set i
            { s.roster.stalls[i] with
              occupant := some { o with lapsed := false, allowance := fullAllowance s.store.cfg o.activity } } } ∧
      answering s t 0x13 .done (stallRecord t i) ∧ sent (.renew label) s t [.responseSent] ∧
      onlyChanges [.roster, .port, .inFlight] s t := by
  have effect : renewAt (s.taken (.renew label)) label = answerStall (((s.taken (.renew label)).setRoster { s.roster with
      stalls := s.roster.stalls.set i { s.roster.stalls[i] with occupant := some (renewInPlace s.store.cfg o) } }).emit []) i := by
    have window : stallOfLabel (s.taken (.renew label)).cfg label = some i := stallOfLabel_of_eq named
    have here : (s.taken (.renew label)).roster.stalls[i].occupant = some o := there
    unfold renewAt
    simp only [window, here, if_pos ((isRunning_iff _).mpr running), emit_nil]
    rfl
  rw [renewInPlace_eq, if_pos running] at effect
  exact roster_answered (code := 0x13) (f := fun s => renewAt s label) r effect

/-- SET-DEPARTURE of a record (R21). -/
theorem setDeparture_answered {label departure : Nat} {i : StallIdx} {o : Occupant} (r : ready s)
    (named : label = s.store.cfg.windowBase + i.val) (there : s.roster.stalls[i].occupant = some o)
    (minute : departure = 65535 ∨ departure < 1440) :
    ∃ t, exec (.setDeparture label departure) s = .next t ∧
      t.roster =
        { s.roster with
          stalls := s.roster.stalls.set i
            { s.roster.stalls[i] with
              occupant := some { o with departure := if departure = 65535 then none else some departure } } } ∧
      answering s t 0x14 .done (stallRecord t i) ∧
      sent (.setDeparture label departure) s t [.evaluationRequest s.store.cfg.stalls[i].zone, .responseSent] ∧
      onlyChanges [.roster, .port, .inFlight] s t := by
  have effect : setDepartureAt (s.taken (.setDeparture label departure)) label departure =
      answerStall (((s.taken (.setDeparture label departure)).setRoster { s.roster with
        stalls := s.roster.stalls.set i { s.roster.stalls[i] with occupant := some { o with departure := departureOf departure } } }).emit
        [.evaluationRequest s.store.cfg.stalls[i].zone]) i := by
    have window : stallOfLabel (s.taken (.setDeparture label departure)).cfg label = some i := stallOfLabel_of_eq named
    have here : (s.taken (.setDeparture label departure)).roster.stalls[i].occupant = some o := there
    unfold setDepartureAt
    simp only [window, here, badDeparture_eq_false minute, Bool.false_eq_true, if_false]
    rfl
  exact roster_answered (code := 0x14) (f := fun s => setDepartureAt s label departure) r effect

/-- Settles O19. -/
theorem renewAndSetDeparture : Obligations.RenewAndSetDeparture :=
  fun _ _ _ _ r named there => ⟨renew_answered r named there, fun _ minute => setDeparture_answered r named there minute⟩

/-- DEPART of a record (R22). -/
theorem depart_answered {label : Nat} {i : StallIdx} {o : Occupant} (r : ready s) (named : label = s.store.cfg.windowBase + i.val)
    (there : s.roster.stalls[i].occupant = some o) :
    ∃ t, exec (.depart label) s = .next t ∧
      t.roster =
        { s.roster with
          stalls := s.roster.stalls.set i { entryLeft s.store.cfg o s.roster.stalls[i] with occupant := none } } ∧
      answering s t 0x15 .done (stallRecord t i) ∧
      sent (.depart label) s t
        ((if o.activity = .thermalWatch then [.conditionClearReport .batteryThermal i.val] else []) ++
          [.evaluationRequest s.store.cfg.stalls[i].zone, .responseSent]) ∧
      onlyChanges [.roster, .port, .inFlight] s t := by
  have sends : thermalChange i (o.activity == .thermalWatch) false =
      if o.activity = .thermalWatch then [.conditionClearReport .batteryThermal i.val] else [] := by
    cases o.activity <;> rfl
  have effect : departAt (s.taken (.depart label)) label = answerStall (((s.taken (.depart label)).setRoster { s.roster with
      stalls := s.roster.stalls.set i { entryLeft s.store.cfg o s.roster.stalls[i] with occupant := none } }).emit
      (thermalChange i (o.activity == .thermalWatch) false ++ [.evaluationRequest s.store.cfg.stalls[i].zone])) i := by
    have window : stallOfLabel (s.taken (.depart label)).cfg label = some i := stallOfLabel_of_eq named
    have here : (s.taken (.depart label)).roster.stalls[i].occupant = some o := there
    unfold departAt
    simp only [window, here, leaveActivity_eq, reportThermal_eq, requestZoneOf_eq, emit_emit]
    rfl
  obtain ⟨t, eq, roster, answer, sent, frame⟩ := roster_answered (code := 0x15) (f := fun s => departAt s label) r effect
  rw [sends, List.append_assoc] at sent
  exact ⟨t, eq, roster, answer, sent, frame⟩

/-- An event at a running module that replaces the roster and sends a list. -/
theorem roster_taken {i : Instr} {f : State → State} {R : Roster} {l : List Instr} (power : s.powered = true)
    (effect : f (s.taken i) = ((s.taken i).setRoster R).emit l) :
    ∃ t, onEvent i s f = .next t ∧ t.roster = R ∧ sent i s t l ∧ onlyChanges [.roster, .inFlight] s t := by
  obtain ⟨t, eq, rfl, frame⟩ := onEvent_within (f := f) (parts := [.roster, .inFlight]) power (by
    rw [effect]
    exact onlyChanges_trans (onlyChanges_mono (setRoster_onlyChanges _ _) (by simp)) (onlyChanges_mono (emit_onlyChanges _ _) (by simp)))
  refine ⟨_, eq, ?_, ?_, onlyChanges_mono frame (by simp)⟩
  · rw [effect]
    rfl
  · rw [effect]
    rfl

/-- The expiry of a running allowance (R15). -/
theorem allowanceExpiry_taken {i : StallIdx} {o : Occupant} (power : s.powered = true) (there : s.roster.stalls[i].occupant = some o)
    (running : o.activity = .engineRun ∨ o.activity = .warmUp) :
    ∃ t, exec (.allowanceExpiry i) s = .next t ∧
      t.roster =
        { s.roster with
          stalls := s.roster.stalls.set i
            { entryLeft s.store.cfg o s.roster.stalls[i] with
              occupant := some { o with activity := .parked, since := s.store.minute, allowance := none, lapsed := true } } } ∧
      sent (.allowanceExpiry i) s t [.evaluationRequest s.store.cfg.stalls[i].zone] ∧ onlyChanges [.roster, .inFlight] s t := by
  have here : (s.taken (.allowanceExpiry i)).roster.stalls[i].occupant = some o := there
  refine roster_taken (i := .allowanceExpiry i) (f := fun s =>
    match s.roster.stalls[i].occupant with
    | some o => if o.activity.isRunning then expireAllowance s i o else s
    | none => s) power ?_
  simp only [here, if_pos ((isRunning_iff _).mpr running), expireAllowance, leaveActivity_eq]
  rfl

/-- Settles O20. -/
theorem departAndExpiryLeaveResidue : Obligations.DepartAndExpiryLeaveResidue :=
  fun _ _ _ there => ⟨fun r _ named => depart_answered r named there, fun power running => allowanceExpiry_taken power there running⟩

/-! ### Reads and the walk -/

theorem field_two (o : Option Nat) : field 2 o = bytesOf 2 (o.getD 65535) := by
  cases o <;> rfl

theorem field_one (o : Option Nat) : field 1 o = bytesOf 1 (o.getD 255) := by
  cases o <;> rfl

/-- The stall record has the layout of R171. -/
theorem stallRecord_eq (s : State) (i : StallIdx) : stallRecord s i = recordBytes s i := by
  have cls (c : VehicleClass) : c.code = classNumber c := by cases c <;> rfl
  have activity (a : Activity) : a.code = activityNumber a := by cases a <;> rfl
  unfold stallRecord recordBytes State.cfg
  dsimp only
  generalize s.roster.stalls[i] = e
  obtain ⟨level, steps, occupant⟩ := e
  cases occupant with
  | none => simp only [List.append_assoc]; rfl
  | some o =>
    have here : flag true = [0x01#8] := by decide
    simp only [List.append_assoc, Option.map_some, Option.bind_some, field_two, field_one, Option.getD_some, cls, activity,
      Option.isSome_some, here]
    rfl

theorem readStall_answered {label : Nat} {i : StallIdx} (r : ready s) (named : label = s.store.cfg.windowBase + i.val) :
    ∃ t, exec (.readStall label) s = .next t ∧ answering s t 0x18 .done (stallRecord s i) ∧
      sent (.readStall label) s t [.responseSent] ∧ onlyChanges [.port, .inFlight] s t := by
  refine stallRead_answered (i := .readStall label) (code := 0x18) (f := fun s => readStallAt s label) r ?_
  have window : stallOfLabel (s.taken (.readStall label)).cfg label = some i := stallOfLabel_of_eq named
  unfold readStallAt
  simp only [window]

theorem findTag_answered {tag : Nat} {i : StallIdx} {o : Occupant} (r : ready s) (low : 1 ≤ tag) (high : tag ≤ 65534)
    (there : s.roster.stalls[i].occupant = some o) (tagged : o.tag = tag) (law : TagLaw s.roster) :
    ∃ t, exec (.findTag tag) s = .next t ∧ answering s t 0x19 .done (stallRecord s i) ∧
      sent (.findTag tag) s t [.responseSent] ∧ onlyChanges [.port, .inFlight] s t := by
  refine stallRead_answered (i := .findTag tag) (code := 0x19) (f := fun s => findTagIn s tag) r ?_
  have found : stallOfTag (s.taken (.findTag tag)) tag = some i := stallOfTag_eq_some there tagged law
  unfold findTagIn
  simp only [badTag_eq_false low high, found, Bool.false_eq_true, if_false]

/-- The first number of a range that has a property is found. -/
theorem find?_finRange {n : Nat} {p : Fin n → Bool} {i : Fin n} (holds : p i = true) (first : ∀ j, j < i → p j = false) :
    (List.finRange n).find? p = some i := by
  rw [List.find?_eq_some_iff_getElem]
  refine ⟨holds, i.val, by simp, by simp, fun j less => ?_⟩
  have := first ⟨j, by omega⟩ less
  simpa using this

theorem firstOccupied_eq_some {start : Nat} {i : StallIdx} (above : start ≤ i.val) (there : s.roster.stalls[i].occupant ≠ none)
    (first : ∀ j : StallIdx, start ≤ j.val → j < i → s.roster.stalls[j].occupant = none) : firstOccupied s start = some i := by
  refine find?_finRange ?_ fun j less => ?_
  · simpa [above, occupied, Option.isSome_iff_ne_none] using there
  · by_cases low : start ≤ j.val
    · simp only [low, occupied, first j low less, decide_true, Option.isSome_none, Bool.and_false]
    · simp [low]

theorem firstOccupied_eq_none {start : Nat} (vacant : ∀ j : StallIdx, start ≤ j.val → s.roster.stalls[j].occupant = none) :
    firstOccupied s start = none := by
  refine List.find?_eq_none.mpr fun j _ => ?_
  by_cases low : start ≤ j.val
  · simp only [low, occupied, vacant j low, decide_true, Option.isSome_none, Bool.and_false, Bool.false_eq_true, not_false_eq_true]
  · simp [low]

/-- A walk that finds a stall moves the cursor to it and answers its record (R28). -/
theorem walk_answered {i : Instr} {code : Nat} {f : State → State × Status × List Byte} {k : StallIdx} (r : ready s)
    (effect : f (s.taken i) = walkTo (s.taken i) (some k)) :
    ∃ t, onRequest i code s f = .next t ∧ t.roster = { s.roster with cursor := k } ∧
      answering s t code .done (stallRecord s k) ∧ onlyChanges [.roster, .port, .inFlight] s t := by
  have moved : f (s.taken i) = answerStall (((s.taken i).setRoster { s.roster with cursor := k }).emit []) k := by
    rw [effect, emit_nil]
    rfl
  obtain ⟨t, eq, roster, answer, -, frame⟩ := roster_answered (code := code) r moved
  have record : stallRecord t k = stallRecord s k := by
    unfold stallRecord State.cfg
    rw [roster, show t.store = s.store from frame .store (by simp)]
  rw [record] at answer
  exact ⟨t, eq, roster, answer, frame⟩

/-- A walk that finds none answers END-OF-ROSTER and changes nothing (R28). -/
theorem walk_ended {i : Instr} {code : Nat} {f : State → State × Status × List Byte} (r : ready s)
    (effect : f (s.taken i) = walkTo (s.taken i) none) :
    ∃ t, onRequest i code s f = .next t ∧ t.roster = s.roster ∧ answering s t code .endOfRoster [] ∧
      sent i s t [.responseSent] ∧ onlyChanges [.port, .inFlight] s t := by
  obtain ⟨t, eq, answer, sends, frame⟩ := onRequest_refused (code := code) r effect
  exact ⟨t, eq, frame .roster (by simp), answer, sends, frame⟩

theorem walkFirstFrom_eq {label : Nat} {start : StallIdx} (named : label = s.store.cfg.windowBase + start.val) :
    walkFirstFrom s label = walkTo s (firstOccupied s start.val) := by
  have window : stallOfLabel s.cfg label = some start := stallOfLabel_of_eq named
  unfold walkFirstFrom
  simp only [window]

/-- Settles O21. -/
theorem rosterReadsAndWalk : Obligations.RosterReadsAndWalk := by
  intro s r
  refine ⟨fun i => ⟨stallRecord_eq s i, length_stallRecord s i⟩, fun label i named => ?_,
    fun tag i o low high there tagged law => findTag_answered r low high there tagged law, fun label start i named above there first => ?_,
    fun label start named vacant => ?_, fun i above there first => ?_, fun vacant => ?_⟩
  · obtain ⟨t, eq, answer, sends, frame⟩ := readStall_answered r named
    refine ⟨t, eq, answer, length_stallRecord s i, ?_, sends, frame⟩
    rw [named]
    simp [stallRecord, labelOfStall, State.cfg, bytesOf]
  · refine walk_answered (i := .walkFirst label) (f := fun s => walkFirstFrom s label) r ?_
    rw [walkFirstFrom_eq (s := s.taken _) named]
    exact congrArg (walkTo _) (firstOccupied_eq_some (s := s.taken _) above there first)
  · refine walk_ended (i := .walkFirst label) (f := fun s => walkFirstFrom s label) r ?_
    rw [walkFirstFrom_eq (s := s.taken _) named]
    exact congrArg (walkTo _) (firstOccupied_eq_none (s := s.taken _) vacant)
  · refine walk_answered (i := .walkNext) (f := fun s => walkTo s (firstOccupied s (s.roster.cursor.val + 1))) r ?_
    exact congrArg (walkTo _) (firstOccupied_eq_some (s := s.taken _) above there first)
  · obtain ⟨t, eq, roster, answer, -, -⟩ := walk_ended (i := .walkNext) (code := 0x1B)
      (f := fun s => walkTo s (firstOccupied s (s.roster.cursor.val + 1))) r
      (congrArg (walkTo _) (firstOccupied_eq_none (s := s.taken _) vacant))
    exact ⟨t, eq, roster, answer⟩

/-! ### The stall sum and the restart -/

theorem inThermalWatch_iff {i : StallIdx} :
    s.roster.stalls[i].inThermalWatch = true ↔
      ∃ o : Occupant, s.roster.stalls[i].occupant = some o ∧ o.activity = .thermalWatch := by
  unfold StallEntry.inThermalWatch
  cases s.roster.stalls[i].occupant <;> simp

theorem mem_stallsOfZone {cfg : Cfg} {z : Zone} {i : StallIdx} :
    i ∈ stallsOfZone cfg z ↔ cfg.stalls[i].enabled = true ∧ cfg.stalls[i].zone = z := by
  unfold stallsOfZone
  rw [List.mem_filter]
  simp [allStalls]

theorem stepZone_stall (z : Zone) (i : StallIdx) : (stepZone s z).roster.stalls[i] =
    if s.store.cfg.stalls[i].enabled = true ∧ s.store.cfg.stalls[i].zone = z ∧ 0 < s.roster.stalls[i].steps then
      { s.roster.stalls[i] with
        steps := s.roster.stalls[i].steps - 1
        level := if s.roster.stalls[i].steps = 1 then 0 else s.roster.stalls[i].level }
    else s.roster.stalls[i] := by
  have entry : (stepZone s z).roster.stalls[i] =
      if s.store.cfg.stalls[i].enabled && s.store.cfg.stalls[i].zone == z then stepResidue s.roster.stalls[i] else s.roster.stalls[i] :=
    Vector.getElem_ofFn _
  rw [entry]
  generalize s.roster.stalls[i] = e
  generalize s.store.cfg.stalls[i] = c
  by_cases own : c.enabled = true ∧ c.zone = z
  · obtain ⟨enabled, rfl⟩ := own
    by_cases some : e.steps = 0
    · simp [enabled, stepResidue, some]
    · have last : (e.steps - 1 = 0) = (e.steps = 1) := by
        rw [eq_iff_iff]
        omega
      simp [enabled, stepResidue, some, Nat.pos_of_ne_zero some, last]
  · have mine : ¬((c.enabled && c.zone == z) = true) := by simpa using own
    rw [if_neg mine, if_neg fun h => own ⟨h.1, h.2.1⟩]

theorem stepZone_cursor (z : Zone) : (stepZone s z).roster.cursor = s.roster.cursor := by
  simp only [stepZone, setRoster_roster]

theorem anticipated_of_clockSet {st : ConfigStore} (set : st.clockSet = true) (e : StallEntry) :
    anticipated st e = e.occupant.any fun o => o.cls != .electric && o.activity == .parked &&
      o.departure.any fun d => decide ((d + 1440 - st.minute) % 1440 ≤ st.cfg.anticipationLead) := by
  unfold anticipated
  cases e.occupant with
  | none => rfl
  | some o =>
    cases h : o.departure with
    | none => simp [h]
    | some d => simp [h, set]

theorem anticipated_of_clockUnset {st : ConfigStore} (unset : st.clockSet = false) (e : StallEntry) : anticipated st e = false := by
  unfold anticipated
  split
  · split
    · simp [unset]
    · rfl
  · rfl

theorem rosterAnswer_sum (s : State) (z : Zone) :
    (rosterAnswer s z).sum =
      (((List.finRange 96).filter fun i : StallIdx => s.store.cfg.stalls[i].enabled && s.store.cfg.stalls[i].zone == z).map fun i =>
        ((s.roster.stalls[i].occupant.map fun o => weightOf s.store.cfg o.cls o.activity).getD 0) +
          (if s.store.cfg.tail = 0 then 0
           else s.roster.stalls[i].level * s.roster.stalls[i].steps / s.store.cfg.tail)).sum := by
  have term (e : StallEntry) : stallTerm s.store.cfg e =
      ((e.occupant.map fun o => weightOf s.store.cfg o.cls o.activity).getD 0) +
        (if s.store.cfg.tail = 0 then 0 else e.level * e.steps / s.store.cfg.tail) := by
    unfold stallTerm residueTerm
    cases e.occupant <;> rfl
  show total _ = _
  rw [total_eq_sum]
  exact congrArg List.sum (List.map_congr_left fun i _ => term _)

theorem rosterAnswer_thermal (s : State) (z : Zone) :
    (rosterAnswer s z).thermal = true ↔ ∃ (i : StallIdx) (o : Occupant), s.store.cfg.stalls[i].enabled = true ∧
      s.store.cfg.stalls[i].zone = z ∧ s.roster.stalls[i].occupant = some o ∧ o.activity = .thermalWatch := by
  show ((stallsOfZone s.store.cfg z).any fun i => s.roster.stalls[i].inThermalWatch) = true ↔ _
  simp only [List.any_eq_true, mem_stallsOfZone, inThermalWatch_iff]
  exact exists_congr fun i => ⟨fun ⟨⟨enabled, own⟩, o, there, watch⟩ => ⟨o, enabled, own, there, watch⟩,
    fun ⟨o, enabled, own, there, watch⟩ => ⟨⟨enabled, own⟩, o, there, watch⟩⟩

theorem rosterAnswer_residue (s : State) (z : Zone) :
    (rosterAnswer s z).residue = true ↔ ∃ i : StallIdx, s.store.cfg.stalls[i].enabled = true ∧
      s.store.cfg.stalls[i].zone = z ∧ 0 < s.roster.stalls[i].steps := by
  show ((stallsOfZone s.store.cfg z).any fun i => decide (0 < s.roster.stalls[i].steps)) = true ↔ _
  simp only [List.any_eq_true, mem_stallsOfZone, decide_eq_true_eq, and_assoc]

theorem rosterAnswer_count_of_clockUnset (z : Zone) (unset : s.store.clockSet = false) : (rosterAnswer s z).count = 0 := by
  show ((stallsOfZone s.store.cfg z).filter fun i => anticipated s.store s.roster.stalls[i]).length = 0
  simp only [anticipated_of_clockUnset unset, List.filter_false, List.length_nil]

theorem rosterAnswer_count_of_clockSet (z : Zone) (set : s.store.clockSet = true) :
    (rosterAnswer s z).count =
      ((List.finRange 96).filter fun i : StallIdx =>
        s.store.cfg.stalls[i].enabled && s.store.cfg.stalls[i].zone == z &&
          s.roster.stalls[i].occupant.any fun o =>
            o.cls != .electric && o.activity == .parked &&
              o.departure.any fun d =>
                decide ((d + 1440 - s.store.minute) % 1440 ≤ s.store.cfg.anticipationLead)).length := by
  show ((stallsOfZone s.store.cfg z).filter fun i => anticipated s.store s.roster.stalls[i]).length = _
  simp only [anticipated_of_clockSet set, stallsOfZone, List.filter_filter, allStalls]
  exact congrArg List.length (List.filter_congr fun i _ => Bool.and_comm _ _)

theorem thermalClears_eq (s : State) : thermalClears s =
    ((List.finRange 96).filter fun i : StallIdx =>
      s.roster.stalls[i].occupant.any fun o => o.activity == .thermalWatch).map fun i =>
      .conditionClearReport .batteryThermal i.val := by
  have watch (e : StallEntry) : e.inThermalWatch = e.occupant.any fun o => o.activity == .thermalWatch := by
    unfold StallEntry.inThermalWatch
    cases e.occupant <;> rfl
  exact congrArg (List.map _) (List.filter_congr fun i _ => watch _)

theorem rosterAnswer_congr {t : State} (roster : t.roster = s.roster) (store : t.store = s.store) (z : Zone) :
    rosterAnswer t z = rosterAnswer s z := by
  unfold rosterAnswer State.cfg
  rw [roster, store]

/-- Settles O22. -/
theorem stallSumAndRosterRestart : Obligations.StallSumAndRosterRestart := by
  intro s z power
  refine ⟨?_, ?_⟩
  · obtain ⟨t, eq, roster, sends, frame⟩ := roster_taken (i := .rosterRestart)
      (f := fun s => (s.setRoster Roster.initial).emit (thermalClears s)) power rfl
    refine ⟨t, eq, frame, by rw [roster]; rfl, fun i => ?_, ?_⟩
    · rw [roster]
      exact Vector.getElem_replicate _
    · rw [← thermalClears_eq]
      exact sends
  · obtain ⟨t, eq, roster, sends, frame⟩ := roster_taken (i := .stallSumRequest z)
      (f := fun s => (stepZone s z).emit [.evaluationComplete z (rosterAnswer s z)])
      (R := (stepZone (s.taken (.stallSumRequest z)) z).roster)
      (l := [.evaluationComplete z (rosterAnswer (s.taken (.stallSumRequest z)) z)]) power rfl
    rw [rosterAnswer_congr (t := s.taken (.stallSumRequest z)) (s := s) rfl rfl] at sends
    refine ⟨t, eq, frame, by rw [roster, stepZone_cursor, taken_roster], fun i => ?_, rosterAnswer s z, sends, rosterAnswer_sum s z, rosterAnswer_thermal s z,
      rosterAnswer_residue s z, rosterAnswer_count_of_clockUnset z, fun set _ => rosterAnswer_count_of_clockSet z set⟩
    have stepped := stepZone_stall (s := s.taken (.stallSumRequest z)) z i
    rw [taken_roster, taken_store] at stepped
    rw [roster]
    exact stepped

end Sys2Proof.Machine

/-! The Zone Units: evaluation events, phase timers and restarts (R33, R35, R58, R65), and what an evaluation finds, chooses and sends (chapters 2
and 3). -/

namespace Sys2Proof.Machine

open State

variable {s : State} {z : Zone}

/-! ### Evaluation events -/

/-- An event that changes a zone's unit, and is an evaluation event of the zone. -/
theorem zoneEvent_taken {i : Instr} {f : State → State} {u : ZoneUnit} (power : s.powered = true)
    (effect : f (s.taken i) = evaluationEvent z ((s.taken i).setZone z u)) (same : u.evalState = s.zones[z].evalState) :
    ∃ t, onEvent i s f = .next t ∧ t.zones = s.zones.set z (eventTaken u) ∧ sent i s t (eventSends z s.zones[z]) ∧
      onlyChanges [.zones, .inFlight] s t := by
  have unit : ((s.taken i).setZone z u).zones[z] = u := Vector.getElem_set_self _
  have sends : eventSends z u = eventSends z s.zones[z] := by rw [eventSends, eventSends, same]
  obtain ⟨t, eq, rfl, frame⟩ := onEvent_within (f := f) (parts := [.zones, .inFlight]) power (by
    rw [effect]
    exact setZone_evaluationEvent_onlyChanges _ _ _)
  refine ⟨_, eq, ?_, ?_, onlyChanges_mono frame (by simp)⟩
  · rw [effect, evaluationEvent_eq, unit]
    exact Vector.set_set ..
  · rw [effect, evaluationEvent_eq, unit, sends]
    rfl

theorem setZone_self (s : State) (z : Zone) : s.setZone z s.zones[z] = s := by
  simp [State.setZone]

/-- Settles O23. -/
theorem evaluationEventsBeginOrOwe : Obligations.EvaluationEventsBeginOrOwe := fun s z power =>
  ⟨zoneEvent_taken (i := .evaluationRequest z) (f := fun s => evaluationEvent z s) (u := s.zones[z]) power
      (congrArg (evaluationEvent z) (setZone_self (s.taken (.evaluationRequest z)) z).symm) rfl,
    zoneEvent_taken (i := .evaluationTimerExpiry z) (f := fun s =>
      evaluationEvent z (s.setZone z { s.zones[z] with evalTimer := Config.evaluationPeriod })) power rfl rfl,
    zoneEvent_taken (i := .standbyClearedReport z) (f := fun s =>
      evaluationEvent z (s.setZone z { s.zones[z] with request := none })) power rfl rfl⟩

/-- Settles O24. -/
theorem zonePhaseTimersRunOut : Obligations.ZonePhaseTimersRunOut := by
  intro s z n power
  refine ⟨fun phase => ?_, fun phase => ?_, fun phase => ?_, fun phase => ?_⟩
  · refine zoneEvent_taken (i := .clearDelayRunOut z) (f := fun s =>
      match s.zones[z].clearDelay with
      | .running _ => evaluationEvent z (s.setZone z { s.zones[z] with clearDelay := .runOut })
      | _ => s) (u := { s.zones[z] with clearDelay := .runOut }) power ?_ rfl
    simp only [taken_zones, phase]
  · refine zoneEvent_taken (i := .quietEntryTimerExpiry z) (f := fun s =>
      match s.zones[z].quiet with
      | .delay _ => evaluationEvent z (s.setZone z { s.zones[z] with quiet := .due })
      | _ => s) (u := { s.zones[z] with quiet := .due }) power ?_ rfl
    simp only [taken_zones, phase]
  · refine zoneEvent_taken (i := .pulseTimerExpiry z) (f := fun s =>
      match s.zones[z].quiet with
      | .pulse _ => evaluationEvent z (s.setZone z { s.zones[z] with quiet := .space (60 * ((s.zoneCfg z).space + 1)) })
      | _ => s) (u := { s.zones[z] with quiet := .space (60 * ((s.zoneCfg z).space + 1)) }) power ?_ rfl
    simp only [taken_zones, phase]
    rfl
  · refine zoneEvent_taken (i := .spaceTimerExpiry z) (f := fun s =>
      match s.zones[z].quiet with
      | .space _ => evaluationEvent z (s.setZone z { s.zones[z] with quiet := .pulse (60 * ((s.zoneCfg z).pulse + 1)) })
      | _ => s) (u := { s.zones[z] with quiet := .pulse (60 * ((s.zoneCfg z).pulse + 1)) }) power ?_ rfl
    simp only [taken_zones, phase]
    rfl

/-- An event at a running module that replaces a zone's unit and sends a list. -/
theorem zone_taken {i : Instr} {f : State → State} {u : ZoneUnit} {l : List Instr} (power : s.powered = true)
    (effect : f (s.taken i) = ((s.taken i).setZone z u).emit l) :
    ∃ t, onEvent i s f = .next t ∧ t.zones = s.zones.set z u ∧ sent i s t l ∧ onlyChanges [.zones, .inFlight] s t := by
  obtain ⟨t, eq, rfl, frame⟩ := onEvent_within (f := f) (parts := [.zones, .inFlight]) power (by
    rw [effect]
    exact onlyChanges_trans (onlyChanges_mono (setZone_onlyChanges _ _ _) (by simp)) (onlyChanges_mono (emit_onlyChanges _ _) (by simp)))
  refine ⟨_, eq, ?_, ?_, onlyChanges_mono frame (by simp)⟩
  · rw [effect]
    rfl
  · rw [effect]
    rfl

theorem reportChange_eq (s : State) (before after : Bool) (kind : HazardKind) (source : Nat) :
    s.reportChange before after kind source =
      s.emit (if before = after then [] else if after = true then [.conditionActiveReport kind source]
        else [.conditionClearReport kind source]) := by
  cases before <;> cases after <;> simp [State.reportChange, State.report]

theorem emit_setZone (s : State) (l : List Instr) (z : Zone) (u : ZoneUnit) : (s.emit l).setZone z u = (s.setZone z u).emit l := rfl

/-- Settles O25. -/
theorem zoneRestartDiscardsAnswer : Obligations.ZoneRestartDiscardsAnswer := by
  intro s z power
  have clears : (if s.zones[z].gasHigh = false then [] else if false = true then [Instr.conditionActiveReport .gasHigh z.val]
      else [.conditionClearReport .gasHigh z.val]) =
      if s.zones[z].gasHigh = true then [.conditionClearReport .gasHigh z.val] else [] := by
    cases s.zones[z].gasHigh <;> rfl
  refine ⟨?_, fun answer gathers marked => ?_⟩
  · obtain ⟨t, eq, zones, sends, frame⟩ := zone_taken (i := .zoneRestart z) (z := z) (f := fun s =>
      let u := s.zones[z]
      let fresh := ZoneUnit.initial (s.zoneCfg z).quietEntry
      let t := s.reportChange u.gasHigh false .gasHigh z.val
      match u.evalState with
      | .gathering => t.setZone z { fresh with abandoned := true }
      | .idle => (t.setZone z fresh).emit [.stallSumRequest z])
      (u := { ZoneUnit.initial s.store.cfg.zones[z].quietEntry with abandoned := decide (s.zones[z].evalState = .gathering) })
      (l := (if s.zones[z].gasHigh = true then [.conditionClearReport .gasHigh z.val] else []) ++
        (if s.zones[z].evalState = .idle then [.stallSumRequest z] else [])) power (by
      rw [← clears]
      simp only [taken_zones, reportChange_eq]
      cases h : s.zones[z].evalState with
      | gathering =>
        simp only [reduceCtorEq, if_false, List.append_nil, decide_true]
        rfl
      | idle =>
        simp only [if_true, emit_setZone, emit_emit]
        rfl)
    exact ⟨t, eq, frame, zones, sends⟩
  · obtain ⟨t, eq, zones, sends, frame⟩ := zone_taken (i := .evaluationComplete z answer) (z := z) (f := fun s =>
      match s.zones[z].evalState with
      | .idle => s
      | .gathering =>
        if s.zones[z].abandoned then (s.setZone z { s.zones[z] with abandoned := false }).emit [.stallSumRequest z]
        else completeEvaluation z answer s)
      (u := { s.zones[z] with abandoned := false }) (l := [.stallSumRequest z]) power (by
      simp only [taken_zones, gathers, marked, if_true])
    exact ⟨t, eq, frame, zones, sends⟩

/-! ### What an evaluation leaves and sends -/

/-- The unit at the end of an evaluation (R33). -/
def finished (u : ZoneUnit) : ZoneUnit := if u.again then { u with again := false } else { u with evalState := .idle }

/-- The stall sum request of an evaluation that was owed (R33). -/
def finishSends (z : Zone) (u : ZoneUnit) : List Instr := if u.again then [.stallSumRequest z] else []

/-- Finishing an evaluation changes its state and its again flag alone. -/
theorem finished_eq (u : ZoneUnit) : ∃ state, finished u = { u with evalState := state, again := false } := by
  unfold finished
  cases again : u.again with
  | false =>
    refine ⟨.idle, ?_⟩
    rw [if_neg (by simp), ← again]
  | true => exact ⟨u.evalState, if_pos rfl⟩

theorem finishEvaluation_eq (z : Zone) (s : State) :
    finishEvaluation z s = (s.setZone z (finished s.zones[z])).emit (finishSends z s.zones[z]) := by
  unfold finishEvaluation finished finishSends
  dsimp only
  split
  · rfl
  · rw [emit_nil]

/-- The evaluation reads nothing of what is in flight. -/
theorem evaluated_taken (s : State) (i : Instr) (z : Zone) (answer : RosterAnswer) :
    evaluated (s.taken i) z answer = evaluated s z answer := rfl

theorem evaluationOutputs_taken (s : State) (i : Instr) (z : Zone) (u : ZoneUnit) :
    evaluationOutputs (s.taken i) z u = evaluationOutputs s z u := rfl

theorem completeEvaluation_eq (z : Zone) (answer : RosterAnswer) (s : State) :
    completeEvaluation z answer s = (s.setZone z (finished (evaluated s z answer))).emit
      (evaluationOutputs s z (evaluated s z answer) ++ finishSends z (evaluated s z answer)) := by
  have unit : ((s.setZone z (evaluated s z answer)).emit (evaluationOutputs s z (evaluated s z answer))).zones[z] = evaluated s z answer :=
    Vector.getElem_set_self _
  have twice (u v : ZoneUnit) : (s.setZone z u).setZone z v = s.setZone z v := by
    simp [State.setZone]
  unfold completeEvaluation
  dsimp only
  rw [finishEvaluation_eq, unit, emit_setZone, twice, emit_emit]

/-- What an evaluation leaves and sends, at a zone that takes the answer (R33, R34). -/
theorem evaluationComplete_taken (g : gathering s z) (answer : RosterAnswer) :
    ∃ t, exec (.evaluationComplete z answer) s = .next t ∧ t.zones = s.zones.set z (finished (evaluated s z answer)) ∧
      sent (.evaluationComplete z answer) s t
        (evaluationOutputs s z (evaluated s z answer) ++ finishSends z (evaluated s z answer)) ∧
      onlyChanges [.zones, .inFlight] s t := by
  obtain ⟨power, gathers, kept⟩ := g
  refine zone_taken (i := .evaluationComplete z answer) (z := z) (f := fun s =>
      match s.zones[z].evalState with
      | .idle => s
      | .gathering =>
        if s.zones[z].abandoned then (s.setZone z { s.zones[z] with abandoned := false }).emit [.stallSumRequest z]
        else completeEvaluation z answer s) power ?_
  simp only [taken_zones, gathers, kept, Bool.false_eq_true, if_false]
  rw [completeEvaluation_eq, evaluated_taken, evaluationOutputs_taken]

/-! ### The gas values -/

theorem mem_headsOf {h : HeadAddr} : h ∈ headsOf s z ↔ s.sensors.heads[h].zone = some z := by
  unfold headsOf
  rw [List.mem_filter]
  simp [allHeads]

theorem mem_countingHeads {h : HeadAddr} : h ∈ countingHeads s z ↔ countsIn s z h := by
  unfold countingHeads countsIn
  rw [List.mem_filter, mem_headsOf, HeadState.counts_iff]

/-- The largest of a reading over the heads that count. -/
theorem largestOf_largest (s : State) (z : Zone) (get : HeadRecord → Option Nat) :
    largestOf s z get (largest ((countingHeads s z).filterMap fun h => get s.sensors.heads[h])) := by
  obtain ⟨empty, greatest⟩ := largest_spec ((countingHeads s z).filterMap fun h => get s.sensors.heads[h])
  refine ⟨?_, fun v value => ?_⟩
  · rw [empty, List.filterMap_eq_nil_iff]
    exact forall_congr' fun h => by rw [mem_countingHeads]
  · obtain ⟨there, most⟩ := greatest v value
    obtain ⟨h, counting, read⟩ := List.mem_filterMap.mp there
    exact ⟨⟨h, mem_countingHeads.mp counting, read⟩,
      fun a counting w read => most w (List.mem_filterMap.mpr ⟨a, mem_countingHeads.mpr counting, read⟩)⟩

theorem gasSourceOf_noHeads (h : ∀ a : HeadAddr, s.sensors.heads[a].zone ≠ some z) : gasSourceOf s z = .noHeads := by
  have none : headsOf s z = [] := List.eq_nil_iff_forall_not_mem.mpr fun a mem => h a (mem_headsOf.mp mem)
  simp [gasSourceOf, none]

theorem headsOf_ne_nil (h : ∃ a : HeadAddr, s.sensors.heads[a].zone = some z) : (headsOf s z).isEmpty = false := by
  obtain ⟨a, own⟩ := h
  exact List.isEmpty_eq_false_iff_exists_mem.mpr ⟨a, mem_headsOf.mpr own⟩

theorem gasSourceOf_floorTerm (h : ∃ a : HeadAddr, s.sensors.heads[a].zone = some z) (none : ∀ a : HeadAddr, ¬ countsIn s z a) :
    gasSourceOf s z = .floorTerm := by
  have empty : countingHeads s z = [] := List.eq_nil_iff_forall_not_mem.mpr fun a mem => none a (mem_countingHeads.mp mem)
  simp [gasSourceOf, headsOf_ne_nil h, empty]

theorem gasSourceOf_readings (h : ∃ a : HeadAddr, countsIn s z a) : gasSourceOf s z = .readings := by
  obtain ⟨a, counting⟩ := h
  have some : (countingHeads s z).isEmpty = false := List.isEmpty_eq_false_iff_exists_mem.mpr ⟨a, mem_countingHeads.mpr counting⟩
  simp [gasSourceOf, headsOf_ne_nil ⟨a, counting.1⟩, some]

/-- The last thing an evaluation that was owed sends is the next stall sum request (R33). -/
theorem getLast?_finishSends (l : List Instr) {u : ZoneUnit} (again : u.again = true) :
    (l ++ finishSends z u).getLast? = some (.stallSumRequest z) := by
  simp [finishSends, again]

/-- Settles O26. -/
theorem evaluationFindsDemand : Obligations.EvaluationFindsDemand := by
  intro s z answer g
  obtain ⟨t, eq, zones, sends, frame⟩ := evaluationComplete_taken g answer
  have unit : t.zones[z] = finished (evaluated s z answer) := by
    rw [zones]
    exact Vector.getElem_set_self _
  have others (y : Zone) (h : y ≠ z) : t.zones[y] = s.zones[y] := by
    rw [zones]
    exact Vector.getElem_set_ne z.isLt y.isLt fun k => h (Fin.ext k.symm)
  obtain ⟨power, gathers, kept⟩ := g
  obtain ⟨state, final⟩ := finished_eq (evaluated s z answer)
  have gas : t.zones[z].gasTerm = gasTermOf s.store.cfg (gasSourceOf s z) (zoneCo s z) (zoneNo2 s z) := by
    rw [unit, final]
    rfl
  have source : t.zones[z].gasSource = some (gasSourceOf s z) := by
    rw [unit, final]
    rfl
  have demand : t.zones[z].demand = demandFor s.store.cfg.zones[z] t.zones[z].mode t.zones[z].clampedDemand := by
    rw [unit, final]
    rfl
  refine ⟨t, eq, frame, others, ?_, ?_, ?_, ?_, ?_, ?_, fun h => ?_, fun h none => ?_, fun h => ?_, ?_, ?_, fun h => ?_, fun h => ?_,
    fun h => ?_, fun h => ?_, ?_, ?_, ?_, fun once => ?_, fun again => ?_⟩
  · rw [unit, final]; rfl
  · rw [unit, final]; rfl
  · rw [unit, final]; rfl
  · rw [unit, final]; rfl
  · rw [unit, final]
    exact largestOf_largest s z HeadRecord.co
  · rw [unit, final]
    exact largestOf_largest s z HeadRecord.no2
  · rw [gas, source, gasSourceOf_noHeads h]
    exact ⟨rfl, rfl⟩
  · rw [gas, source, gasSourceOf_floorTerm h none]
    exact ⟨rfl, rfl⟩
  · rw [gas, source, gasSourceOf_readings h, unit, final]
    exact ⟨rfl, Nat.min_comm _ _⟩
  · rw [unit, final]; rfl
  · rw [unit, final]; rfl
  · rw [demand]
    rcases h with h | h | h | h <;> rw [h] <;> rfl
  · rw [demand, h]; rfl
  · rw [demand, h]; rfl
  · rw [demand]
    rcases h with h | h <;> rw [h] <;> rfl
  · rw [unit, final]
  · rw [unit, final]
    exact kept
  · rw [unit, final]; rfl
  · rw [unit, finished, if_neg]
    rw [show (evaluated s z answer).again = s.zones[z].again from rfl, once]
    simp
  · have owed : (evaluated s z answer).again = true := again
    refine ⟨?_, ?_⟩
    · rw [unit, finished, if_pos owed]
      exact gathers
    · rw [sends, ← List.append_assoc]
      exact getLast?_finishSends _ owed

/-! ### The choice of mode -/

theorem sum_pow_le (p : Zone → Bool) : ((allZones.filter p).map fun b => 2 ^ b.val).sum ≤ 255 := by
  have whole : (allZones.map fun b : Zone => 2 ^ b.val).sum = 255 := by decide
  rw [← whole]
  exact List.Sublist.sum_le_sum ((List.filter_sublist).map _) fun _ _ => Nat.zero_le _

theorem sum_pow_pos {l : List Zone} : 0 < (l.map fun b => 2 ^ b.val).sum ↔ l ≠ [] := by
  cases l with
  | nil => simp
  | cons b l =>
    have pos : 0 < 2 ^ b.val := Nat.two_pow_pos _
    simp only [List.map_cons, List.sum_cons, ne_eq, reduceCtorEq, not_false_eq_true, iff_true]
    omega

/-- The mask of adjacent fires is empty exactly where no adjacent zone holds FIRE-EXTRACT (R52). -/
theorem adjacentFires_ne_zero : (adjacentFires s z != 0) = true ↔ adjacentFire s z := by
  unfold adjacentFires
  rw [total_eq_sum, bne_iff_ne, ne_eq, ← BitVec.toNat_inj, BitVec.toNat_ofNat, Nat.mod_eq_of_lt (Nat.lt_succ_of_le (sum_pow_le _))]
  show ¬ _ = 0 ↔ _
  rw [← ne_eq, ← Nat.pos_iff_ne_zero, sum_pow_pos]
  have mem (b : Zone) : b ∈ allZones.filter (fun b => (s.zoneCfg z).adjacency.getLsbD b.val && s.zones[b].mode == .fireExtract) ↔
      s.store.cfg.zones[z].adjacency.getLsbD b.val = true ∧ s.zones[b].mode = .fireExtract := by
    rw [List.mem_filter, Bool.and_eq_true, beq_iff_eq]
    exact ⟨fun h => h.2, fun h => ⟨mem_allZones b, h⟩⟩
  refine ⟨fun some => ?_, fun ⟨b, fire⟩ => List.ne_nil_of_mem ((mem b).mpr fire)⟩
  obtain ⟨b, here⟩ := List.exists_mem_of_ne_nil _ some
  exact ⟨b, (mem b).mp here⟩

theorem reaches_iff {value : Option Nat} {level : Nat} : reaches value level = true ↔ ∃ v ∈ value, level ≤ v := by
  cases value <;> simp [reaches]

theorem below_iff {value : Option Nat} {level : Nat} : below value level = true ↔ ∃ v ∈ value, v < level := by
  cases value <;> simp [below]

/-- The conditions an evaluation chooses its mode by. -/
def conditionsOf (s : State) (z : Zone) (answer : RosterAnswer) : Conditions :=
  { command := s.fire.commands[z], latch := s.fire.latches[z], adjacent := adjacentFires s z
    gasHigh := (evaluated s z answer).gasHigh, thermal := answer.thermal }

theorem evaluated_mode (answer : RosterAnswer) :
    (evaluated s z answer).mode = chooseMode (conditionsOf s z answer) (evaluated s z answer).quiet := rfl

/-- The latch and the clear delay an evaluation leaves, as a pair. -/
theorem evaluated_latch (answer : RosterAnswer) :
    ((evaluated s z answer).gasHigh, (evaluated s z answer).clearDelay) =
      updateLatch s.store.cfg (evaluated s z answer).co (evaluated s z answer).no2 s.zones[z].gasHigh s.zones[z].clearDelay := rfl

theorem chooseMode_of_command {c : Conditions} {q : QuietPhase} :
    (c.command = some .on → chooseMode c q = .manualOn) ∧ (c.command = some .off → chooseMode c q = .manualOff) := by
  refine ⟨fun h => ?_, fun h => ?_⟩ <;> simp only [chooseMode, h]

theorem chooseMode_of_latch {c : Conditions} {q : QuietPhase} (free : c.command = none) (h : c.latch = true) :
    chooseMode c q = .fireExtract := by
  simp only [chooseMode, free, h, if_true]

theorem chooseMode_of_adjacent {c : Conditions} {q : QuietPhase} (free : c.command = none) (clear : c.latch = false)
    (h : (c.adjacent != 0) = true) : chooseMode c q = .smokeHold := by
  simp only [chooseMode, free, clear, h, if_true, Bool.false_eq_true, if_false]

/-- Ranks 4 to 7 of R52, where no fire condition holds. -/
theorem chooseMode_of_noFire {c : Conditions} {q : QuietPhase} (free : c.command = none) (clear : c.latch = false)
    (alone : (c.adjacent != 0) = false) :
    chooseMode c q = if c.gasHigh then .gasAlarm else if c.thermal then .thermal else if q.isQuiet then .quiet else .normal := by
  simp only [chooseMode, free, clear, alone, Bool.false_eq_true, if_false]

theorem isQuiet_iff {q : QuietPhase} : q.isQuiet = true ↔ ∃ n, q = .pulse n ∨ q = .space n := by
  cases q <;> simp [QuietPhase.isQuiet]

/-- The quiet phase follows the table of R64. -/
theorem updateQuiet_follows (zc : ZoneCfg) {test : Bool} {holds : Prop} (same : test = true ↔ holds) (q : QuietPhase) :
    quietFollows zc holds q (updateQuiet zc test q) := by
  cases test with
  | true =>
    refine ⟨fun _ => ⟨?_, ?_, ?_, ?_, ?_⟩, fun h => absurd (same.mp rfl) h⟩ <;> rintro h <;> simp_all [updateQuiet]
  | false =>
    refine ⟨fun h => absurd (same.mpr h) (by simp), fun _ => ?_⟩
    cases q <;> rfl

/-- The quiet test of an evaluation (R63). -/
def quietTestOf (s : State) (z : Zone) (answer : RosterAnswer) : Bool :=
  !(conditionsOf s z answer).anyHolds && answer.sum == 0 && (evaluated s z answer).anticipation == 0 &&
    (evaluated s z answer).gasTerm == 0 && !answer.residue

theorem evaluated_quiet (answer : RosterAnswer) :
    (evaluated s z answer).quiet = updateQuiet s.store.cfg.zones[z] (quietTestOf s z answer) s.zones[z].quiet := rfl

theorem quietTestOf_iff (answer : RosterAnswer) :
    quietTestOf s z answer = true ↔ quietHolds s z answer (evaluated s z answer) := by
  have adjacent : (adjacentFires s z != 0) = false ↔ ¬ adjacentFire s z := by
    rw [← adjacentFires_ne_zero, Bool.not_eq_true]
  have any : (conditionsOf s z answer).anyHolds = (s.fire.commands[z].isSome || s.fire.latches[z] || adjacentFires s z != 0 ||
      (evaluated s z answer).gasHigh || answer.thermal) := rfl
  unfold quietTestOf quietHolds
  rw [any, ← adjacent]
  generalize s.fire.commands[z] = command
  cases command <;> simp [and_assoc]

/-- A change of the gas-high latch is among what an evaluation sends (R60). -/
theorem latchReport_mem {u : ZoneUnit} (h : s.zones[z].gasHigh ≠ u.gasHigh) :
    (if u.gasHigh then Instr.conditionActiveReport .gasHigh z.val else .conditionClearReport .gasHigh z.val) ∈
      evaluationOutputs s z u := by
  unfold evaluationOutputs
  dsimp only
  rw [if_neg h]
  simp

/-- Entering and leaving FIRE-EXTRACT asks the adjacent zones to evaluate (R72). -/
theorem fireSpread_mem {u : ZoneUnit} (h : ¬(s.zones[z].mode = .fireExtract ↔ u.mode = .fireExtract)) {b : Zone}
    (adjacent : s.store.cfg.zones[z].adjacency.getLsbD b.val = true) : .evaluationRequest b ∈ evaluationOutputs s z u := by
  have changed : ((s.zones[z].mode == .fireExtract) != (u.mode == .fireExtract)) = true := by
    rw [bne_iff_ne, ne_eq, Bool.eq_iff_iff, beq_iff_eq, beq_iff_eq]
    exact h
  refine List.mem_append_right _ ?_
  rw [fireSpread, if_pos changed]
  exact List.mem_map_of_mem (List.mem_filter.mpr ⟨mem_allZones b, adjacent⟩)

/-- The latch and the clear delay of R57. -/
theorem updateLatch_clear (cfg : Cfg) (co no2 : Option Nat) (delay : ClearDelay) :
    (updateLatch cfg co no2 false delay).2 = .idle ∧
      ((updateLatch cfg co no2 false delay).1 = true ↔ (∃ v ∈ co, cfg.coHigh ≤ v) ∨ ∃ v ∈ no2, cfg.no2High ≤ v) := by
  refine ⟨rfl, ?_⟩
  rw [← reaches_iff, ← reaches_iff, ← Bool.or_eq_true]
  rfl

theorem updateLatch_low {cfg : Cfg} {co no2 : Option Nat} (low : (∃ v ∈ co, v < cfg.coClear) ∧ ∃ v ∈ no2, v < cfg.no2Clear)
    (delay : ClearDelay) : updateLatch cfg co no2 true delay =
      match delay with
      | .idle => (true, .running Config.clearDelaySeconds)
      | .running n => (true, .running n)
      | .runOut => (false, .idle) := by
  rw [← below_iff, ← below_iff, ← Bool.and_eq_true] at low
  unfold updateLatch
  cases delay <;> simp only [if_true, if_pos low]

theorem updateLatch_notLow {cfg : Cfg} {co no2 : Option Nat}
    (high : ¬((∃ v ∈ co, v < cfg.coClear) ∧ ∃ v ∈ no2, v < cfg.no2Clear)) (delay : ClearDelay) :
    updateLatch cfg co no2 true delay = (true, .idle) := by
  rw [← below_iff, ← below_iff, ← Bool.and_eq_true] at high
  unfold updateLatch
  rw [if_pos rfl, if_neg high]

/-- Settles O27. -/
theorem evaluationChoosesMode : Obligations.EvaluationChoosesMode := by
  intro s z answer g
  obtain ⟨t, eq, zones, sends, -⟩ := evaluationComplete_taken g answer
  have unit : t.zones[z] = finished (evaluated s z answer) := by
    rw [zones]
    exact Vector.getElem_set_self _
  obtain ⟨state, final⟩ := finished_eq (evaluated s z answer)
  rw [final] at unit
  have among {i : Instr} (h : i ∈ evaluationOutputs s z (evaluated s z answer)) :
      i ∈ evaluationOutputs s z (evaluated s z answer) ++ finishSends z (evaluated s z answer) := List.mem_append_left _ h
  have latch := evaluated_latch (s := s) (z := z) answer
  refine ⟨t, eq, _, sends, ?_⟩
  rw [unit]
  dsimp only
  refine ⟨?_, ?_, fun free set => ?_, fun free clear => ⟨fun fire => ?_, fun none => ?_⟩, fun clear => ?_, fun set =>
    ⟨fun low => ?_, fun high => ?_⟩, fun h => among (latchReport_mem h), fun h b adjacent => among (fireSpread_mem h adjacent), ?_⟩
  · exact (chooseMode_of_command (c := conditionsOf s z answer)).1
  · exact (chooseMode_of_command (c := conditionsOf s z answer)).2
  · exact chooseMode_of_latch free set
  · exact chooseMode_of_adjacent free clear (adjacentFires_ne_zero.mpr fire)
  · have alone : ((conditionsOf s z answer).adjacent != 0) = false := by
      rw [← Bool.not_eq_true]
      exact fun h => none (adjacentFires_ne_zero.mp h)
    have mode := (evaluated_mode (s := s) (z := z) answer).trans
      (chooseMode_of_noFire (c := conditionsOf s z answer) free clear alone)
    rw [show (conditionsOf s z answer).gasHigh = (evaluated s z answer).gasHigh from rfl,
      show (conditionsOf s z answer).thermal = answer.thermal from rfl] at mode
    refine ⟨fun high => ?_, fun low thermal => ?_, fun low cool => ⟨fun quiet => ?_, fun loud => ?_⟩⟩
    · rw [mode, if_pos high]
    · rw [mode, low, thermal]
      rfl
    · rw [mode, low, cool, isQuiet_iff.mpr quiet]
      rfl
    · have off : ¬ (evaluated s z answer).quiet.isQuiet = true := fun h => by
        obtain ⟨n, pulse | space⟩ := isQuiet_iff.mp h
        · exact (loud n).1 pulse
        · exact (loud n).2 space
      rw [mode, low, cool, if_neg off]
      rfl
  · rw [clear] at latch
    obtain ⟨idle, sets⟩ := updateLatch_clear s.store.cfg (evaluated s z answer).co (evaluated s z answer).no2 s.zones[z].clearDelay
    rw [← latch] at idle sets
    exact ⟨idle, sets⟩
  · rw [set, updateLatch_low low] at latch
    refine ⟨fun delay => ?_, fun n delay => ?_, fun delay => ?_⟩
    · rw [delay] at latch
      exact Prod.mk.inj latch
    · rw [delay] at latch
      exact Prod.mk.inj latch
    · rw [delay] at latch
      exact Prod.mk.inj latch
  · rw [set, updateLatch_notLow high] at latch
    exact Prod.mk.inj latch
  · exact updateQuiet_follows _ (quietTestOf_iff answer) _

end Sys2Proof.Machine

/-! Staging, the standby request, and what an evaluation gives the fans and the damper (R43 to R51, R55). -/

namespace Sys2Proof.Machine

open State

variable {s : State} {z : Zone}

/-! ### The targets of an evaluation -/

theorem mem_targetsOf {mode : ZoneMode} {k : Nat} {p : Option Nat} {call : Option StandbyCall} {c : Chan} {target : FanTarget} :
    (c, target) ∈ targetsOf s z mode k p call ↔ targetFor s z mode k p call c = some target := by
  unfold targetsOf
  simp only [List.mem_filterMap, Option.map_eq_some_iff, Prod.mk.injEq, allChans]
  exact ⟨fun ⟨_, _, _, given, same, is⟩ => is ▸ same ▸ given, fun given => ⟨c, List.mem_finRange c, target, given, rfl, rfl⟩⟩

/-- Targets are given in ascending channel number (R179). -/
theorem targetsOf_ascending (mode : ZoneMode) (k : Nat) (p : Option Nat) (call : Option StandbyCall) :
    ((targetsOf s z mode k p call).map fun t => t.1.val).Pairwise (· < ·) := by
  have ascending : allChans.Pairwise (· < ·) := List.pairwise_lt_finRange 16
  refine List.pairwise_map.mpr (List.Pairwise.filterMap _ ?_ ascending)
  intro c d less a ha b hb
  simp only [Option.map_eq_some_iff] at ha hb
  obtain ⟨_, _, rfl⟩ := ha
  obtain ⟨_, _, rfl⟩ := hb
  exact less

/-- An own fan not in SERVICE gets the target of the mode (R48). -/
theorem targetFor_own {mode : ZoneMode} {k : Nat} {p : Option Nat} {call : Option StandbyCall} {c : Chan}
    (own : s.store.cfg.channels[c].role = .zone z) (serves : s.fans[c].state ≠ .service) :
    targetFor s z mode k p call c = some (ownTarget s z mode k p c) := by
  unfold targetFor State.chan
  rw [own]
  exact if_neg fun h => h.elim (fun other => other rfl) serves

/-- A standby fan the zone holds gets the target of the request (R51). -/
theorem targetFor_standby {mode : ZoneMode} {k : Nat} {p : Option Nat} {call : Option StandbyCall} {c : Chan} (held : holdsStandby s z c) :
    targetFor s z mode k p call c = standbyTarget s z call c := by
  obtain ⟨⟨reach, role⟩, grant⟩ := held
  unfold targetFor State.chan
  rw [role]
  exact if_pos grant

theorem targetFor_taker {mode : ZoneMode} {k : Nat} {p : Option Nat} {call : Option StandbyCall} {c : Chan} {target : FanTarget}
    (given : targetFor s z mode k p call c = some target) :
    (s.store.cfg.channels[c].role = .zone z ∧ s.fans[c].state ≠ .service) ∨ holdsStandby s z c := by
  unfold targetFor State.chan at given
  cases role : s.store.cfg.channels[c].role with
  | zone y =>
    rw [role] at given
    dsimp only at given
    split at given
    · cases given
    · rename_i h
      rw [not_or, not_not] at h
      exact .inl ⟨by rw [h.1], h.2⟩
  | standby reach =>
    rw [role] at given
    dsimp only at given
    split at given
    · rename_i grant
      exact .inr ⟨⟨reach, role⟩, grant⟩
    · cases given
  | unused =>
    rw [role] at given
    cases given

theorem fanSpeed_eq (s : State) (c : Chan) (speed : Nat) : fanSpeed s c speed = runningSpeed s c speed := rfl

theorem mem_ownFans {c : Chan} : c ∈ ownFans s z ↔ s.store.cfg.channels[c].role = .zone z := by
  unfold ownFans
  rw [List.mem_filter, beq_iff_eq]
  exact ⟨fun h => h.2, fun h => ⟨List.mem_finRange c, h⟩⟩

theorem available_ne_service {f : FanState} (h : f.available = true) : f ≠ .service := by
  rintro rfl
  cases h

theorem mem_availableFans {c : Chan} (h : c ∈ availableFans s z) :
    s.store.cfg.channels[c].role = .zone z ∧ s.fans[c].state ≠ .service := by
  obtain ⟨own, available⟩ := List.mem_filter.mp h
  exact ⟨mem_ownFans.mp own, available_ne_service available⟩

/-! ### Staging -/

theorem firstRated_mono (s : State) (avail : List Chan) {i j : Nat} (h : i ≤ j) : firstRated s avail i ≤ firstRated s avail j := by
  unfold firstRated ratedSum
  rw [total_eq_sum, total_eq_sum]
  exact List.Sublist.sum_le_sum ((List.take_sublist_take_left h).map _) fun _ _ => Nat.zero_le _

theorem firstRated_length (s : State) (avail : List Chan) : firstRated s avail avail.length = ratedSum s avail := by
  rw [firstRated, List.take_length]

theorem firstRated_zero (s : State) (avail : List Chan) : firstRated s avail 0 = 0 := rfl

/-- The three outcomes of R45: raised to the target count, lowered to a count that passes the four-fifths test, or held. -/
theorem updateStage_cases (s : State) (avail : List Chan) (d held : Nat) :
    (min held avail.length < targetCount s avail d ∧ updateStage s avail d held = targetCount s avail d) ∨
    (targetCount s avail d ≤ updateStage s avail d held ∧ updateStage s avail d held < min held avail.length ∧
      5 * d ≤ 4 * firstRated s avail (updateStage s avail d held)) ∨
    (targetCount s avail d ≤ updateStage s avail d held ∧ updateStage s avail d held = min held avail.length) := by
  unfold updateStage
  generalize targetCount s avail d = target
  dsimp only
  split
  · rename_i less
    exact .inl ⟨less, rfl⟩
  · rename_i le
    refine .inr ?_
    cases found : (List.range' target (min held avail.length - target)).find? fun j => 5 * d ≤ 4 * firstRated s avail j with
    | none => exact .inr ⟨by simp only [Option.getD_none]; omega, rfl⟩
    | some j =>
      have passes := List.find?_some found
      have mem := List.mem_range'_1.mp (List.mem_of_find?_eq_some found)
      simp only [decide_eq_true_eq] at passes
      exact .inl ⟨mem.1, by simp only [Option.getD_some]; omega, passes⟩

/-- What R45 makes of a demand, in the manual's terms. -/
theorem updateStage_facts (s : State) (avail : List Chan) (d held : Nat) :
    let q := firstRated s avail
    let k := updateStage s avail d held
    k ≤ avail.length ∧ (d ≤ q k ∨ k = avail.length) ∧ (d = 0 → k = 0) ∧ (0 < d → avail ≠ [] → 1 ≤ k) ∧
      (k < held → k = avail.length ∨ 5 * d ≤ 4 * q k) ∧ (held < k → ∀ j, j < k → q j < d) := by
  dsimp only
  obtain ⟨least, enough, fewer⟩ := targetCount_spec s avail d
  have zero : firstRated s avail 0 = 0 := rfl
  have outcome := updateStage_cases s avail d held
  have reaches : targetCount s avail d ≤ updateStage s avail d held := by
    obtain ⟨-, h⟩ | ⟨h, -⟩ | ⟨h, -⟩ := outcome <;> omega
  have atMost : updateStage s avail d held ≤ avail.length := by
    obtain ⟨-, h⟩ | ⟨-, h, -⟩ | ⟨-, h⟩ := outcome <;> omega
  refine ⟨atMost, ?_, fun none => ?_, fun some fans => ?_, fun fell => ?_, fun rose => ?_⟩
  · obtain enough | all := enough
    · exact .inl (Nat.le_trans enough (firstRated_mono s avail reaches))
    · exact .inr (by omega)
  · subst none
    have target : targetCount s avail 0 = 0 := rfl
    by_cases held' : min held avail.length = 0
    · obtain ⟨h, -⟩ | ⟨-, h, -⟩ | ⟨-, h⟩ := outcome <;> omega
    · obtain ⟨-, lowers⟩ := updateStage_spec s avail 0 held 0 (target ▸ targetCount_spec s avail 0)
      exact (lowers (Nat.zero_le _)).1 0 (Nat.le_refl 0) (Nat.pos_of_ne_zero held') (Nat.zero_le _) fun i _ less =>
        absurd less (Nat.not_lt_zero i)
  · have some' : 0 < avail.length := List.length_pos_iff.mpr fans
    obtain enough | all := enough
    · by_contra none
      rw [show targetCount s avail d = 0 by omega, zero] at enough
      omega
    · omega
  · obtain ⟨h, k⟩ | ⟨-, -, h⟩ | ⟨-, h⟩ := outcome
    · omega
    · exact .inr h
    · exact .inl (by omega)
  · obtain ⟨-, k⟩ | ⟨-, h, -⟩ | ⟨-, h⟩ := outcome
    · rw [k]
      exact fewer
    · omega
    · omega

/-! ### The standby request -/

theorem coverNeeded_iff : coverNeeded s z = true ↔ coverDue s z := by
  unfold coverNeeded coverDue
  simp only [Bool.or_eq_true, List.any_eq_true, mem_ownFans, beq_iff_eq]

theorem ratedSum_heldStandby : ratedSum s (heldStandby s z) = grantedFlow s s.alloc z := total_eq_sum _

/-- Of what an evaluation sends, the events of the standby request are those of its change (R50). -/
theorem requestEvents_eq (z : Zone) (held wanted : Option StandbyCall) : requestEvents z held wanted = requestSends z held wanted := by
  unfold requestSends
  cases held with
  | none => cases wanted <;> simp [requestEvents]
  | some h =>
    cases wanted with
    | none => simp [requestEvents]
    | some w => by_cases same : h = w <;> simp [requestEvents, same]

theorem filter_requestSends (z : Zone) (held wanted : Option StandbyCall) :
    (requestSends z held wanted).filter isRequestEvent = requestSends z held wanted := by
  unfold requestSends
  split
  · rfl
  · cases held <;> cases wanted <;> rfl

theorem filter_eq_nil_of_forall {l : List Instr} (h : ∀ i ∈ l, isRequestEvent i = false) : l.filter isRequestEvent = [] :=
  List.filter_eq_nil_iff.mpr fun i mem => by rw [h i mem]; simp

theorem filter_fireSpread (before after : ZoneMode) : (fireSpread s z before after).filter isRequestEvent = [] := by
  refine filter_eq_nil_of_forall fun i mem => ?_
  unfold fireSpread at mem
  split at mem
  · obtain ⟨b, -, rfl⟩ := List.mem_map.mp mem
    rfl
  · cases mem

theorem filter_evaluationOutputs (u v : ZoneUnit) :
    (evaluationOutputs s z u ++ finishSends z v).filter isRequestEvent = requestSends z s.zones[z].request u.request := by
  have report : (if s.zones[z].gasHigh = u.gasHigh then []
      else [if u.gasHigh then Instr.conditionActiveReport .gasHigh z.val else .conditionClearReport .gasHigh z.val]).filter
        isRequestEvent = [] := by
    cases s.zones[z].gasHigh <;> cases u.gasHigh <;> rfl
  have finish : (finishSends z v).filter isRequestEvent = [] := by
    unfold finishSends
    split <;> rfl
  have handed (targets : List (Chan × FanTarget)) (r : DamperRequest) :
      [Instr.fanTargets z targets, .damperRequest z r].filter isRequestEvent = [] := rfl
  unfold evaluationOutputs
  simp only [List.filter_append, report, finish, handed, filter_fireSpread, requestEvents_eq, filter_requestSends, List.append_nil,
    List.nil_append]

theorem fanTargets_mem (u : ZoneUnit) :
    .fanTargets z (targetsOf s z u.mode u.stageCount u.speed u.request) ∈ evaluationOutputs s z u := by
  simp [evaluationOutputs]

theorem damperRequest_mem (u : ZoneUnit) : .damperRequest z (damperRequestFor u.mode u.stageCount) ∈ evaluationOutputs s z u := by
  simp [evaluationOutputs]

/-! ### What each mode gives -/

/-- An own fan's target in the modes that stage, QUIET among them (R46, R47, R66). -/
theorem ownTarget_of_staging {mode : ZoneMode} {k : Nat} {p : Option Nat} {c : Chan} (h : stagedMode mode ∨ mode = .quiet) :
    (c ∈ (availableFans s z).take k → ownTarget s z mode k p c = .on (runningSpeed s c (p.getD 0)) false) ∧
      (c ∉ (availableFans s z).take k → ownTarget s z mode k p c = .off) := by
  have eq : ownTarget s z mode k p c =
      if ((availableFans s z).take k).contains c then .on (fanSpeed s c (p.getD 0)) false else .off := by
    rcases h with (rfl | rfl | rfl) | rfl <;> rfl
  rw [eq, fanSpeed_eq]
  exact ⟨fun mem => if_pos (List.contains_iff_mem.mpr mem), fun out => if_neg fun mem => out (List.contains_iff_mem.mp mem)⟩

theorem ownTarget_of_forced {mode : ZoneMode} {k : Nat} {p : Option Nat} {c : Chan} (h : mode = .fireExtract ∨ mode = .manualOn) :
    ownTarget s z mode k p c = .on 100 true := by
  rcases h with rfl | rfl <;> rfl

theorem ownTarget_of_held {mode : ZoneMode} {k : Nat} {p : Option Nat} {c : Chan} (h : mode = .smokeHold ∨ mode = .manualOff) :
    ownTarget s z mode k p c = .off := by
  rcases h with rfl | rfl <;> rfl

theorem staged_of_stagedMode {mode : ZoneMode} (h : stagedMode mode) : mode.staged = true := by
  rcases h with rfl | rfl | rfl <;> rfl

theorem forcedCount_eq : ((ownFans s z).filter fun c => s.fans[c].state != .service).length =
    ((List.finRange 16).filter fun c : Chan => s.store.cfg.channels[c].role == .zone z && s.fans[c].state != .service).length := by
  unfold ownFans
  rw [List.filter_filter]
  exact congrArg List.length (List.filter_congr fun c _ => Bool.and_comm _ _)

/-- The stage count, the speed, the shortfall and the request an evaluation records (R45, R47, R49, R50, R55). -/
theorem evaluated_staging (answer : RosterAnswer) :
    let u := evaluated s z answer
    u.stageCount = stageFor s z u.mode u.quiet u.demand s.zones[z].stageCount ∧
      u.speed = speedFor s z u.mode u.demand u.stageCount ∧ u.shortfall = shortfallFor s z u.mode u.demand ∧
      u.request = wantedCall s z u.mode u.shortfall :=
  ⟨rfl, rfl, rfl, rfl⟩

theorem stageFor_staged {mode : ZoneMode} {quiet : QuietPhase} {d held : Nat} (h : mode.staged = true) :
    stageFor s z mode quiet d held = updateStage s (availableFans s z) d held := if_pos h

/-- The speed of the staged modes is the demand over the staged capacity, rounded up (R47). -/
theorem speedFor_staged {mode : ZoneMode} {d k : Nat} (h : mode.staged = true) (some' : 1 ≤ k)
    (carries : 0 < firstRated s (availableFans s z) k) :
    ∃ p, speedFor s z mode d k = some p ∧ 100 * d ≤ p * firstRated s (availableFans s z) k ∧
      p * firstRated s (availableFans s z) k < 100 * d + firstRated s (availableFans s z) k := by
  have one : k ≠ 0 := by omega
  refine ⟨ceilDiv (100 * d) (firstRated s (availableFans s z) k), ?_, ceilDiv_bounds carries⟩
  unfold speedFor stagingSpeed
  simp only [one, h, if_true, if_false]

theorem shortfallFor_staged {mode : ZoneMode} {d : Nat} (h : mode.staged = true) :
    shortfallFor s z mode d = d - firstRated s (availableFans s z) (availableFans s z).length := by
  rw [firstRated_length, shortfallFor, if_pos h]

theorem speedFor_zero {mode : ZoneMode} {d : Nat} : speedFor s z mode d 0 = none := by
  simp [speedFor]

theorem damperRequestFor_staged {mode : ZoneMode} {k : Nat} (h : stagedMode mode) :
    damperRequestFor mode k = if k = 0 then .noRequest else .openPlain := by
  rcases h with rfl | rfl | rfl <;> rfl

/-- A flow request of the zone is staged on the fans it holds (R51). -/
theorem standbyTarget_flow {cls : FlowClass} {amount : Nat} (carries : 0 < grantedFlow s s.alloc z) :
    ∃ p, 100 * amount ≤ p * grantedFlow s s.alloc z ∧ p * grantedFlow s s.alloc z < 100 * amount + grantedFlow s s.alloc z ∧
      ∀ c : Chan, standbyTarget s z (some (.flow cls amount)) c = some (.on (runningSpeed s c p) false) := by
  obtain ⟨low, high⟩ := ceilDiv_bounds (n := 100 * amount) carries
  refine ⟨_, low, high, fun c => ?_⟩
  rw [← ratedSum_heldStandby]
  rfl

section Obligation

variable {u : ZoneUnit}

/-- The targets an evaluation that left a unit gives. -/
def unitTargets (s : State) (z : Zone) (u : ZoneUnit) : List (Chan × FanTarget) :=
  targetsOf s z u.mode u.stageCount u.speed u.request

/-- An own fan's target is among them. -/
theorem own_mem_unitTargets {c : Chan} (own : s.store.cfg.channels[c].role = .zone z) (serves : s.fans[c].state ≠ .service) :
    (c, ownTarget s z u.mode u.stageCount u.speed c) ∈ unitTargets s z u :=
  mem_targetsOf.mpr (targetFor_own own serves)

theorem standby_mem_unitTargets {c : Chan} {target : FanTarget} (held : holdsStandby s z c) :
    (c, target) ∈ unitTargets s z u ↔ standbyTarget s z u.request c = some target := by
  rw [unitTargets, mem_targetsOf, targetFor_standby held]

/-- The fans staged get the staging speed, the other own fans an off target. -/
theorem staged_targets (h : stagedMode u.mode ∨ u.mode = .quiet) :
    (∀ c ∈ (availableFans s z).take u.stageCount, (c, FanTarget.on (runningSpeed s c (u.speed.getD 0)) false) ∈ unitTargets s z u) ∧
      ∀ c : Chan, s.store.cfg.channels[c].role = .zone z → s.fans[c].state ≠ .service →
        c ∉ (availableFans s z).take u.stageCount → (c, FanTarget.off) ∈ unitTargets s z u := by
  refine ⟨fun c mem => ?_, fun c own serves out => ?_⟩
  · obtain ⟨own, serves⟩ := mem_availableFans (List.mem_of_mem_take mem)
    exact (ownTarget_of_staging h).1 mem ▸ own_mem_unitTargets own serves
  · exact (ownTarget_of_staging h).2 out ▸ own_mem_unitTargets own serves

end Obligation

/-- Settles O28. -/
theorem stagingCarriesDemand : Obligations.StagingCarriesDemand := by
  intro s z answer g
  obtain ⟨t, eq, zones, sends, -⟩ := evaluationComplete_taken g answer
  have unit : t.zones[z] = finished (evaluated s z answer) := by
    rw [zones]
    exact Vector.getElem_set_self _
  obtain ⟨state, final⟩ := finished_eq (evaluated s z answer)
  obtain ⟨stages, speeds, shorts, wants⟩ := evaluated_staging (s := s) (z := z) answer
  have among {i : Instr} (h : i ∈ evaluationOutputs s z (evaluated s z answer)) :
      i ∈ evaluationOutputs s z (evaluated s z answer) ++ finishSends z (evaluated s z answer) := List.mem_append_left _ h
  have requests := filter_evaluationOutputs (s := s) (z := z) (evaluated s z answer) (evaluated s z answer)
  refine ⟨t, eq, _, sends, unitTargets s z (evaluated s z answer), among (fanTargets_mem _), targetsOf_ascending _ _ _ _,
    fun p mem => targetFor_taker (mem_targetsOf.mp mem), ?_⟩
  have damper := among (damperRequest_mem (s := s) (z := z) (evaluated s z answer))
  rw [unit, final]
  dsimp only
  generalize evaluated s z answer = u at stages speeds shorts wants requests damper ⊢
  refine ⟨fun staged => ?_, fun alarm => ?_, fun flows => ?_, requests, fun cls amount call carries => ?_, fun fire c held => ?_,
    fun none c held target mem => ?_, fun quiet => ?_, fun forced => ?_, fun closed => ?_⟩
  · have staging := staged_of_stagedMode staged
    rw [stageFor_staged staging] at stages
    rw [damperRequestFor_staged staged] at damper
    have facts := updateStage_facts s (availableFans s z) u.demand s.zones[z].stageCount
    dsimp only at facts
    rw [← stages] at facts
    obtain ⟨most, enough, none, some, fell, rose⟩ := facts
    refine ⟨most, enough, none, some, fell, rose, stages ▸ updateStage_spec _ _ _ _, shorts.trans (shortfallFor_staged staging),
      fun zero => ⟨?_, ?_⟩, fun one => ?_, fun one carries => ?_, (staged_targets (.inl staged)).1, (staged_targets (.inl staged)).2⟩
    · rw [speeds, zero, speedFor_zero]
    · rwa [if_pos zero] at damper
    · rwa [if_neg (by omega)] at damper
    · rw [speeds]
      exact speedFor_staged staging one carries
  · rw [wants, alarm]
    rfl
  · have wanted : u.request =
        if u.shortfall = 0 then none else some (.flow (if coverNeeded s z then .failureCover else .shortfall) u.shortfall) := by
      rw [wants]
      rcases flows with h | h <;> rw [h] <;> rfl
    refine ⟨fun zero => ?_, fun short cover => ?_, fun short uncovered => ?_⟩
    · rw [wanted, if_pos zero]
    · rw [wanted, if_neg (by omega), if_pos (coverNeeded_iff.mpr cover)]
    · rw [wanted, if_neg (by omega), if_neg fun h => uncovered (coverNeeded_iff.mp h)]
  · obtain ⟨p, low, high, speed⟩ := standbyTarget_flow (cls := cls) (amount := amount) carries
    refine ⟨p, low, high, fun c held => (standby_mem_unitTargets held).mpr ?_⟩
    rw [call, speed]
  · refine (standby_mem_unitTargets held).mpr ?_
    rw [fire]
    rfl
  · rw [standby_mem_unitTargets held, none] at mem
    cases mem
  · have short : u.shortfall = 0 := by
      rw [shorts, quiet]
      rfl
    rw [quiet] at damper
    refine ⟨?_, short, damper, fun c rest n pulse fans => ?_, fun idle => ?_⟩
    · rw [wants, quiet]
      rfl
    · have one : u.stageCount = 1 := by
        rw [stages, quiet, pulse]
        show min 1 (availableFans s z).length = 1
        rw [fans, List.length_cons]
        omega
      have speed : u.speed = some s.store.cfg.channels[c].minSpeed := by
        rw [speeds, one, quiet]
        show (availableFans s z).head?.map _ = _
        rw [fans]
        rfl
      obtain ⟨on, off⟩ := staged_targets (s := s) (z := z) (.inr quiet)
      rw [one, fans, List.take_succ_cons, List.take_zero] at on off
      refine ⟨one, speed, ?_, fun d other own serves => off d own serves (by simpa using other)⟩
      have target := on c (List.mem_singleton_self c)
      rwa [speed, Option.getD_some] at target
    · have zero : u.stageCount = 0 := by
        rw [stages, quiet]
        obtain ⟨n, space⟩ | fans := idle
        · rw [space]
          rfl
        · cases u.quiet <;> simp [stageFor, ZoneMode.staged, ZoneMode.forced, fans]
      obtain ⟨-, off⟩ := staged_targets (s := s) (z := z) (.inr quiet)
      refine ⟨zero, by rw [speeds, zero, speedFor_zero], fun c own serves => off c own serves ?_⟩
      rw [zero]
      exact List.not_mem_nil
  · have count : u.stageCount = ((ownFans s z).filter fun c => s.fans[c].state != .service).length := by
      rw [stages]
      rcases forced with h | h <;> rw [h] <;> rfl
    refine ⟨?_, ?_, ?_, count.trans forcedCount_eq, ?_, fun c own serves => ownTarget_of_forced forced ▸ own_mem_unitTargets own serves⟩
    · rw [wants]
      rcases forced with h | h <;> rw [h] <;> rfl
    · rw [shorts]
      rcases forced with h | h <;> rw [h] <;> rfl
    · rcases forced with h | h <;> rw [h] at damper <;> exact damper
    · rw [speeds]
      rcases forced with h | h <;> rw [h] <;> rfl
  · have zero : u.stageCount = 0 := by
      rw [stages]
      rcases closed with h | h <;> rw [h] <;> rfl
    refine ⟨zero, by rw [speeds, zero, speedFor_zero], ?_, ?_, ?_, fun c own serves => ownTarget_of_held closed ▸ own_mem_unitTargets own serves⟩
    · rw [wants]
      rcases closed with h | h <;> rw [h] <;> rfl
    · rw [shorts]
      rcases closed with h | h <;> rw [h] <;> rfl
    · rcases closed with h | h <;> rw [h] at damper <;> exact damper

end Sys2Proof.Machine

/-! The fan operations as one replacement of a fan's record and of its feed's queue, and the laws of the fans under it. -/

namespace Sys2Proof.Machine

open State

variable {s t u v : State} {c d : Chan} {f : Feed} {r : FanRecord} {p : Option Chan} {q : List Chan} {l : List Instr}

/-! ### One replacement -/

/-- The reports that a fan's change from one state to another sends (R93). -/
def changeSends (s : State) (c : Chan) (before after : FanState) : List Instr :=
  (if before = after then [] else [.fanStateReport c]) ++
    (if availabilityChanged before after then availabilitySent s c (before == .service) else [])

/-- A fan's record replaced, its feed's queue and permit set, and reports sent: what every fan operation comes to. -/
def replaced (s : State) (c : Chan) (r : FanRecord) (p : Option Chan) (q : List Chan) (l : List Instr) : State :=
  ((s.setFan c r).setQueue (feedOf s c) { fans := q, permit := p }).emit l

@[simp] theorem replaced_fans : (replaced s c r p q l).fans = s.fans.set c r := by simp [replaced]
@[simp] theorem replaced_store : (replaced s c r p q l).store = s.store := by simp [replaced]
@[simp] theorem replaced_dampers : (replaced s c r p q l).dampers = s.dampers := by simp [replaced]
@[simp] theorem replaced_gates : (replaced s c r p q l).gates = s.gates := by simp [replaced]
@[simp] theorem replaced_alloc : (replaced s c r p q l).alloc = s.alloc := by simp [replaced]
@[simp] theorem replaced_inFlight : (replaced s c r p q l).inFlight = s.inFlight ++ l := by simp [replaced]

@[simp] theorem emit_queue : (s.emit l).queue f = s.queue f := by cases f <;> rfl
@[simp] theorem setFan_queue : (s.setFan c r).queue f = s.queue f := by cases f <;> rfl
@[simp] theorem taken_queue (i : Instr) : (s.taken i).queue f = s.queue f := by cases f <;> rfl
@[simp] theorem taken_feedOf (i : Instr) : feedOf (s.taken i) c = feedOf s c := rfl

@[simp] theorem replaced_queue_self : (replaced s c r p q l).queue (feedOf s c) = { fans := q, permit := p } := by simp [replaced]

theorem replaced_queue_other (other : f ≠ feedOf s c) : (replaced s c r p q l).queue f = s.queue f := by
  simp [replaced, setQueue_queue_other _ _ _ _ (Ne.symm other)]

theorem feedOf_congr (store : t.store = s.store) : feedOf t d = feedOf s d := by
  unfold feedOf State.chan
  rw [store]

@[simp] theorem replaced_feedOf : feedOf (replaced s c r p q l) d = feedOf s d := feedOf_congr replaced_store

theorem replaced_onlyChanges (s : State) (c : Chan) (r : FanRecord) (p : Option Chan) (q : List Chan) (l : List Instr) :
    onlyChanges [.fans, .queueA, .queueB, .inFlight] s (replaced s c r p q l) :=
  onlyChanges_trans
    (onlyChanges_trans (onlyChanges_mono (setFan_onlyChanges s c r) (by simp))
      (onlyChanges_mono (setQueue_onlyChanges _ _ _) (by simp)))
    (onlyChanges_mono (emit_onlyChanges _ _) (by simp))

@[simp] theorem replaced_self : (replaced s c r p q l).fans[c] = r := by
  rw [replaced_fans]
  exact Vector.getElem_set_self _

theorem replaced_other (other : d ≠ c) : (replaced s c r p q l).fans[d] = s.fans[d] := by
  rw [replaced_fans]
  exact Vector.getElem_set_ne c.isLt d.isLt fun same => other (Fin.ext same.symm)

theorem setQueue_self (s : State) (f : Feed) : s.setQueue f (s.queue f) = s := by cases f <;> rfl

/-- A replacement that keeps queue and permit is one of the record alone. -/
theorem replaced_record (s : State) (c : Chan) (r : FanRecord) (l : List Instr) :
    replaced s c r (s.queue (feedOf s c)).permit (s.queue (feedOf s c)).fans l = (s.setFan c r).emit l := by
  unfold replaced
  rw [← setFan_queue (c := c) (r := r), setQueue_self]

/-! ### The operations -/

/-- A change of a fan's record keeps its queue and sends its reports. -/
theorem changeFan_eq (s : State) (c : Chan) (r : FanRecord) :
    changeFan s c r = (s.setFan c r).emit (changeSends s c s.fans[c].state r.state) := rfl

theorem changeFan_replaced (s : State) (c : Chan) (r : FanRecord) :
    changeFan s c r =
      replaced s c r (s.queue (feedOf s c)).permit (s.queue (feedOf s c)).fans (changeSends s c s.fans[c].state r.state) := by
  rw [replaced_record, changeFan_eq]

/-- The record of a fan that has joined its queue (R94). -/
def queuedRecord (r : FanRecord) : FanRecord := { r with state := .queued, timer := none }

/-- A fan that joins its queue. -/
theorem joinQueue_eq (s : State) (c : Chan) (r : FanRecord) :
    joinQueue s c r =
      replaced s c (queuedRecord r) (s.queue (feedOf s c)).permit
        (insertFan (s.setFan c (queuedRecord r)) c ((s.queue (feedOf s c)).fans.filter (· != c)))
        (changeSends s c s.fans[c].state .queued) := by
  have feed : feedOf (changeFan s c (queuedRecord r)) c = feedOf s c := rfl
  show placeInQueue (changeFan s c (queuedRecord r)) c = _
  unfold placeInQueue replaced
  rw [feed]
  generalize feedOf s c = f
  cases f <;> rfl

/-- A queued fan placed anew, its record replaced. -/
theorem placeInQueue_eq (s : State) (c : Chan) (r : FanRecord) :
    placeInQueue (s.setFan c r) c =
      replaced s c r (s.queue (feedOf s c)).permit
        (insertFan (s.setFan c r) c ((s.queue (feedOf s c)).fans.filter (· != c))) [] := by
  have feed : feedOf (s.setFan c r) c = feedOf s c := rfl
  unfold placeInQueue replaced
  rw [feed, emit_nil]
  generalize feedOf s c = f
  cases f <;> rfl

/-- A fan that leaves its queue, its record replaced. -/
theorem changeFan_leaveQueue (s : State) (c : Chan) (r : FanRecord) :
    changeFan (leaveQueue s c) c r =
      replaced s c r (s.queue (feedOf s c)).permit ((s.queue (feedOf s c)).fans.filter (· != c))
        (changeSends s c s.fans[c].state r.state) := by
  unfold leaveQueue replaced
  generalize feedOf s c = f
  cases f <;> rfl

/-- The permit a fan leaves as it releases it (R96). -/
def released (s : State) (c : Chan) : Option Chan :=
  if (s.queue (feedOf s c)).permit = some c then none else (s.queue (feedOf s c)).permit

/-- A replacement whose fan then releases the permit. -/
theorem releasePermit_replaced (s : State) (c : Chan) (r : FanRecord) (q : List Chan) (l : List Instr) :
    releasePermit (replaced s c r (s.queue (feedOf s c)).permit q l) c = replaced s c r (released s c) q l := by
  unfold releasePermit released
  rw [replaced_feedOf, replaced_queue_self]
  by_cases held : (s.queue (feedOf s c)).permit = some c
  · simp only [held, if_true]
    unfold replaced
    generalize feedOf s c = f
    cases f <;> rfl
  · simp only [held, if_false]

theorem released_of_held (held : (s.queue (feedOf s c)).permit = some c) : released s c = none := if_pos held

theorem setQueue_setQueue (s : State) (f : Feed) (q q' : StartQueue) : (s.setQueue f q).setQueue f q' = s.setQueue f q' := by
  cases f <;> rfl

theorem setFan_setQueue (s : State) (f : Feed) (q : StartQueue) (c : Chan) (r : FanRecord) :
    (s.setQueue f q).setFan c r = (s.setFan c r).setQueue f q := by
  cases f <;> rfl

/-- The record of a fan that has taken its feed's permit (R84). -/
def takenRecord (s : State) (c : Chan) : FanRecord :=
  { s.fans[c] with
    state := .starting, runOutput := true, commanded := appliedSpeed s c s.fans[c].target, goodGates := 0
    timer := some (.startWindow s.store.cfg.channels[c].startWindow), window := s.store.cfg.channels[c].startWindow }

/-- A fan that takes its feed's permit, once its path check is recorded. -/
theorem startFan_eq (s : State) (c : Chan) :
    startFan s c =
      replaced (recordAnswer s c) c (takenRecord s c) (some c) ((s.queue (feedOf s c)).fans.filter (· != c))
        (changeSends s c s.fans[c].state .starting) := by
  obtain ⟨fans, store, queues, -, -⟩ := recordAnswer_spec s c
  have feed : feedOf (recordAnswer s c) c = feedOf s c := feedOf_congr store
  have feed' (g : Feed) (q : StartQueue) : feedOf ((recordAnswer s c).setQueue g q) c = feedOf s c := by
    rw [feedOf_congr (setQueue_store _ _ _), feed]
  have sends (g : Feed) (q : StartQueue) : changeSends ((recordAnswer s c).setQueue g q) c = changeSends s c := by
    unfold changeSends availabilitySent
    rw [setQueue_store, store]
  unfold startFan leaveQueue replaced
  rw [changeFan_eq]
  simp only [feed, feed', queues, setQueue_fans, fans, setQueue_queue_self, setQueue_setQueue, setFan_setQueue, sends]
  rfl

/-! ### Places in a queue -/

/-- A marked fan goes behind the last marked fan of a queue, wherever that leaves it (R94). -/
theorem insertFan_marked {front behind : List Chan} (marked : isMarked s c = true)
    (last : ∀ d ∈ front.getLast?, isMarked s d = true) (rest : ∀ d ∈ behind, isMarked s d = false) :
    insertFan s c (front ++ behind) = front ++ c :: behind := by
  have unmarked : ∀ d ∈ behind.reverse, (!isMarked s d) = true := fun d hd => by simp [rest d (List.mem_reverse.mp hd)]
  have stops : front.reverse.takeWhile (fun d => !isMarked s d) = [] ∧
      front.reverse.dropWhile (fun d => !isMarked s d) = front.reverse := by
    rcases List.eq_nil_or_concat front with rfl | ⟨front, d, rfl⟩
    · exact ⟨rfl, rfl⟩
    · simp [last d (by simp)]
  unfold insertFan
  simp only [marked, if_true, List.reverse_append, List.takeWhile_append_of_pos unmarked, List.dropWhile_append_of_pos unmarked,
    stops, List.append_nil, List.reverse_reverse]
  simp

/-- Every queue falls into a front that ends with its last marked fan and the unmarked fans behind it. -/
theorem exists_front_behind (marked : Chan → Bool) (q : List Chan) :
    ∃ front behind, q = front ++ behind ∧ (∀ d ∈ front.getLast?, marked d = true) ∧ ∀ d ∈ behind, marked d = false := by
  induction q using List.reverseRecOn with
  | nil => exact ⟨[], [], rfl, by simp, by simp⟩
  | append_singleton q d ih =>
    cases h : marked d with
    | true => exact ⟨q ++ [d], [], by simp, by simpa using h, by simp⟩
    | false =>
      obtain ⟨front, behind, rfl, last, rest⟩ := ih
      refine ⟨front, behind ++ [d], by simp, last, fun e he => ?_⟩
      rcases List.mem_append.mp he with he | he
      · exact rest e he
      · rw [List.mem_singleton.mp he, h]

theorem insertFan_unmarked (unmarked : isMarked s c = false) : insertFan s c q = q ++ [c] := by
  simp [insertFan, unmarked]

theorem insertFan_perm (s : State) (c : Chan) (q : List Chan) : (insertFan s c q).Perm (c :: q) := by
  cases marked : isMarked s c with
  | false => rw [insertFan_unmarked marked]; exact List.perm_append_singleton c q
  | true =>
    obtain ⟨front, behind, rfl, last, rest⟩ := exists_front_behind (isMarked s) q
    rw [insertFan_marked marked last rest]
    exact List.perm_middle

theorem isMarked_setFan_self : isMarked (s.setFan c r) c = r.target.marked := by
  unfold isMarked
  rw [setFan_fans, show (s.fans.set c r)[c] = r from Vector.getElem_set_self _]

theorem isMarked_setFan_other (other : d ≠ c) : isMarked (s.setFan c r) d = s.fans[d].target.marked := by
  unfold isMarked
  rw [setFan_fans, show (s.fans.set c r)[d] = s.fans[d] from
    Vector.getElem_set_ne c.isLt d.isLt fun same => other (Fin.ext same.symm)]

/-- A fan given the forced mark in a queue whose marked fans are known. -/
theorem insertFan_setFan_marked {front behind : List Chan} (marked : r.target.marked = true) (out : c ∉ front ++ behind)
    (last : ∀ d ∈ front.getLast?, s.fans[d].target.marked = true) (rest : ∀ d ∈ behind, s.fans[d].target.marked = false) :
    insertFan (s.setFan c r) c (front ++ behind) = front ++ c :: behind := by
  have other (d : Chan) (hd : d ∈ front ++ behind) : d ≠ c := fun same => out (same ▸ hd)
  refine insertFan_marked (isMarked_setFan_self.trans marked) (fun d hd => ?_) fun d hd => ?_
  · rw [isMarked_setFan_other (other d (List.mem_append_left _ (List.mem_of_mem_getLast? hd)))]
    exact last d hd
  · rw [isMarked_setFan_other (other d (List.mem_append_right _ hd))]
    exact rest d hd

/-- The place a fan takes in a queue it joins is that of R94. -/
theorem insertFan_joinedAs (out : c ∉ q) : joinedAs s c r.target.marked q (insertFan (s.setFan c r) c q) := by
  refine ⟨fun unmarked => insertFan_unmarked (isMarked_setFan_self.trans unmarked), fun marked => ?_⟩
  obtain ⟨front, behind, rfl, last, rest⟩ := exists_front_behind (fun d => s.fans[d].target.marked) q
  exact ⟨front, behind, rfl, insertFan_setFan_marked marked out last rest, last, rest⟩

/-! ### The examination after a replacement -/

theorem openPath_congr (store : v.store = u.store) (dampers : v.dampers = u.dampers) (gates : v.gates = u.gates)
    (alloc : v.alloc = u.alloc) : openPath v d ↔ openPath u d := by
  unfold openPath
  rw [store, dampers, gates, alloc]

/-- An examination is the same at two states that agree on the fans, on what opens their paths and on the feed's permit. -/
theorem examinedAs_congr (fans : v.fans = u.fans) (store : v.store = u.store) (dampers : v.dampers = u.dampers)
    (gates : v.gates = u.gates) (alloc : v.alloc = u.alloc) (permit : (v.queue f).permit = (u.queue f).permit)
    (h : examinedAs v t f q) : examinedAs u t f q := by
  have path (d : Chan) : openPath v d ↔ openPath u d := openPath_congr store dampers gates alloc
  have started (d : Chan) (n : Nat) : startedRecord v d n = startedRecord u d n := by
    unfold startedRecord runningSpeed
    rw [fans, store]
  have queue (l : List Chan) : { v.queue f with fans := l } = { u.queue f with fans := l } := by
    show StartQueue.mk l (v.queue f).permit = StartQueue.mk l (u.queue f).permit
    rw [permit]
  simpa only [examinedAs, path, started, queue, fans, store, permit] using h

/-- An examination leaves the state, or starts a fan of the queue whose permit is free (R95). -/
theorem examine_cases (u : State) (f : Feed) :
    examine u f = u ∨ ∃ d ∈ (u.queue f).fans, (u.queue f).permit = none ∧ examine u f = startFan u d := by
  unfold examine
  cases permit : (u.queue f).permit with
  | some holder => exact .inl rfl
  | none =>
    cases first : (u.queue f).fans.find? (fun d => pathOpen u d) with
    | none => exact .inl rfl
    | some d => exact .inr ⟨d, List.mem_of_find?_eq_some first, rfl, rfl⟩

theorem recordAnswer_inFlight (s : State) (c : Chan) : (recordAnswer s c).inFlight = s.inFlight := by
  unfold recordAnswer
  split <;> rfl

theorem examine_sends (u : State) (f : Feed) : ∃ k, (examine u f).inFlight = u.inFlight ++ k := by
  rcases examine_cases u f with same | ⟨d, -, -, starts⟩
  · exact ⟨[], by rw [same, List.append_nil]⟩
  · exact ⟨_, by rw [starts, startFan_eq, replaced_inFlight, recordAnswer_inFlight]⟩

/-- An examination changes no fan outside the queue. -/
theorem examine_fans (out : d ∉ (u.queue f).fans) : (examine u f).fans[d] = u.fans[d] := by
  rcases examine_cases u f with same | ⟨e, waits, -, starts⟩
  · rw [same]
  · obtain ⟨-, -, fans, -, -⟩ := startFan_spec u e
    rw [starts, fans]
    exact Vector.getElem_set_ne e.isLt d.isLt fun same => out (Fin.ext same ▸ waits)

/-- An examination of one feed leaves the other feed's queue. -/
theorem examine_queue_other (own : ∀ d ∈ (u.queue f).fans, feedOf u d = f) {g : Feed} (other : g ≠ f) :
    (examine u f).queue g = u.queue g := by
  rcases examine_cases u f with same | ⟨e, waits, -, starts⟩
  · rw [same]
  · obtain ⟨-, queues, -, -, -⟩ := startFan_spec u e
    rw [starts, queues g (by rw [own e waits]; exact other)]

/-- A permit is held after an examination by its holder or by a fan of the queue. -/
theorem examine_permit (own : ∀ d ∈ (u.queue f).fans, feedOf u d = f) (held : ((examine u f).queue f).permit = some c) :
    (u.queue f).permit = some c ∨ c ∈ (u.queue f).fans := by
  rcases examine_cases u f with same | ⟨e, waits, -, starts⟩
  · exact .inl (same ▸ held)
  · obtain ⟨queue, -, -, -, -⟩ := startFan_spec u e
    rw [own e waits] at queue
    rw [starts, queue] at held
    exact .inr (Option.some.inj held ▸ waits)

/-- A replacement is followed by the examination of its feed's queue (R95). -/
theorem replaced_examined (once : q.Nodup) (own : ∀ d ∈ q, feedOf s d = feedOf s c) :
    replacedAndExamined s (examine (replaced s c r p q l) (feedOf s c)) c r p q := by
  have queue : (replaced s c r p q l).queue (feedOf s c) = { fans := q, permit := p } := replaced_queue_self
  have own' : ∀ d ∈ ((replaced s c r p q l).queue (feedOf s c)).fans, feedOf (replaced s c r p q l) d = feedOf s c := by
    rw [queue]
    intro d hd
    rw [replaced_feedOf, own d hd]
  have examined := examine_examinedAs (replaced s c r p q l) (feedOf s c) (by rw [queue]; exact once) own'
  rw [queue] at examined
  have out' {d : Chan} (out : d ∉ q) : d ∉ ((replaced s c r p q l).queue (feedOf s c)).fans := by rw [queue]; exact out
  refine ⟨examinedAs_congr ?_ ?_ ?_ ?_ ?_ ?_ examined, fun f other => ?_, fun out => ?_, fun d other out => ?_⟩
  · simp
  · simp
  · simp
  · simp
  · simp
  · simp
  · rw [examine_queue_other own' other, replaced_queue_other other]
  · rw [examine_fans (out' out), replaced_self]
  · rw [examine_fans (out' out), replaced_other other]

/-! ### The laws of the fans -/

/-- The part of a fan's law that its record keeps alone: its output, its speed, and its target by its state (R79, R92). -/
def FanRecordLaw (low : Nat) (r : FanRecord) : Prop :=
  r.runOutput = r.state.turning ∧ (r.runOutput = false → r.commanded = 0) ∧
    (r.runOutput = true → low ≤ r.commanded ∧ r.commanded ≤ 100) ∧ (r.state = .service → r.target = .off) ∧
    (r.state = .queued ∨ r.state = .retryWait ∨ r.state = .starting ∨ r.state = .running → r.target.isOn = true)

theorem fanLaw_iff : FanLaw s c ↔ FanRecordLaw s.store.cfg.channels[c].minSpeed s.fans[c] ∧
    (s.fans[c].state = .starting ↔ (s.queue (feedOf s c)).permit = some c) := by
  unfold FanLaw FanRecordLaw
  tauto

theorem FansLaw.record (law : FansLaw s) (c : Chan) : FanRecordLaw s.store.cfg.channels[c].minSpeed s.fans[c] :=
  (fanLaw_iff.mp (law.1 c)).1

theorem FansLaw.starting_iff (law : FansLaw s) (c : Chan) :
    s.fans[c].state = .starting ↔ (s.queue (feedOf s c)).permit = some c := (fanLaw_iff.mp (law.1 c)).2

theorem FansLaw.nodup (law : FansLaw s) (f : Feed) : (s.queue f).fans.Nodup := (law.2 f).1

theorem FansLaw.mem_iff (law : FansLaw s) (f : Feed) (c : Chan) :
    c ∈ (s.queue f).fans ↔ s.fans[c].state = .queued ∧ feedOf s c = f := (law.2 f).2.1 c

theorem FansLaw.own (law : FansLaw s) {f : Feed} {d : Chan} (waits : d ∈ (s.queue f).fans) : feedOf s d = f :=
  ((law.mem_iff f d).mp waits).2

theorem FansLaw.not_mem (law : FansLaw s) (f : Feed) (state : s.fans[c].state ≠ .queued) : c ∉ (s.queue f).fans :=
  fun waits => state ((law.mem_iff f c).mp waits).1

/-- The laws of the fans are those of their records, their queues and their feeds, and the feed of a fan in SERVICE does not count. -/
theorem fansLaw_congr (fans : t.fans = s.fans) (queues : ∀ f, t.queue f = s.queue f)
    (records : ∀ c : Chan, FanRecordLaw t.store.cfg.channels[c].minSpeed s.fans[c])
    (feeds : ∀ c : Chan, s.fans[c].state = .service ∨ feedOf t c = feedOf s c) (law : FansLaw s) : FansLaw t := by
  have holder (f : Feed) (c : Chan) (held : (s.queue f).permit = some c) : s.fans[c].state = .starting ∧ feedOf s c = f :=
    (law.2 f).2.2 c held
  refine ⟨fun c => fanLaw_iff.mpr ⟨fans ▸ records c, ?_⟩, fun f => ⟨queues f ▸ law.nodup f, fun c => ?_, fun c held => ?_⟩⟩
  · rw [fans, queues]
    rcases feeds c with service | feed
    · rw [service]
      exact ⟨nofun, fun held => nomatch service.symm.trans (holder _ c held).1⟩
    · rw [feed]
      exact law.starting_iff c
  · rw [fans, queues, law.mem_iff]
    rcases feeds c with service | feed
    · rw [service]
      exact ⟨fun k => (nomatch k.1), fun k => (nomatch k.1)⟩
    · rw [feed]
  · rw [queues] at held
    obtain ⟨starting, own⟩ := holder f c held
    rcases feeds c with service | feed
    · exact nomatch service.symm.trans starting
    · exact ⟨fans ▸ starting, feed.trans own⟩

/-- A state with the same fans, queues and configuration keeps the laws of the fans. -/
theorem fansLaw_frame (fans : t.fans = s.fans) (queues : ∀ f, t.queue f = s.queue f) (store : t.store = s.store)
    (law : FansLaw s) : FansLaw t :=
  fansLaw_congr fans queues (fun c => store ▸ law.record c) (fun _ => .inr (feedOf_congr store)) law

/-- A replacement keeps the laws of the fans: the record keeps its own law, the fan stands in its queue exactly when it is QUEUED and
holds the permit exactly when it is STARTING, and the other fans keep their places and the permit. -/
theorem replaced_fansLaw (law : FansLaw s) (own : FanRecordLaw s.store.cfg.channels[c].minSpeed r) (once : q.Nodup)
    (stands : c ∈ q ↔ r.state = .queued) (rest : ∀ d, d ≠ c → (d ∈ q ↔ d ∈ (s.queue (feedOf s c)).fans))
    (holds : r.state = .starting ↔ p = some c)
    (kept : ∀ d, d ≠ c → (p = some d ↔ (s.queue (feedOf s c)).permit = some d)) :
    FansLaw (replaced s c r p q l) := by
  refine ⟨fun d => ?_, fun f => ?_⟩
  · rw [fanLaw_iff, replaced_store, replaced_feedOf]
    by_cases same : d = c
    · rw [same, replaced_self, replaced_queue_self]
      exact ⟨own, holds⟩
    · rw [replaced_other same]
      refine ⟨law.record d, (law.starting_iff d).trans ?_⟩
      by_cases feed : feedOf s d = feedOf s c
      · rw [feed, replaced_queue_self]
        exact (kept d same).symm
      · rw [replaced_queue_other feed]
  · unfold QueueLaw
    by_cases feed : f = feedOf s c
    · rw [feed, replaced_queue_self]
      refine ⟨once, fun d => ?_, fun d held => ?_⟩
      · rw [replaced_feedOf]
        by_cases same : d = c
        · rw [same, replaced_self]
          simpa using stands
        · rw [replaced_other same, rest d same]
          exact law.mem_iff _ d
      · rw [replaced_feedOf]
        by_cases same : d = c
        · rw [same, replaced_self]
          exact ⟨holds.mpr (same ▸ held), rfl⟩
        · rw [replaced_other same]
          exact (law.2 _).2.2 d ((kept d same).mp held)
    · rw [replaced_queue_other feed]
      refine ⟨law.nodup f, fun d => ?_, fun d held => ?_⟩
      · rw [replaced_feedOf]
        by_cases same : d = c
        · subst same
          exact ⟨fun waits => absurd (law.own waits).symm feed, fun k => absurd k.2.symm feed⟩
        · rw [replaced_other same]
          exact law.mem_iff f d
      · rw [replaced_feedOf]
        by_cases same : d = c
        · subst same
          exact absurd ((law.2 f).2.2 d held).2.symm feed
        · rw [replaced_other same]
          exact (law.2 f).2.2 d held

/-- A record replaced by one that neither enters nor leaves QUEUED and STARTING keeps the laws. -/
theorem setFan_fansLaw (law : FansLaw s) (own : FanRecordLaw s.store.cfg.channels[c].minSpeed r)
    (queued : r.state = .queued ↔ s.fans[c].state = .queued) (starting : r.state = .starting ↔ s.fans[c].state = .starting) :
    FansLaw ((s.setFan c r).emit l) := by
  rw [← replaced_record]
  refine replaced_fansLaw law own (law.nodup _) ?_ (fun _ _ => Iff.rfl) (starting.trans (law.starting_iff c)) fun _ _ => Iff.rfl
  rw [law.mem_iff, queued]
  exact ⟨And.left, fun k => ⟨k, rfl⟩⟩

theorem changeFan_fansLaw (law : FansLaw s) (own : FanRecordLaw s.store.cfg.channels[c].minSpeed r)
    (queued : r.state = .queued ↔ s.fans[c].state = .queued) (starting : r.state = .starting ↔ s.fans[c].state = .starting) :
    FansLaw (changeFan s c r) :=
  changeFan_eq s c r ▸ setFan_fansLaw law own queued starting

theorem filter_ne_of_not_mem (out : c ∉ q) : q.filter (· != c) = q :=
  List.filter_eq_self.mpr fun d hd => by
    simp only [bne_iff_ne]
    exact fun same => out (same ▸ hd)

theorem filter_ne_eq_erase (once : q.Nodup) : q.filter (· != c) = q.erase c := (once.erase_eq_filter c).symm

end Sys2Proof.Machine

/-! Each operation of the Fan Channel Controller keeps the laws of the fans. -/

namespace Sys2Proof.Machine

open State

variable {s t u v : State} {c d : Chan} {f : Feed} {r : FanRecord} {q : List Chan} {l : List Instr} {target : FanTarget}

/-! ### Joining and leaving a queue -/

theorem insertFan_filter_nodup (u : State) (c : Chan) (once : q.Nodup) : (insertFan u c (q.filter (· != c))).Nodup :=
  (insertFan_perm u c _).nodup_iff.mpr (List.nodup_cons.mpr ⟨by simp, once.filter _⟩)

theorem mem_insertFan_filter_self (u : State) (c : Chan) (q : List Chan) : c ∈ insertFan u c (q.filter (· != c)) :=
  (insertFan_perm u c _).mem_iff.mpr List.mem_cons_self

theorem mem_insertFan_filter_other (u : State) (q : List Chan) (other : d ≠ c) :
    d ∈ insertFan u c (q.filter (· != c)) ↔ d ∈ q := by
  rw [(insertFan_perm u c _).mem_iff]
  simp [other]

theorem mem_filter_other (q : List Chan) (other : d ≠ c) : d ∈ q.filter (· != c) ↔ d ∈ q := by simp [other]

/-- A fan that is not STARTING does not hold its feed's permit. -/
theorem FansLaw.permit_ne (law : FansLaw s) (state : s.fans[c].state ≠ .starting) : (s.queue (feedOf s c)).permit ≠ some c :=
  fun held => state ((law.starting_iff c).mpr held)

/-- A QUEUED fan takes the place its record gives it. -/
theorem placed_fansLaw (law : FansLaw s) (own : FanRecordLaw s.store.cfg.channels[c].minSpeed r) (queued : r.state = .queued)
    (state : s.fans[c].state ≠ .starting) (u : State) :
    FansLaw (replaced s c r (s.queue (feedOf s c)).permit (insertFan u c ((s.queue (feedOf s c)).fans.filter (· != c))) l) :=
  replaced_fansLaw law own (insertFan_filter_nodup u c (law.nodup _)) ⟨fun _ => queued, fun _ => mem_insertFan_filter_self u c _⟩
    (fun _ other => mem_insertFan_filter_other u _ other)
    ⟨fun starting => (nomatch queued.symm.trans starting), fun held => absurd held (law.permit_ne state)⟩ fun _ _ => Iff.rfl

theorem joinQueue_fansLaw (law : FansLaw s) (own : FanRecordLaw s.store.cfg.channels[c].minSpeed (queuedRecord r))
    (state : s.fans[c].state ≠ .starting) : FansLaw (joinQueue s c r) :=
  joinQueue_eq s c r ▸ placed_fansLaw law own rfl state _

theorem placeInQueue_fansLaw (law : FansLaw s) (own : FanRecordLaw s.store.cfg.channels[c].minSpeed r) (queued : r.state = .queued)
    (state : s.fans[c].state ≠ .starting) : FansLaw (placeInQueue (s.setFan c r) c) :=
  placeInQueue_eq s c r ▸ placed_fansLaw law own queued state _

/-- A fan that leaves its queue for a state that neither waits nor starts. -/
theorem leaveQueue_fansLaw (law : FansLaw s) (own : FanRecordLaw s.store.cfg.channels[c].minSpeed r) (queued : r.state ≠ .queued)
    (starting : r.state ≠ .starting) (state : s.fans[c].state ≠ .starting) : FansLaw (changeFan (leaveQueue s c) c r) :=
  changeFan_leaveQueue s c r ▸ replaced_fansLaw law own ((law.nodup _).filter _)
    ⟨fun waits => absurd (List.mem_filter.mp waits).2 (by simp), fun k => absurd k queued⟩ (fun _ other => mem_filter_other _ other)
    ⟨fun k => absurd k starting, fun held => absurd held (law.permit_ne state)⟩ fun _ _ => Iff.rfl

/-- A STARTING fan that stops or succeeds, and releases its permit. -/
theorem released_fansLaw (law : FansLaw s) (own : FanRecordLaw s.store.cfg.channels[c].minSpeed r) (queued : r.state ≠ .queued)
    (starting : r.state ≠ .starting) (state : s.fans[c].state = .starting) :
    FansLaw (replaced s c r (released s c) (s.queue (feedOf s c)).fans l) := by
  have held := (law.starting_iff c).mp state
  have out : c ∉ (s.queue (feedOf s c)).fans := law.not_mem _ (by rw [state]; nofun)
  rw [released_of_held held]
  refine replaced_fansLaw law own (law.nodup _) ⟨fun waits => absurd waits out, fun k => absurd k queued⟩ (fun _ _ => Iff.rfl)
    ⟨fun k => absurd k starting, nofun⟩ fun d other => ⟨nofun, fun k => ?_⟩
  exact absurd (Option.some.inj (k.symm.trans held)) other

/-! ### Starting -/

theorem recordAnswer_fansLaw (law : FansLaw s) (c : Chan) : FansLaw (recordAnswer s c) := by
  obtain ⟨fans, store, queues, -, -⟩ := recordAnswer_spec s c
  exact fansLaw_frame fans queues store law

/-- The speed applied for an on target lies between the minimum speed and 100 percent (R80). -/
theorem appliedSpeed_range (low : s.store.cfg.channels[c].minSpeed ≤ 100) (on : target.isOn = true) :
    s.store.cfg.channels[c].minSpeed ≤ appliedSpeed s c target ∧ appliedSpeed s c target ≤ 100 := by
  cases target with
  | off => nomatch on
  | on speed marked =>
    show _ ≤ min (max speed s.store.cfg.channels[c].minSpeed) 100 ∧ min (max speed s.store.cfg.channels[c].minSpeed) 100 ≤ 100
    omega

theorem startFan_fansLaw (law : FansLaw s) (low : s.store.cfg.channels[c].minSpeed ≤ 100) (state : s.fans[c].state = .queued)
    (permit : (s.queue (feedOf s c)).permit = none) : FansLaw (startFan s c) := by
  obtain ⟨fans, store, queues, -, -⟩ := recordAnswer_spec s c
  have feed : feedOf (recordAnswer s c) c = feedOf s c := feedOf_congr store
  obtain ⟨-, -, -, -, on⟩ := law.record c
  have isOn : s.fans[c].target.isOn = true := on (.inl state)
  have range := appliedSpeed_range low isOn
  have own : FanRecordLaw s.store.cfg.channels[c].minSpeed (takenRecord s c) :=
    ⟨rfl, nofun, fun _ => range, nofun, fun _ => isOn⟩
  rw [startFan_eq]
  refine replaced_fansLaw (recordAnswer_fansLaw law c) (store.symm ▸ own) ((law.nodup _).filter _)
    ⟨fun waits => absurd (List.mem_filter.mp waits).2 (by simp), nofun⟩ (fun d other => ?_) ⟨fun _ => rfl, fun _ => rfl⟩
    fun d other => ?_
  · rw [feed, queues]
    exact mem_filter_other _ other
  · rw [feed, queues, permit]
    exact ⟨fun k => absurd (Option.some.inj k).symm other, nofun⟩

theorem examine_fansLaw (law : FansLaw s) (low : ∀ c : Chan, s.store.cfg.channels[c].minSpeed ≤ 100) (f : Feed) :
    FansLaw (examine s f) := by
  rcases examine_cases s f with same | ⟨d, waits, permit, starts⟩
  · rw [same]
    exact law
  · obtain ⟨state, feed⟩ := (law.mem_iff f d).mp waits
    exact starts ▸ startFan_fansLaw law (low d) state (feed ▸ permit)

/-! ### Stopping and failing -/

/-- A record whose output is off and whose state neither turns, waits nor serves. -/
theorem restingRecord_law {low : Nat} (output : r.runOutput = false) (speed : r.commanded = 0)
    (state : r.state = .off ∨ r.state = .stopping ∨ r.state = .lockedOut ∨ r.state = .failed) : FanRecordLaw low r := by
  rcases state with state | state | state | state <;>
    exact ⟨by rw [output, state]; rfl, fun _ => speed, fun on => (nomatch output.symm.trans on), by rw [state]; nofun,
      by rw [state]; simp⟩

/-- A record whose output is off and that waits for an on target. -/
theorem waitingRecord_law {low : Nat} (output : r.runOutput = false) (speed : r.commanded = 0) (isOn : r.target.isOn = true)
    (state : r.state = .queued ∨ r.state = .retryWait) : FanRecordLaw low r := by
  rcases state with state | state <;>
    exact ⟨by rw [output, state]; rfl, fun _ => speed, fun on => (nomatch output.symm.trans on), by rw [state]; nofun,
      fun _ => isOn⟩

/-- A fan that neither starts nor runs has its output off at speed 0 (R79). -/
theorem FansLaw.resting (law : FansLaw s) (starting : s.fans[c].state ≠ .starting) (running : s.fans[c].state ≠ .running) :
    s.fans[c].runOutput = false ∧ s.fans[c].commanded = 0 := by
  obtain ⟨output, speed, -⟩ := law.record c
  have off : s.fans[c].runOutput = false := by
    rw [output]
    cases state : s.fans[c].state with
    | starting => exact absurd state starting
    | running => exact absurd state running
    | _ => rfl
  exact ⟨off, speed off⟩

theorem FansLaw.target_isOn (law : FansLaw s) (state : s.fans[c].state = .queued ∨ s.fans[c].state = .retryWait ∨
    s.fans[c].state = .starting ∨ s.fans[c].state = .running) : s.fans[c].target.isOn = true := by
  obtain ⟨-, -, -, -, on⟩ := law.record c
  exact on state

/-- A running fan that stops. -/
theorem stopFan_fansLaw (law : FansLaw s) (reason : StopReason) (r : FanRecord) (state : s.fans[c].state = .running) :
    FansLaw (stopFan s c reason r) :=
  changeFan_fansLaw law (restingRecord_law rfl rfl (.inr (.inl rfl))) ⟨nofun, fun k => (nomatch k.symm.trans state)⟩
    ⟨nofun, fun k => (nomatch k.symm.trans state)⟩

/-- A starting fan that stops and releases its permit. -/
theorem releasePermit_stopFan_fansLaw (law : FansLaw s) (reason : StopReason) (r : FanRecord)
    (state : s.fans[c].state = .starting) : FansLaw (releasePermit (stopFan s c reason r) c) := by
  unfold stopFan
  rw [changeFan_replaced, releasePermit_replaced]
  exact released_fansLaw law (restingRecord_law rfl rfl (.inr (.inl rfl))) nofun nofun state

theorem exhaustedState_eq (kind : Option FailKind) : exhaustedState kind = .failed ∨ exhaustedState kind = .lockedOut := by
  unfold exhaustedState
  split
  · exact .inl rfl
  · exact .inr rfl

theorem lockOut_fansLaw (law : FansLaw s) (target : FanTarget) (starting : s.fans[c].state ≠ .starting)
    (running : s.fans[c].state ≠ .running) : FansLaw (lockOut s c target) := by
  obtain ⟨output, speed⟩ := law.resting starting running
  have exhausted := exhaustedState_eq s.fans[c].lastFailure
  refine leaveQueue_fansLaw law (restingRecord_law output speed ?_) ?_ ?_ starting
  · rcases exhausted with k | k
    · exact .inr (.inr (.inr k))
    · exact .inr (.inr (.inl k))
  · rcases exhausted with k | k <;> exact fun queued => (nomatch k.symm.trans queued)
  · rcases exhausted with k | k <;> exact fun starting => (nomatch k.symm.trans starting)

/-- The report a condition's change sends (R148). -/
def conditionSends (before after : Bool) (kind : HazardKind) (source : Nat) : List Instr :=
  if before = after then [] else if after = true then [.conditionActiveReport kind source] else [.conditionClearReport kind source]

theorem reportChange_sends (s : State) (before after : Bool) (kind : HazardKind) (source : Nat) :
    s.reportChange before after kind source = s.emit (conditionSends before after kind source) :=
  reportChange_eq s before after kind source

/-- The state a failed attempt leaves a fan in (R88). -/
def attemptState (s : State) (c : Chan) (kind : FailKind) : FanState :=
  if (s.chan c).retryLimit ≤ min 255 (s.fans[c].retryCount + 1) && effectiveAction s c s.fans[c].target == .lockOut then
    exhaustedState (some kind)
  else if s.fans[c].target.isOn then .retryWait else .off

/-- FAN-FAILED after a failed attempt (R91, log entry 15). -/
def attemptCondition (s : State) (c : Chan) : Bool :=
  s.fans[c].failedCondition || min 255 (s.fans[c].retryCount + 1) == (s.chan c).retryLimit

/-- The record a failed attempt leaves (R88). -/
def attemptRecord (s : State) (c : Chan) (kind : FailKind) : FanRecord :=
  { s.fans[c] with
    state := attemptState s c kind, retryCount := min 255 (s.fans[c].retryCount + 1), lastFailure := some kind
    failedCondition := attemptCondition s c
    timer := if attemptState s c kind = .retryWait then some (.retryWait (s.chan c).retryWait) else none }

theorem attemptFailed_eq (s : State) (c : Chan) (kind : FailKind) :
    attemptFailed s c kind =
      (s.setFan c (attemptRecord s c kind)).emit
        (changeSends s c s.fans[c].state (attemptState s c kind) ++
          conditionSends s.fans[c].failedCondition (attemptCondition s c) .fanFailed c.val) := by
  rw [← emit_emit]
  exact reportChange_sends _ _ _ _ _

theorem attemptState_cases (s : State) (c : Chan) (kind : FailKind) :
    attemptState s c kind = .lockedOut ∨ attemptState s c kind = .failed ∨
      attemptState s c kind = .retryWait ∧ s.fans[c].target.isOn = true ∨ attemptState s c kind = .off := by
  unfold attemptState
  split
  · rcases exhaustedState_eq (some kind) with k | k
    · exact .inr (.inl k)
    · exact .inl k
  · split
    · rename_i isOn
      exact .inr (.inr (.inl ⟨rfl, isOn⟩))
    · exact .inr (.inr (.inr rfl))

theorem attemptFailed_fansLaw (law : FansLaw s) (kind : FailKind) (state : s.fans[c].state = .stopping) :
    FansLaw (attemptFailed s c kind) := by
  obtain ⟨output, speed⟩ := law.resting (c := c) (by rw [state]; nofun) (by rw [state]; nofun)
  have own : FanRecordLaw s.store.cfg.channels[c].minSpeed (attemptRecord s c kind) := by
    rcases attemptState_cases s c kind with k | k | ⟨k, isOn⟩ | k
    · exact restingRecord_law output speed (.inr (.inr (.inl k)))
    · exact restingRecord_law output speed (.inr (.inr (.inr k)))
    · exact waitingRecord_law output speed isOn (.inr k)
    · exact restingRecord_law output speed (.inl k)
  have next : attemptState s c kind ≠ .queued ∧ attemptState s c kind ≠ .starting := by
    rcases attemptState_cases s c kind with k | k | ⟨k, -⟩ | k <;> rw [k] <;> exact ⟨nofun, nofun⟩
  rw [attemptFailed_eq]
  exact setFan_fansLaw law own ⟨fun k => absurd k next.1, fun k => (nomatch k.symm.trans state)⟩
    ⟨fun k => absurd k next.2, fun k => (nomatch k.symm.trans state)⟩

/-- A change of a resting fan to OFF. -/
theorem changeFan_off_fansLaw (law : FansLaw s) (output : r.runOutput = false) (speed : r.commanded = 0) (off : r.state = .off)
    (queued : s.fans[c].state ≠ .queued) (starting : s.fans[c].state ≠ .starting) : FansLaw (changeFan s c r) :=
  changeFan_fansLaw law (restingRecord_law output speed (.inl off)) ⟨fun k => (nomatch k.symm.trans off), fun k => absurd k queued⟩
    ⟨fun k => (nomatch k.symm.trans off), fun k => absurd k starting⟩

theorem changeFan_self : (changeFan s c r).fans[c] = r := by
  rw [changeFan_replaced]
  exact replaced_self

theorem changeFan_store : (changeFan s c r).store = s.store := rfl

theorem endRundown_failure {kind : FailKind} (reason : s.fans[c].stopReason = .failure kind) :
    endRundown s c = attemptFailed s c kind := by
  unfold endRundown
  dsimp only
  rw [reason]

theorem endRundown_off (reason : s.fans[c].stopReason = .commanded) (off : s.fans[c].target.isOn = false) :
    endRundown s c = changeFan s c { s.fans[c] with state := .off, timer := none } := by
  unfold endRundown
  dsimp only
  rw [reason, off]
  rfl

theorem endRundown_on (reason : s.fans[c].stopReason = .commanded) (isOn : s.fans[c].target.isOn = true) :
    endRundown s c =
      joinQueue (changeFan s c { s.fans[c] with state := .off, timer := none }) c { s.fans[c] with state := .off, timer := none } := by
  unfold endRundown
  dsimp only
  rw [reason, isOn, changeFan_self]
  rfl

theorem endRundown_fansLaw (law : FansLaw s) (state : s.fans[c].state = .stopping) : FansLaw (endRundown s c) := by
  obtain ⟨output, speed⟩ := law.resting (c := c) (by rw [state]; nofun) (by rw [state]; nofun)
  have off := changeFan_off_fansLaw (r := { s.fans[c] with state := .off, timer := none }) law output speed rfl
    (by rw [state]; nofun) (by rw [state]; nofun)
  cases reason : s.fans[c].stopReason with
  | failure kind => exact endRundown_failure reason ▸ attemptFailed_fansLaw law kind state
  | commanded =>
    cases isOn : s.fans[c].target.isOn with
    | false => exact endRundown_off reason isOn ▸ off
    | true =>
      rw [endRundown_on reason isOn]
      exact joinQueue_fansLaw off (waitingRecord_law output speed isOn (.inl rfl)) (by rw [changeFan_self]; nofun)

theorem endRundown_store (s : State) (c : Chan) : (endRundown s c).store = s.store := by
  exact endRundown_onlyChanges s c .store (by decide)

theorem finishRundown_fansLaw (law : FansLaw s) (low : ∀ c : Chan, s.store.cfg.channels[c].minSpeed ≤ 100)
    (state : s.fans[c].state = .stopping) : FansLaw (finishRundown s c) := by
  have ended := endRundown_fansLaw law state
  unfold finishRundown
  dsimp only
  split
  · exact examine_fansLaw ended (endRundown_store s c ▸ low) _
  · exact ended

/-! ### The rule of each state for a target (R82 to R90) -/

/-- The record of a fan with a target stored in place. -/
def storedRecord (s : State) (c : Chan) (target : FanTarget) : FanRecord := { s.fans[c] with target := target }

theorem takeByState_service (state : s.fans[c].state = .service) : takeByState s c target = (s, false) := by
  unfold takeByState
  dsimp only
  rw [state]

theorem takeByState_off (state : s.fans[c].state = .off) :
    takeByState s c target =
      if target.isOn then (joinQueue s c (storedRecord s c target), true) else (s.setFan c (storedRecord s c target), false) := by
  unfold takeByState storedRecord
  dsimp only
  rw [state]

theorem takeByState_starting (state : s.fans[c].state = .starting) :
    takeByState s c target =
      if target.isOn then (applyTarget s c target, false)
      else (releasePermit (stopFan s c .commanded (storedRecord s c target)) c, true) := by
  unfold takeByState storedRecord
  dsimp only
  rw [state]

theorem takeByState_running (state : s.fans[c].state = .running) :
    takeByState s c target =
      if target.isOn then (applyTarget s c target, false) else (stopFan s c .commanded (storedRecord s c target), false) := by
  unfold takeByState storedRecord
  dsimp only
  rw [state]

theorem takeByState_stopping (state : s.fans[c].state = .stopping) :
    takeByState s c target = (s.setFan c (storedRecord s c target), false) := by
  unfold takeByState storedRecord
  dsimp only
  rw [state]

theorem takeByState_exhausted (state : s.fans[c].state = .lockedOut ∨ s.fans[c].state = .failed) :
    takeByState s c target =
      if target.marked then
        (joinQueue s c { storedRecord s c target with retryCount := 0, lastFailure := none }, true)
      else (s.setFan c (storedRecord s c target), false) := by
  unfold takeByState storedRecord
  dsimp only
  rcases state with state | state <;> rw [state]

/-- A waiting fan loses the forced mark with its retries used up (R90). -/
def locksOut (s : State) (c : Chan) (target : FanTarget) : Bool :=
  s.fans[c].target.marked && !target.marked && exhausted s c

theorem takeByState_queued (state : s.fans[c].state = .queued) :
    takeByState s c target =
      if locksOut s c target then (lockOut s c target, false)
      else if !target.isOn then (changeFan (leaveQueue s c) c { storedRecord s c target with state := .off }, false)
      else if target.marked && !s.fans[c].target.marked then (placeInQueue (s.setFan c (storedRecord s c target)) c, true)
      else (s.setFan c (storedRecord s c target), false) := by
  unfold takeByState storedRecord locksOut
  dsimp only
  rw [state]

theorem takeByState_retryWait (state : s.fans[c].state = .retryWait) :
    takeByState s c target =
      if locksOut s c target then (lockOut s c target, false)
      else if !target.isOn then (changeFan s c { storedRecord s c target with state := .off, timer := none }, false)
      else if target.marked && !s.fans[c].target.marked then (joinQueue s c (storedRecord s c target), true)
      else (s.setFan c (storedRecord s c target), false) := by
  unfold takeByState storedRecord locksOut
  dsimp only
  rw [state]

/-! ### Targets and the laws -/

/-- A resting fan whose target is stored. -/
theorem storedRecord_fansLaw (law : FansLaw s) (service : s.fans[c].state ≠ .service)
    (on : s.fans[c].state = .queued ∨ s.fans[c].state = .retryWait ∨ s.fans[c].state = .starting ∨ s.fans[c].state = .running →
      target.isOn = true) : FansLaw (s.setFan c (storedRecord s c target)) := by
  obtain ⟨output, speed, range, -, -⟩ := law.record c
  rw [← emit_nil (s.setFan c _)]
  exact setFan_fansLaw law ⟨output, speed, range, fun k => absurd k service, on⟩ Iff.rfl Iff.rfl

theorem applyTarget_fansLaw (law : FansLaw s) (low : ∀ c : Chan, s.store.cfg.channels[c].minSpeed ≤ 100)
    (turning : s.fans[c].state = .starting ∨ s.fans[c].state = .running) (isOn : target.isOn = true) :
    FansLaw (applyTarget s c target) := by
  have range := appliedSpeed_range (low c) isOn
  obtain ⟨output, -, -, -, -⟩ := law.record c
  have on : s.fans[c].runOutput = true := by rcases turning with k | k <;> rw [output, k] <;> rfl
  have service : s.fans[c].state ≠ .service := by rcases turning with k | k <;> rw [k] <;> nofun
  unfold applyTarget
  dsimp only
  split <;> rw [← emit_nil (s.setFan c _)] <;>
    exact setFan_fansLaw law ⟨output, fun off => (nomatch on.symm.trans off), fun _ => range, fun k => absurd k service, fun _ => isOn⟩
      Iff.rfl Iff.rfl

theorem waiting_not_turning (state : s.fans[c].state = .queued ∨ s.fans[c].state = .retryWait) :
    s.fans[c].state ≠ .starting ∧ s.fans[c].state ≠ .running ∧ s.fans[c].state ≠ .service := by
  rcases state with k | k <;> rw [k] <;> exact ⟨nofun, nofun, nofun⟩

theorem isOn_of_marked (marked : target.marked = true) : target.isOn = true := by
  cases target with
  | off => exact nomatch marked
  | on speed mark => rfl

/-- A target kept in place by a fan that waits. -/
theorem storedWaiting_fansLaw (law : FansLaw s) (state : s.fans[c].state = .queued ∨ s.fans[c].state = .retryWait)
    (isOn : target.isOn = true) : FansLaw (s.setFan c (storedRecord s c target)) :=
  storedRecord_fansLaw law (waiting_not_turning state).2.2 fun _ => isOn

theorem takeByState_exhausted_fansLaw (law : FansLaw s) (state : s.fans[c].state = .lockedOut ∨ s.fans[c].state = .failed) :
    FansLaw (takeByState s c target).1 := by
  have rests : s.fans[c].state ≠ .starting ∧ s.fans[c].state ≠ .running ∧ s.fans[c].state ≠ .service := by
    rcases state with k | k <;> rw [k] <;> exact ⟨nofun, nofun, nofun⟩
  obtain ⟨output, speed⟩ := law.resting rests.1 rests.2.1
  rw [takeByState_exhausted state]
  split
  · rename_i marked
    exact joinQueue_fansLaw law (waitingRecord_law output speed (isOn_of_marked marked) (.inl rfl)) rests.1
  · refine storedRecord_fansLaw law rests.2.2 fun k => ?_
    rcases state with state | state <;> rw [state] at k <;> exact absurd k (by decide)

theorem takeByState_fansLaw (law : FansLaw s) (low : ∀ c : Chan, s.store.cfg.channels[c].minSpeed ≤ 100) :
    FansLaw (takeByState s c target).1 := by
  cases state : s.fans[c].state with
  | service => exact takeByState_service state ▸ law
  | off =>
    obtain ⟨output, speed⟩ := law.resting (c := c) (by rw [state]; nofun) (by rw [state]; nofun)
    rw [takeByState_off state]
    split
    · rename_i isOn
      exact joinQueue_fansLaw law (waitingRecord_law output speed isOn (.inl rfl)) (by rw [state]; nofun)
    · exact storedRecord_fansLaw law (by rw [state]; nofun) (by rw [state]; nofun)
  | queued =>
    obtain ⟨starting, running, service⟩ := waiting_not_turning (.inl state)
    obtain ⟨output, speed⟩ := law.resting starting running
    rw [takeByState_queued state]
    split_ifs with locks off gains
    · exact lockOut_fansLaw law target starting running
    · exact leaveQueue_fansLaw law (restingRecord_law output speed (.inl rfl)) nofun nofun starting
    · have isOn : target.isOn = true := by simpa using off
      exact placeInQueue_fansLaw law (waitingRecord_law output speed isOn (.inl state)) state starting
    · exact storedWaiting_fansLaw law (.inl state) (by simpa using off)
  | retryWait =>
    obtain ⟨starting, running, service⟩ := waiting_not_turning (.inr state)
    obtain ⟨output, speed⟩ := law.resting starting running
    rw [takeByState_retryWait state]
    split_ifs with locks off gains
    · exact lockOut_fansLaw law target starting running
    · exact changeFan_off_fansLaw law output speed rfl (by rw [state]; nofun) starting
    · have isOn : target.isOn = true := by simpa using off
      exact joinQueue_fansLaw law (waitingRecord_law output speed isOn (.inl rfl)) starting
    · exact storedWaiting_fansLaw law (.inr state) (by simpa using off)
  | starting =>
    rw [takeByState_starting state]
    split
    · rename_i isOn
      exact applyTarget_fansLaw law low (.inl state) isOn
    · exact releasePermit_stopFan_fansLaw law _ _ state
  | running =>
    rw [takeByState_running state]
    split
    · rename_i isOn
      exact applyTarget_fansLaw law low (.inr state) isOn
    · exact stopFan_fansLaw law _ _ state
  | stopping =>
    rw [takeByState_stopping state]
    exact storedRecord_fansLaw law (by rw [state]; nofun) (by rw [state]; nofun)
  | lockedOut => exact takeByState_exhausted_fansLaw law (.inl state)
  | failed => exact takeByState_exhausted_fansLaw law (.inr state)

theorem takeTarget_fansLaw (law : FansLaw s) (low : ∀ c : Chan, s.store.cfg.channels[c].minSpeed ≤ 100) :
    FansLaw (takeTarget s c target).1 := by
  unfold takeTarget
  split
  · exact law
  · exact takeByState_fansLaw law low

theorem takeTarget_store (s : State) (c : Chan) (target : FanTarget) : (takeTarget s c target).1.store = s.store :=
  takeTarget_onlyChanges s c target .store (by decide)

theorem takeTargets_fansLaw (z : Zone) (targets : List (Chan × FanTarget)) :
    ∀ s : State, FansLaw s → (∀ c : Chan, s.store.cfg.channels[c].minSpeed ≤ 100) → FansLaw (takeTargets z targets s).1 := by
  induction targets with
  | nil => exact fun s law _ => law
  | cons p rest ih =>
    intro s law low
    unfold takeTargets
    split
    · exact ih _ (takeTarget_fansLaw law low) (takeTarget_store s _ _ ▸ low)
    · exact ih s law low

theorem examineTouched_fansLaw (law : FansLaw s) (low : ∀ c : Chan, s.store.cfg.channels[c].minSpeed ≤ 100) (touched : List Feed) :
    FansLaw (examineTouched touched s) := by
  have store (f : Feed) : (examine s f).store = s.store := examine_onlyChanges s f .store (by decide)
  unfold examineTouched
  dsimp only
  split_ifs
  · exact examine_fansLaw (examine_fansLaw law low _) (store _ ▸ low) _
  · exact examine_fansLaw law low _
  · exact examine_fansLaw law low _
  · exact law

/-! ### Gates -/

/-- A record with its counts and its measured rpm alone replaced. -/
theorem countedRecord_law {low : Nat} {r r' : FanRecord} (own : FanRecordLaw low r) (state : r'.state = r.state)
    (output : r'.runOutput = r.runOutput) (speed : r'.commanded = r.commanded) (target : r'.target = r.target) :
    FanRecordLaw low r' := by
  unfold FanRecordLaw
  rw [state, output, speed, target]
  exact own

theorem counted_fansLaw (law : FansLaw s) (state : r.state = s.fans[c].state) (output : r.runOutput = s.fans[c].runOutput)
    (speed : r.commanded = s.fans[c].commanded) (target : r.target = s.fans[c].target) : FansLaw (s.setFan c r) := by
  rw [← emit_nil (s.setFan c r)]
  exact setFan_fansLaw law (countedRecord_law (law.record c) state output speed target) (by rw [state]) (by rw [state])

/-- The record of a fan whose start has succeeded (R84, R91). -/
def runningRecord (r : FanRecord) : FanRecord :=
  { r with
    state := .running, goodGates := 2, lowGates := 0, timer := some (.cleanRun Config.cleanRunSeconds), settle := none
    failedCondition := false }

/-- What a successful start sends: the changes of state and condition, and the availability report of a condition cleared (R91, R93). -/
def successSends (s : State) (c : Chan) (failed : Bool) : List Instr :=
  changeSends s c s.fans[c].state .running ++
    (conditionSends failed false .fanFailed c.val ++ if failed then availabilitySent s c false else [])

theorem startSucceeds_eq (s : State) (c : Chan) (r : FanRecord) :
    startSucceeds s c r =
      examine (replaced s c (runningRecord r) (released s c) (s.queue (feedOf s c)).fans (successSends s c r.failedCondition))
        (feedOf s c) := by
  unfold startSucceeds successSends
  dsimp only
  rw [← releasePermit_replaced, replaced_record, ← emit_emit, ← emit_emit, reportChange_sends]
  rfl

theorem startSucceeds_fansLaw (law : FansLaw s) (low : ∀ c : Chan, s.store.cfg.channels[c].minSpeed ≤ 100)
    (state : s.fans[c].state = .starting) (measured : Nat) :
    FansLaw (startSucceeds s c { s.fans[c] with measured := measured }) := by
  obtain ⟨output, -, range, -, on⟩ := law.record c
  have turning : s.fans[c].runOutput = true := by rw [output, state]; rfl
  have isOn : s.fans[c].target.isOn = true := on (.inr (.inr (.inl state)))
  have own : FanRecordLaw s.store.cfg.channels[c].minSpeed (runningRecord { s.fans[c] with measured := measured }) :=
    ⟨turning, fun off => (nomatch turning.symm.trans off), range, nofun, fun _ => isOn⟩
  rw [startSucceeds_eq]
  exact examine_fansLaw (released_fansLaw law own nofun nofun state) (fun d => by rw [replaced_store]; exact low d) _

/-! ### Service -/

/-- The record of a fan in SERVICE (R92). -/
def serviceRecord (r : FanRecord) : FanRecord :=
  { r with state := .service, target := .off, runOutput := false, commanded := 0, timer := none, settle := none }

/-- The record of a fan cleared to OFF with a target (R91, R92, R98). -/
def clearedRecord (r : FanRecord) (target : FanTarget) : FanRecord :=
  { r with
    state := .off, target := target, retryCount := 0, lastFailure := none, failedCondition := false, timer := none }

theorem serviceRecord_law {low : Nat} (r : FanRecord) : FanRecordLaw low (serviceRecord r) :=
  ⟨rfl, fun _ => rfl, nofun, fun _ => rfl, by simp [serviceRecord]⟩

theorem enterService_eq (s : State) (c : Chan) :
    enterService s c =
      if s.fans[c].state = .starting then
        examine
          (replaced s c (serviceRecord s.fans[c]) (released s c) ((s.queue (feedOf s c)).fans.filter (· != c))
            (changeSends s c s.fans[c].state .service)) (feedOf s c)
      else
        replaced s c (serviceRecord s.fans[c]) (s.queue (feedOf s c)).permit ((s.queue (feedOf s c)).fans.filter (· != c))
          (changeSends s c s.fans[c].state .service) := by
  rw [← releasePermit_replaced]
  exact congrArg (fun t => if s.fans[c].state = .starting then examine (releasePermit t c) (feedOf s c) else t)
    (changeFan_leaveQueue s c (serviceRecord s.fans[c]))

theorem enterService_fansLaw (law : FansLaw s) (low : ∀ c : Chan, s.store.cfg.channels[c].minSpeed ≤ 100) (c : Chan) :
    FansLaw (enterService s c) := by
  rw [enterService_eq]
  split
  · rename_i state
    rw [filter_ne_of_not_mem (law.not_mem _ (by rw [state]; nofun))]
    exact examine_fansLaw (released_fansLaw law (serviceRecord_law _) nofun nofun state) (fun d => by rw [replaced_store]; exact low d) _
  · rename_i state
    have left := leaveQueue_fansLaw law (serviceRecord_law s.fans[c]) nofun nofun state
    rw [changeFan_leaveQueue] at left
    exact left

/-- What the clearing of a fan sends (R91, R93). -/
def clearSends (s : State) (c : Chan) : List Instr :=
  changeSends s c s.fans[c].state .off ++ conditionSends s.fans[c].failedCondition false .fanFailed c.val

theorem clearFan_eq (s : State) (c : Chan) (target : FanTarget) :
    clearFan s c target = (s.setFan c (clearedRecord s.fans[c] target)).emit (clearSends s c) := by
  unfold clearFan clearSends
  dsimp only
  rw [reportChange_sends, ← emit_emit]
  rfl

theorem clearFan_fansLaw (law : FansLaw s) (target : FanTarget)
    (state : s.fans[c].state = .service ∨ s.fans[c].state = .lockedOut ∨ s.fans[c].state = .failed) :
    FansLaw (clearFan s c target) := by
  have rests : s.fans[c].state ≠ .starting ∧ s.fans[c].state ≠ .running ∧ s.fans[c].state ≠ .queued := by
    rcases state with k | k | k <;> rw [k] <;> exact ⟨nofun, nofun, nofun⟩
  obtain ⟨starting, running, queued⟩ := rests
  obtain ⟨output, speed⟩ := law.resting starting running
  rw [clearFan_eq]
  exact setFan_fansLaw law (restingRecord_law output speed (.inl rfl)) ⟨nofun, fun k => absurd k queued⟩
    ⟨nofun, fun k => absurd k starting⟩

theorem clearFan_self (s : State) (c : Chan) (target : FanTarget) :
    (clearFan s c target).fans[c] = clearedRecord s.fans[c] target := by
  rw [clearFan_eq]
  exact Vector.getElem_set_self _

/-- A fan released from LOCKED-OUT or FAILED with an on target joins its queue, which is examined (R92, log entry 44). -/
theorem releaseLocked_eq (s : State) (c : Chan) :
    releaseLocked s c =
      if s.fans[c].target.isOn then
        examine (joinQueue (clearFan s c s.fans[c].target) c (clearedRecord s.fans[c] s.fans[c].target)) (feedOf s c)
      else clearFan s c s.fans[c].target := by
  rw [← clearFan_self s c s.fans[c].target]
  have feed : feedOf (clearFan s c s.fans[c].target) c = feedOf s c := feedOf_congr (by rw [clearFan_eq]; rfl)
  rw [← feed]
  rfl

theorem releaseLocked_fansLaw (law : FansLaw s) (low : ∀ c : Chan, s.store.cfg.channels[c].minSpeed ≤ 100)
    (state : s.fans[c].state = .lockedOut ∨ s.fans[c].state = .failed) : FansLaw (releaseLocked s c) := by
  have cleared := clearFan_fansLaw law s.fans[c].target (.inr state)
  have rests : s.fans[c].state ≠ .starting ∧ s.fans[c].state ≠ .running := by
    rcases state with k | k <;> rw [k] <;> exact ⟨nofun, nofun⟩
  obtain ⟨output, speed⟩ := law.resting rests.1 rests.2
  rw [releaseLocked_eq]
  split
  · rename_i isOn
    have own (low : Nat) : FanRecordLaw low (queuedRecord (clearedRecord s.fans[c] s.fans[c].target)) :=
      waitingRecord_law output speed isOn (.inl rfl)
    have off : (clearFan s c s.fans[c].target).fans[c].state ≠ .starting := by rw [clearFan_self]; nofun
    have store : (clearFan s c s.fans[c].target).store = s.store := by rw [clearFan_eq]; rfl
    exact examine_fansLaw (joinQueue_fansLaw cleared (own _) off)
      (fun d => by rw [joinQueue_eq, replaced_store, store]; exact low d) _
  · exact cleared

theorem syncGate_fansLaw (law : FansLaw s) (c : Chan) : FansLaw (syncGate s c) := by
  have frame := syncGate_onlyChanges s c
  refine fansLaw_frame (frame .fans (by decide)) (fun f => ?_) (frame .store (by decide)) law
  cases f
  · exact frame .queueA (by decide)
  · exact frame .queueB (by decide)

theorem serviceOn_fansLaw (law : FansLaw s) (low : ∀ c : Chan, s.store.cfg.channels[c].minSpeed ≤ 100) (c : Chan) :
    FansLaw (serviceOn s c) := by
  unfold serviceOn
  split
  · exact law
  · exact enterService_fansLaw law low c

theorem serviceOff_fansLaw (law : FansLaw s) (low : ∀ c : Chan, s.store.cfg.channels[c].minSpeed ≤ 100) (c : Chan) :
    FansLaw (serviceOff s c) := by
  unfold serviceOff
  cases state : s.fans[c].state with
  | service => exact syncGate_fansLaw (clearFan_fansLaw law .off (.inl state)) c
  | lockedOut => exact releaseLocked_fansLaw law low (.inl state)
  | failed => exact releaseLocked_fansLaw law low (.inr state)
  | _ => exact law

theorem restartFan_fansLaw (law : FansLaw s) (c : Chan) : FansLaw (restartFan s c) := by
  unfold restartFan
  cases state : s.fans[c].state with
  | lockedOut => exact clearFan_fansLaw law .off (.inr (.inl state))
  | failed => exact clearFan_fansLaw law .off (.inr (.inr state))
  | _ => exact law

end Sys2Proof.Machine

/-! What every command keeps: properties that read some parts of the state, and the ranges of the configuration under a write. -/

namespace Sys2Proof.Machine

open State

variable {s t u : State} {i : Instr} {parts changed : List Part} {P Q : State → Prop} {cfg : Cfg}

/-! ### Properties of some parts of the state -/

/-- A property reads some parts of the state alone. -/
def Reads (parts : List Part) (P : State → Prop) : Prop := ∀ s t : State, (∀ p ∈ parts, samePart s t p) → P s → P t

/-- A command keeps a property. -/
def Keeps (P : State → Prop) (i : Instr) : Prop := ∀ s t : State, P s → exec i s = .next t → P t

theorem Reads.kept (reads : Reads parts P) (apart : ∀ p ∈ parts, p ∉ changed) (frame : onlyChanges changed s t) (h : P s) : P t :=
  reads s t (fun p hp => frame p (apart p hp)) h

theorem Reads.and {parts' : List Part} (reads : Reads parts P) (reads' : Reads parts' Q) :
    Reads (parts ++ parts') fun s => P s ∧ Q s :=
  fun s t same h => ⟨reads s t (fun p hp => same p (List.mem_append_left _ hp)) h.1,
    reads' s t (fun p hp => same p (List.mem_append_right _ hp)) h.2⟩

theorem Reads.taken (reads : Reads parts P) (apart : .inFlight ∉ parts) (i : Instr) (h : P s) : P (s.taken i) :=
  reads.kept (changed := [.inFlight]) (fun p hp => by simp; exact fun same => apart (same ▸ hp)) (taken_onlyChanges s i) h

theorem keeps_of_apart (reads : Reads parts P) (apart : ∀ p ∈ parts, p ∉ touches i) : Keeps P i := by
  intro s t h next
  obtain ⟨t', eq, frame⟩ := exec_goesOn i s
  cases eq.symm.trans next
  exact reads.kept apart frame h

/-- A property that an event finds and leaves holds after it. -/
theorem onEvent_leaves {f : State → State} (next : onEvent i s f = .next t) (found : P (s.taken i)) (left : P (f (s.taken i))) :
    P t := by
  rcases onEvent_eq_next_iff.mp next with ⟨-, rfl⟩ | ⟨-, rfl⟩
  · exact left
  · exact found

/-- A property that a request's owner finds and leaves, and that the port is no part of, holds after the request. -/
theorem onRequest_leaves {code : Nat} {f : State → State × Status × List Byte} (reads : Reads parts P)
    (apart : ∀ p ∈ parts, p ∉ [.port, .inFlight]) (next : onRequest i code s f = .next t) (found : P s) (left : P (f (s.taken i)).1) :
    P t := by
  have taken : P (s.taken i) := reads.kept apart (onlyChanges_mono (taken_onlyChanges s i) (by simp)) found
  refine onEvent_leaves next taken ?_
  split
  · exact reads.kept apart (respond_onlyChanges _ _) left
  · exact reads.kept apart (onlyChanges_mono (dropFrame_onlyChanges _) (by simp)) taken

/-- A property apart from the port and from what is in flight is kept by every command once the commands with a part in it keep it: the byte
that completes a frame runs one of them (log entry 11). -/
theorem keeps_all (reads : Reads parts P) (apart : ∀ p ∈ parts, p ∉ [.port, .inFlight])
    (own : ∀ i, (∀ b, i ≠ .supervisoryByteReceived b) → ¬ (∀ p ∈ parts, p ∉ touches i) → Keeps P i) (i : Instr) : Keeps P i := by
  have others (i : Instr) (byte : ∀ b, i ≠ .supervisoryByteReceived b) : Keeps P i := by
    by_cases free : ∀ p ∈ parts, p ∉ touches i
    · exact keeps_of_apart reads free
    · exact own i byte free
  by_cases byte : ∃ b, i = .supervisoryByteReceived b
  · obtain ⟨b, rfl⟩ := byte
    intro s t h next
    obtain ⟨t', eq, frame, -⟩ | ⟨i, row, eq⟩ := execSupervisoryByteReceived_cases b s
    · cases eq.symm.trans next
      exact reads.kept apart frame h
    · have noByte : ∀ b, i ≠ .supervisoryByteReceived b := by
        rintro b rfl
        rcases row with row | row | ⟨_, _, row⟩ <;> exact nomatch row
      exact others i noByte _ _ (reads.taken (fun flight => apart _ flight (by simp)) _ h) (eq.symm.trans next)
  · exact others i fun b eq => byte ⟨b, eq⟩

/-! ### The ranges of the configuration -/

theorem Cfg.setZone_zones_self (cfg : Cfg) (z : Zone) (zc : ZoneCfg) : (cfg.setZone z zc).zones[z] = zc := Vector.getElem_set_self _

theorem Cfg.setZone_zones_other (cfg : Cfg) {y z : Zone} (zc : ZoneCfg) (other : y ≠ z) : (cfg.setZone z zc).zones[y] = cfg.zones[y] :=
  Vector.getElem_set_ne z.isLt y.isLt fun same => other (Fin.ext same.symm)

theorem Cfg.setChan_channels_self (cfg : Cfg) (c : Chan) (cc : ChanCfg) : (cfg.setChan c cc).channels[c] = cc :=
  Vector.getElem_set_self _

theorem Cfg.setChan_channels_other (cfg : Cfg) {c d : Chan} (cc : ChanCfg) (other : d ≠ c) :
    (cfg.setChan c cc).channels[d] = cfg.channels[d] :=
  Vector.getElem_set_ne c.isLt d.isLt fun same => other (Fin.ext same.symm)

/-- A zone's items replaced by items in their ranges, its adjacency kept. -/
theorem setZone_cfgLaw (law : CfgLaw cfg) {z : Zone} {zc : ZoneCfg} (own : ZoneCfgLaw zc)
    (adjacency : zc.adjacency = cfg.zones[z].adjacency) : CfgLaw (cfg.setZone z zc) := by
  obtain ⟨wide, zones, channels, adjacent⟩ := law
  have mask (y : Zone) : (cfg.setZone z zc).zones[y].adjacency = cfg.zones[y].adjacency := by
    by_cases same : y = z
    · rw [same, Cfg.setZone_zones_self, adjacency]
    · rw [Cfg.setZone_zones_other cfg zc same]
  refine ⟨wide, fun y => ?_, channels, fun a b => ?_⟩
  · by_cases same : y = z
    · rw [same, Cfg.setZone_zones_self]
      exact own
    · rw [Cfg.setZone_zones_other cfg zc same]
      exact zones y
  · rw [mask, mask]
    exact adjacent a b

/-- A channel's items replaced by items in their ranges. -/
theorem setChan_cfgLaw (law : CfgLaw cfg) {c : Chan} {cc : ChanCfg} (own : ChanCfgLaw cc) : CfgLaw (cfg.setChan c cc) := by
  obtain ⟨wide, zones, channels, adjacent⟩ := law
  refine ⟨wide, zones, fun d => ?_, adjacent⟩
  by_cases same : d = c
  · rw [same, Cfg.setChan_channels_self]
    exact own
  · rw [Cfg.setChan_channels_other cfg cc same]
    exact channels d

theorem one_shiftLeft_getLsbD (z y : Zone) : (1#8 <<< z.val).getLsbD y.val = decide (y = z) := by
  revert z y
  decide

/-- The bits of a mask with one zone's bit set or cleared. -/
theorem setBit_getLsbD (mask : BitVec 8) (z y : Zone) (on : Bool) :
    (setBit mask z on).getLsbD y.val = if y = z then on else mask.getLsbD y.val := by
  have inside : decide (y.val < 8) = true := by simp
  unfold setBit
  cases on with
  | true =>
    rw [if_pos rfl, BitVec.getLsbD_or, one_shiftLeft_getLsbD]
    by_cases same : y = z <;> simp only [same, decide_true, decide_false, Bool.or_true, Bool.or_false, if_true, if_false]
  | false =>
    rw [if_neg (by decide), BitVec.getLsbD_and, BitVec.getLsbD_not, one_shiftLeft_getLsbD, inside]
    by_cases same : y = z <;>
      simp only [same, decide_true, decide_false, Bool.not_true, Bool.not_false, Bool.and_true, Bool.and_false, if_true, if_false]

/-- The bits of the masks once the adjacency of two zones is set or cleared (R71). -/
theorem setAdjacent_getLsbD {a b : Zone} (apart : a ≠ b) (on : Bool) (x y : Zone) :
    (cfg.setAdjacent a b on).zones[x].adjacency.getLsbD y.val =
      if x = a ∧ y = b ∨ x = b ∧ y = a then on else cfg.zones[x].adjacency.getLsbD y.val := by
  unfold Cfg.setAdjacent
  rw [if_neg apart]
  dsimp only
  by_cases second : x = b
  · subst second
    rw [Cfg.setZone_zones_self, setBit_getLsbD, Cfg.setZone_zones_other cfg _ (Ne.symm apart)]
    simp [Ne.symm apart]
  · rw [Cfg.setZone_zones_other _ _ second]
    by_cases first : x = a
    · subst first
      rw [Cfg.setZone_zones_self, setBit_getLsbD]
      simp [second]
    · rw [Cfg.setZone_zones_other _ _ first]
      simp [first, second]

theorem setAdjacent_cfgLaw (law : CfgLaw cfg) (a b : Zone) (on : Bool) : CfgLaw (cfg.setAdjacent a b on) := by
  by_cases apart : a = b
  · unfold Cfg.setAdjacent
    rw [if_pos apart]
    exact law
  · obtain ⟨wide, zones, channels, adjacent⟩ := law
    refine ⟨?_, fun x => ?_, ?_, fun x y => ?_⟩
    · unfold Cfg.setAdjacent
      rw [if_neg apart]
      exact wide
    · unfold Cfg.setAdjacent
      rw [if_neg apart]
      dsimp only
      by_cases second : x = b
      · subst second
        rw [Cfg.setZone_zones_self, Cfg.setZone_zones_other cfg _ (Ne.symm apart)]
        exact zones x
      · rw [Cfg.setZone_zones_other _ _ second]
        by_cases first : x = a
        · subst first
          rw [Cfg.setZone_zones_self]
          exact zones x
        · rw [Cfg.setZone_zones_other _ _ first]
          exact zones x
    · unfold Cfg.setAdjacent
      rw [if_neg apart]
      exact channels
    · obtain ⟨symmetric, own⟩ := adjacent x y
      rw [setAdjacent_getLsbD apart, setAdjacent_getLsbD apart, setAdjacent_getLsbD apart]
      refine ⟨?_, ?_⟩
      · rw [symmetric]
        congr 1
        apply propext
        tauto
      · rw [if_neg, own]
        rintro (⟨rfl, rfl⟩ | ⟨rfl, rfl⟩) <;> exact apart rfl

/-- A retry limit is clamped to one of the four (R77). -/
theorem nearestLimit_mem (v : Nat) : nearestLimit v ∈ [1, 2, 4, 8] := by
  unfold nearestLimit
  split_ifs <;> decide

/-- A clamped role value never names an empty reach (R77, R172). -/
theorem roleOf_clampRole {v : Nat} (known : v / 256 ≤ 2) : roleOf (clampRole v) ≠ .standby 0 := by
  have split : v = 256 * (v / 256) + v % 256 := (Nat.div_add_mod v 256).symm
  have low : v % 256 < 256 := Nat.mod_lt v (by decide)
  have cases : v / 256 = 0 ∨ v / 256 = 1 ∨ v / 256 = 2 := by omega
  rcases cases with k | k | k
  · simp [clampRole, k, roleOf]
  · have zone : (256 + min (v % 256) 7) / 256 = 1 := by omega
    simp [clampRole, k, roleOf, zone]
  · by_cases empty : v % 256 = 0
    · simp [clampRole, k, roleOf, empty]
    · have reach : BitVec.ofNat 8 (v % 256) ≠ 0 := fun zero => empty (by
        have := congrArg BitVec.toNat zero
        simpa using this)
      simpa [clampRole, k, roleOf, empty] using reach

/-- The items of the whole module stay in their ranges under a write (10.1, R59). -/
theorem putValue_wideLaw (law : CfgWideLaw cfg) (k : CfgItem) (v : Nat) : CfgWideLaw (putValue cfg k (clampValue cfg k v)) := by
  have whole := law
  obtain ⟨window, tail, engine, warm, weight, lead, coStart, coFactor, no2Start, no2Factor, ceiling, floor, coHigh, coClear, no2High,
    no2Clear, weights⟩ := law
  cases k with
  | weight c a =>
    refine ⟨window, tail, engine, warm, weight, lead, coStart, coFactor, no2Start, no2Factor, ceiling, floor, coHigh, coClear,
      no2High, no2Clear, fun k => ?_⟩
    show (cfg.weights.set (weightPlace c a) (clampTo 0 4000 v))[k] ≤ 4000
    by_cases same : weightPlace c a = k
    · rw [← same, show (cfg.weights.set (weightPlace c a) (clampTo 0 4000 v))[weightPlace c a] = clampTo 0 4000 v from
        Vector.getElem_set_self _]
      exact Nat.min_le_left _ _
    · rw [show (cfg.weights.set (weightPlace c a) (clampTo 0 4000 v))[k] = cfg.weights[k] from
        Vector.getElem_set_ne (weightPlace c a).isLt k.isLt fun k => same (Fin.ext k)]
      exact weights k
  | windowBase | tail | engineRun | warmUp | anticipationWeight | anticipationLead | coStart | coFactor | no2Start | no2Factor
  | gasCeiling | floorTerm =>
    simp only [CfgWideLaw, putValue, clampValue, itemRange, clampTo]
    refine ⟨?_, ?_, ?_, ?_, ?_, ?_, ?_, ?_, ?_, ?_, ?_, ?_, ?_, ?_, ?_, ?_, weights⟩ <;> omega
  | level field =>
    cases field <;> simp only [CfgWideLaw, putValue, clampValue, itemRange, clampTo] <;>
      refine ⟨?_, ?_, ?_, ?_, ?_, ?_, ?_, ?_, ?_, ?_, ?_, ?_, ?_, ?_, ?_, ?_, weights⟩ <;> omega
  | adjacency z =>
    unfold putValue Cfg.setAdjacent
    dsimp only
    split <;> exact whole
  | floorCeiling field z => cases field <;> exact whole
  | stall field n => cases field <;> exact whole
  | placement field c => cases field <;> exact whole
  | _ => exact whole

/-- A zone's items stay in their ranges under a write (R41, R42, R63, R99). -/
theorem putValue_zone_cfgLaw (law : CfgLaw cfg) (z : Zone) (v : Nat) {k : CfgItem}
    (own : k = .baseFlow z ∨ k = .thermalFloor z ∨ k = .quietEntry z ∨ k = .pulse z ∨ k = .space z ∨ k = .contactEnabled z ∨
      k = .damperTimeout z ∨ k = .floorCeiling .floor z ∨ k = .floorCeiling .ceiling z) :
    CfgLaw (putValue cfg k (clampValue cfg k v)) := by
  obtain ⟨-, zones, -, -⟩ := id law
  obtain ⟨base, floor, ceiling, order, thermal, entry, pulse, space, timeout⟩ := zones z
  rcases own with rfl | rfl | rfl | rfl | rfl | rfl | rfl | rfl | rfl <;> refine setZone_cfgLaw law ?_ rfl <;>
    simp only [ZoneCfgLaw, clampValue, itemRange, clampTo] <;> omega

/-- A channel's items stay in their ranges under a write whose code names something (R77). -/
theorem putValue_chan_cfgLaw (law : CfgLaw cfg) (c : Chan) {v : Nat} {k : CfgItem} (known : badCode k v = false)
    (own : k = .ratedRpm c ∨ k = .pulses c ∨ k = .minSpeed c ∨ k = .startWindow c ∨ k = .retryWait c ∨ k = .retryLimit c ∨
      k = .action c ∨ k = .homeZone c ∨ ∃ field, k = .placement field c) :
    CfgLaw (putValue cfg k (clampValue cfg k v)) := by
  obtain ⟨-, -, channels, -⟩ := id law
  obtain ⟨flow, rpm, pulses, speed, window, wait, limit, role⟩ := channels c
  rcases own with rfl | rfl | rfl | rfl | rfl | rfl | rfl | rfl | ⟨field, rfl⟩
  case inr.inr.inr.inr.inr.inl =>
    exact setChan_cfgLaw law ⟨flow, rpm, pulses, speed, window, wait, nearestLimit_mem v, role⟩
  case inr.inr.inr.inr.inr.inr.inr.inr =>
    cases field with
    | role =>
      have code : v / 256 ≤ 2 := by simpa [badCode] using known
      exact setChan_cfgLaw law ⟨flow, rpm, pulses, speed, window, wait, limit, roleOf_clampRole code⟩
    | feed => exact setChan_cfgLaw law ⟨flow, rpm, pulses, speed, window, wait, limit, role⟩
    | ratedFlow =>
      exact setChan_cfgLaw law ⟨(clampTo_spec (show 500 ≤ 20000 by decide)).1, rpm, pulses, speed, window, wait, limit, role⟩
  all_goals
    refine setChan_cfgLaw law ?_
    refine ⟨?_, ?_, ?_, ?_, ?_, ?_, limit, role⟩ <;> simp only [clampValue, itemRange, clampTo] <;> omega

/-- A taken write keeps the working configuration within the table of 10.1. -/
theorem putValue_cfgLaw (law : CfgLaw cfg) {k : CfgItem} {v : Nat} (known : badCode k v = false) :
    CfgLaw (putValue cfg k (clampValue cfg k v)) := by
  have wide := putValue_wideLaw law.1 k v
  cases k with
  | adjacency z => exact setAdjacent_cfgLaw law z _ _
  | baseFlow z | thermalFloor z | quietEntry z | pulse z | space z | contactEnabled z | damperTimeout z =>
    exact putValue_zone_cfgLaw law z v (by simp)
  | floorCeiling field z => exact putValue_zone_cfgLaw law z v (by cases field <;> simp)
  | ratedRpm c | pulses c | minSpeed c | startWindow c | retryWait c | retryLimit c | action c | homeZone c | placement field c =>
    exact putValue_chan_cfgLaw law c known (by simp)
  | level field => cases field <;> exact ⟨wide, law.2⟩
  | stall field n => cases field <;> exact law
  | _ => exact ⟨wide, law.2⟩

/-! ### Writes -/

theorem exec_of_writeOf {item index value : Nat} (write : writeOf i = some (item, index, value)) (s : State) :
    exec i s = writeRequest i item index value s := by
  cases i <;> simp only [writeOf, Option.some.injEq, Prod.mk.injEq, reduceCtorEq] at write <;> obtain ⟨rfl, rfl, rfl⟩ := write <;> rfl

/-- A write that passes the checks is taken: its code names something and no rule holds it back (R172). -/
theorem writeFault_eq_none {k : CfgItem} {v : Nat} (passes : writeFault s k v = none) : badCode k v = false ∧ heldBack s k = false := by
  unfold writeFault at passes
  cases code : badCode k v with
  | true => rw [code] at passes; exact nomatch passes
  | false =>
    cases held : heldBack s k with
    | true => rw [code, held] at passes; exact nomatch passes
    | false => exact ⟨rfl, rfl⟩

/-- A write leaves the state, or takes an item with its checks passed (R172). -/
theorem writeAt_cases (s : State) (item index value : Nat) :
    (writeAt s item index value).1 = s ∨
      ∃ k, itemOf item index = some k ∧ badCode k value = false ∧ heldBack s k = false ∧
        (writeAt s item index value).1 = takeWrite s k value := by
  unfold writeAt
  cases named : itemOf item index with
  | none => exact .inl rfl
  | some k =>
    dsimp only
    unfold writeItem
    cases fault : writeFault s k value with
    | some status => exact .inl rfl
    | none =>
      obtain ⟨known, held⟩ := writeFault_eq_none fault
      exact .inr ⟨k, rfl, known, held, rfl⟩

/-- A property that a taken write leaves holds after a write. -/
theorem write_leaves {item index value : Nat} (reads : Reads parts P) (apart : ∀ p ∈ parts, p ∉ [.port, .inFlight])
    (write : writeOf i = some (item, index, value)) (next : exec i s = .next t) (found : P s)
    (taken : ∀ k, badCode k value = false → heldBack s k = false → P (takeWrite (s.taken i) k value)) : P t := by
  rw [exec_of_writeOf write] at next
  refine onRequest_leaves reads apart next found ?_
  rcases writeAt_cases (s.taken i) item index value with same | ⟨k, -, known, held, eq⟩
  · rw [same]
    exact reads.kept apart (onlyChanges_mono (taken_onlyChanges s i) (by simp)) found
  · rw [eq]
    exact taken k known held

/-! ### The store -/

theorem storeLaw_reads : Reads [.store] fun s => StoreLaw s.store := by
  intro s t same law
  rw [show t.store = s.store from same .store (by simp)]
  exact law

theorem takeWrite_store (s : State) (k : CfgItem) (v : Nat) :
    (takeWrite s k v).store = { s.store with cfg := putValue s.cfg k (clampValue s.cfg k v) } :=
  actOnWrite_onlyChanges _ _ _ .store (by decide)

theorem takeWrite_storeLaw (law : StoreLaw s.store) {k : CfgItem} {v : Nat} (known : badCode k v = false) :
    StoreLaw (takeWrite s k v).store := by
  obtain ⟨cfg, saving, image, minute, seconds⟩ := law
  rw [takeWrite_store]
  exact ⟨putValue_cfgLaw cfg known, saving, image, minute, seconds⟩

theorem setMinute_storeLaw (law : StoreLaw s.store) {minute : Nat} (h : minute ≤ 1439) : StoreLaw (setMinute s minute).store := by
  obtain ⟨cfg, saving, image, -, -⟩ := law
  exact ⟨cfg, saving, image, h, Nat.zero_le _⟩

theorem nextMinute_storeLaw {st : ConfigStore} (law : StoreLaw st) : StoreLaw (nextMinute st) := by
  obtain ⟨cfg, saving, image, -, -⟩ := law
  exact ⟨cfg, saving, image, Nat.le_of_lt_succ (Nat.mod_lt _ (by decide)), Nat.zero_le _⟩

theorem startingState_storeLaw (law : StoreLaw s.store) : StoreLaw (startingState s).store := by
  obtain ⟨-, -, -, -, -, -, -, -, -, store, -⟩ := starting_lawful law
  exact store

theorem cutSave_storeLaw {st : ConfigStore} (law : StoreLaw st) : StoreLaw { st with nv := cutSave st, saving := none } := by
  obtain ⟨cfg, -, image, minute, seconds⟩ := law
  refine ⟨cfg, nofun, fun c stands => image c ?_, minute, seconds⟩
  unfold cutSave at stands
  split at stands
  · exact nomatch stands
  · exact stands

theorem execSaveComplete_storeLaw {readBack : ReadBack} (next : execSaveComplete readBack s = .next t) (law : StoreLaw s.store) :
    StoreLaw t.store := by
  refine onEvent_leaves (P := fun s => StoreLaw s.store) next law ?_
  split
  · rename_i copy saving
    obtain ⟨cfg, own, image, minute, seconds⟩ := law
    have saved : CfgLaw copy := own copy saving
    cases readBack with
    | equal => exact ⟨cfg, nofun, fun c k => NvCopy.image.inj k ▸ saved, minute, seconds⟩
    | differsDamaged => exact ⟨cfg, nofun, nofun, minute, seconds⟩
    | differsIntact => exact ⟨cfg, nofun, fun c k => NvCopy.image.inj k ▸ saved, minute, seconds⟩
  · exact law

theorem execBroadcastSetClock_storeLaw {code : Nat} {payload : List Byte} (next : execBroadcastSetClock code payload s = .next t)
    (law : StoreLaw s.store) : StoreLaw t.store := by
  refine onEvent_leaves (P := fun s => StoreLaw s.store) next law ?_
  split
  · exact law
  · refine storeLaw_reads.kept (by decide) (dropFrame_onlyChanges _) ?_
    unfold broadcastEffect
    split
    · rename_i clock
      obtain ⟨-, -, range⟩ := clock
      exact setMinute_storeLaw (s := s.taken (.broadcastSetClock code payload)) law range
    · exact law

/-- Every command keeps the ranges of the configuration. -/
theorem storeLaw_kept (i : Instr) : Keeps (fun s => StoreLaw s.store) i := by
  refine keeps_all storeLaw_reads (by decide) (fun i byte touched s t law next => ?_) i
  have write (item index value : Nat) (w : writeOf i = some (item, index, value)) : StoreLaw t.store :=
    write_leaves (P := fun s => StoreLaw s.store) storeLaw_reads (by decide) w next law fun k known _ => takeWrite_storeLaw (s := s.taken i) law known
  have starting (t : State) (next : (.next (startingState s) : Result) = .next t) (law : StoreLaw s.store) : StoreLaw t.store := by
    cases next
    exact startingState_storeLaw law
  cases i with
  | writeConfig item index value => exact write _ _ _ rfl
  | windowBaseWrite index value => exact write _ _ _ rfl
  | tailLengthWrite index value => exact write _ _ _ rfl
  | gasLevelWrite field index value => exact write _ _ _ rfl
  | floorCeilingWrite field index value => exact write _ _ _ rfl
  | adjacencyWrite index value => exact write _ _ _ rfl
  | contactEnabledWrite index value => exact write _ _ _ rfl
  | stallMapWrite field index value => exact write _ _ _ rfl
  | channelPlacementWrite field index value => exact write _ _ _ rfl
  | minimumSpeedWrite index value => exact write _ _ _ rfl
  | supervisoryByteReceived b => exact absurd rfl (byte b)
  | powerOn => exact starting t next law
  | resetLineRelease => exact starting t next law
  | powerLoss =>
    cases next
    exact cutSave_storeLaw law
  | depotClockMinute =>
    exact onEvent_leaves (i := .depotClockMinute) (P := fun s => StoreLaw s.store) (f := fun s => s.setStore (nextMinute s.store)) next law
      (nextMinute_storeLaw law)
  | saveComplete readBack => exact execSaveComplete_storeLaw next law
  | broadcastSetClock code payload => exact execBroadcastSetClock_storeLaw next law
  | setClock minute =>
    refine onRequest_leaves (i := .setClock minute) (f := fun s => setClockAt s minute) storeLaw_reads (by decide) next law ?_
    unfold setClockAt
    split
    · exact law
    · rename_i range
      exact setMinute_storeLaw (s := s.taken (.setClock minute)) law (Nat.not_lt.mp range)
  | saveConfig =>
    refine onRequest_leaves (i := .saveConfig) (f := saveConfigNow) storeLaw_reads (by decide) next law ?_
    unfold saveConfigNow
    split
    · exact law
    · obtain ⟨cfg, -, image, minute, seconds⟩ := law
      exact ⟨cfg, fun c copy => Option.some.inj copy ▸ cfg, image, minute, seconds⟩
  | _ => exact absurd (by simp [touches]) touched

/-! ### Properties of some parts and of the working configuration -/

/-- A property reads some parts of the state and the working configuration alone. -/
def ReadsCfg (parts : List Part) (P : State → Prop) : Prop :=
  ∀ s t : State, t.store.cfg = s.store.cfg → (∀ p ∈ parts, samePart s t p) → P s → P t

theorem ReadsCfg.reads (reads : ReadsCfg parts P) : Reads (.store :: parts) P := fun s t same h =>
  reads s t (by rw [show t.store = s.store from same .store List.mem_cons_self]) (fun p hp => same p (List.mem_cons_of_mem _ hp)) h

theorem ReadsCfg.kept (reads : ReadsCfg parts P) (cfg : t.store.cfg = s.store.cfg) (apart : ∀ p ∈ parts, p ∉ changed)
    (frame : onlyChanges changed s t) (h : P s) : P t :=
  reads s t cfg (fun p hp => frame p (apart p hp)) h

theorem cfg_reads (cfg : Cfg) : Reads [.store] fun s => s.store.cfg = cfg := by
  intro s t same h
  rw [show t.store = s.store from same .store (by simp)]
  exact h

theorem broadcastEffect_cfg (s : State) (code : Nat) (payload : List Byte) :
    (broadcastEffect s code payload).store.cfg = s.store.cfg := by
  unfold broadcastEffect
  split <;> rfl

/-- No command but a start of the module and a write changes the working configuration. -/
theorem cfg_kept (write : writeOf i = none) (start : i ≠ .powerOn ∧ i ≠ .resetLineRelease)
    (byte : ∀ b, i ≠ .supervisoryByteReceived b) (next : exec i s = .next t) : t.store.cfg = s.store.cfg := by
  have frame (apart : Part.store ∉ touches i) : t.store.cfg = s.store.cfg :=
    keeps_of_apart (cfg_reads s.store.cfg) (by simpa using apart) s t rfl next
  cases i with
  | powerOn => exact absurd rfl start.1
  | resetLineRelease => exact absurd rfl start.2
  | supervisoryByteReceived b => exact absurd rfl (byte b)
  | writeConfig | windowBaseWrite | tailLengthWrite | gasLevelWrite | floorCeilingWrite | adjacencyWrite | contactEnabledWrite
  | stallMapWrite | channelPlacementWrite | minimumSpeedWrite => exact nomatch write
  | powerLoss =>
    cases next
    rfl
  | depotClockMinute =>
    exact onEvent_leaves (i := .depotClockMinute) (P := fun u => u.store.cfg = s.store.cfg)
      (f := fun s => s.setStore (nextMinute s.store)) next rfl rfl
  | saveComplete readBack =>
    refine onEvent_leaves (i := .saveComplete readBack) (P := fun u => u.store.cfg = s.store.cfg)
      (f := fun s => match s.store.saving with
        | some cfg => s.setStore (completeSave s.store cfg readBack)
        | none => s) next rfl ?_
    split
    · cases readBack <;> rfl
    · rfl
  | broadcastSetClock code payload =>
    refine onEvent_leaves (i := .broadcastSetClock code payload) (P := fun u => u.store.cfg = s.store.cfg)
      (f := fun s => match s.port.state with
        | .answering => s
        | _ => (broadcastEffect s code payload).dropFrame) next rfl ?_
    split
    · rfl
    · exact (cfg_reads _).kept (by decide) (dropFrame_onlyChanges _) (broadcastEffect_cfg _ _ _)
  | setClock minute =>
    refine onRequest_leaves (i := .setClock minute) (P := fun u => u.store.cfg = s.store.cfg) (f := fun s => setClockAt s minute)
      (cfg_reads _) (by decide) next rfl ?_
    unfold setClockAt
    split <;> rfl
  | saveConfig =>
    refine onRequest_leaves (i := .saveConfig) (P := fun u => u.store.cfg = s.store.cfg) (f := saveConfigNow)
      (cfg_reads _) (by decide) next rfl ?_
    unfold saveConfigNow
    split <;> rfl
  | _ => exact frame (by simp [touches])

/-- A block's law, which reads the block and the working configuration, is kept by every command once it holds at a start of the module, a
taken write keeps it, and the commands with a part in the block keep it. -/
theorem blockLaw_kept (reads : ReadsCfg parts P) (apart : ∀ p ∈ parts, p ∉ [.port, .inFlight])
    (starts : ∀ s, StoreLaw s.store → P (startingState s))
    (writes : ∀ s k v, badCode k v = false → heldBack s k = false → P s → StoreLaw s.store → P (takeWrite s k v))
    (own : ∀ i, writeOf i = none → (∀ b, i ≠ .supervisoryByteReceived b) → i ≠ .powerOn ∧ i ≠ .resetLineRelease →
      ¬ (∀ p ∈ parts, p ∉ touches i) → ∀ s t, P s → StoreLaw s.store → exec i s = .next t → P t)
    (i : Instr) : Keeps (fun s => P s ∧ StoreLaw s.store) i := by
  have both : Reads (.store :: parts ++ [.store]) fun s => P s ∧ StoreLaw s.store := reads.reads.and storeLaw_reads
  have all : ∀ p ∈ Part.store :: parts ++ [.store], p ∉ [Part.port, .inFlight] := by
    intro p hp
    simp only [List.cons_append, List.mem_cons, List.mem_append, List.not_mem_nil, or_false] at hp
    rcases hp with rfl | hp | rfl
    · decide
    · exact apart p hp
    · decide
  refine keeps_all both all (fun i byte _ s t h next => ⟨?_, storeLaw_kept i s t h.2 next⟩) i
  obtain ⟨law, store⟩ := h
  by_cases start : i = .powerOn ∨ i = .resetLineRelease
  · rcases start with rfl | rfl <;> cases next <;> exact starts s store
  · cases write : writeOf i with
    | some w =>
      obtain ⟨item, index, value⟩ := w
      refine write_leaves (P := P) reads.reads (by simpa using apart) write next law fun k known held => ?_
      exact writes _ k value known held (reads.reads.kept (changed := [.inFlight]) (fun p hp => by
        rcases List.mem_cons.mp hp with rfl | hp
        · decide
        · have := apart p hp
          simp at this ⊢
          exact this.2) (taken_onlyChanges s i) law) store
    | none =>
      by_cases free : ∀ p ∈ parts, p ∉ touches i
      · obtain ⟨t', eq, frame⟩ := exec_goesOn i s
        cases eq.symm.trans next
        exact reads.kept (cfg_kept write (not_or.mp start) byte next) free frame law
      · exact own i write byte (not_or.mp start) free s t law store next

end Sys2Proof.Machine

/-! What a write of a configuration item leaves in the store: its own item, and every other item as it was (10.1, R172). -/

namespace Sys2Proof.Machine

open State

variable {s t : State} {cfg : Cfg} {st : ConfigStore} {k k' : CfgItem} {v : Nat}

/-! ### The items of a zone and of a channel -/

/-- The zone an item belongs to, and how its value is read from the zone's items. -/
def zoneReading : CfgItem → Option (Zone × (ZoneCfg → Nat))
  | .baseFlow z => some (z, ZoneCfg.baseFlow)
  | .floorCeiling field z => some (z, fun zc => match field with | .floor => zc.floor | .ceiling => zc.ceiling)
  | .thermalFloor z => some (z, ZoneCfg.thermalFloor)
  | .quietEntry z => some (z, ZoneCfg.quietEntry)
  | .pulse z => some (z, ZoneCfg.pulse)
  | .space z => some (z, ZoneCfg.space)
  | .adjacency z => some (z, fun zc => zc.adjacency.toNat)
  | .contactEnabled z => some (z, fun zc => if zc.contactEnabled then 1 else 0)
  | .damperTimeout z => some (z, ZoneCfg.damperTimeout)
  | _ => none

/-- The channel an item belongs to, and how its value is read from the channel's items. -/
def chanReading : CfgItem → Option (Chan × (ChanCfg → Nat))
  | .placement field c => some (c, fun cc => match field with
    | .role => roleValue cc.role
    | .feed => match cc.feed with | .a => 0 | .b => 1
    | .ratedFlow => cc.ratedFlow)
  | .ratedRpm c => some (c, ChanCfg.ratedRpm)
  | .pulses c => some (c, ChanCfg.pulses)
  | .minSpeed c => some (c, ChanCfg.minSpeed)
  | .startWindow c => some (c, ChanCfg.startWindow)
  | .retryWait c => some (c, ChanCfg.retryWait)
  | .retryLimit c => some (c, ChanCfg.retryLimit)
  | .action c => some (c, fun cc => match cc.action with | .lockOut => 0 | .persist => 1)
  | .homeZone c => some (c, fun cc => cc.homeZone.val)
  | _ => none

/-- The value of a stall's item (10.1, items 40 and 41). -/
def stallValue (e : StallCfg) : StallMapField → Nat
  | .enabled => if e.enabled then 1 else 0
  | .zone => e.zone.val

/-- The value of a head's zone item (10.1, item 42). -/
def headValue : Option Zone → Nat
  | some z => z.val
  | none => 65535

/-- How the value of any other item of the configuration is read. -/
def wideReading : CfgItem → Option (Cfg → Nat)
  | .windowBase => some Cfg.windowBase
  | .tail => some Cfg.tail
  | .engineRun => some Cfg.engineRun
  | .warmUp => some Cfg.warmUp
  | .anticipationWeight => some Cfg.anticipationWeight
  | .anticipationLead => some Cfg.anticipationLead
  | .coStart => some Cfg.coStart
  | .coFactor => some Cfg.coFactor
  | .no2Start => some Cfg.no2Start
  | .no2Factor => some Cfg.no2Factor
  | .gasCeiling => some Cfg.gasCeiling
  | .floorTerm => some Cfg.floorTerm
  | .level field => some fun cfg => match field with
    | .coHigh => cfg.coHigh
    | .coClear => cfg.coClear
    | .no2High => cfg.no2High
    | .no2Clear => cfg.no2Clear
  | .parking => some fun cfg => match cfg.parking with | .last => 0 | .home => 1 | .closed => 2
  | .weight c a => some fun cfg => weightOf cfg c a
  | .stall field n => some fun cfg => stallValue cfg.stalls[n] field
  | .headZone h => some fun cfg => headValue cfg.heads[h]
  | _ => none

theorem itemValue_of_wide {g : Cfg → Nat} (here : wideReading k = some g) : itemValue st k = g st.cfg := by
  cases k with
  | level field | stall field n => cases here; cases field <;> rfl
  | _ => cases here <;> rfl

theorem itemValue_of_zone {z : Zone} {g : ZoneCfg → Nat} (here : zoneReading k = some (z, g)) :
    itemValue st k = g st.cfg.zones[z] := by
  cases k with
  | floorCeiling field z => cases here; cases field <;> rfl
  | _ => cases here <;> rfl

theorem itemValue_of_chan {c : Chan} {g : ChanCfg → Nat} (here : chanReading k = some (c, g)) :
    itemValue st k = g st.cfg.channels[c] := by
  cases k with
  | placement field c => cases here; cases field <;> rfl
  | _ => cases here <;> rfl

/-- A zone's items replaced leave an item of another zone, or one read as before. -/
theorem itemValue_setZone {z : Zone} {zc : ZoneCfg}
    (same : ∀ g, zoneReading k' = some (z, g) → g zc = g st.cfg.zones[z]) :
    itemValue { st with cfg := st.cfg.setZone z zc } k' = itemValue st k' := by
  cases here : zoneReading k' with
  | none =>
    cases k' with
    | baseFlow | floorCeiling | thermalFloor | quietEntry | pulse | space | adjacency | contactEnabled | damperTimeout =>
      exact nomatch here
    | level field | stall field _ | placement field _ => cases field <;> rfl
    | _ => rfl
  | some reading =>
    obtain ⟨y, g⟩ := reading
    rw [itemValue_of_zone here, itemValue_of_zone here]
    by_cases own : y = z
    · subst own
      rw [Cfg.setZone_zones_self]
      exact same g here
    · rw [Cfg.setZone_zones_other _ _ own]

/-- A channel's items replaced leave an item of another channel, or one read as before. -/
theorem itemValue_setChan {c : Chan} {cc : ChanCfg}
    (same : ∀ g, chanReading k' = some (c, g) → g cc = g st.cfg.channels[c]) :
    itemValue { st with cfg := st.cfg.setChan c cc } k' = itemValue st k' := by
  cases here : chanReading k' with
  | none =>
    cases k' with
    | placement | ratedRpm | pulses | minSpeed | startWindow | retryWait | retryLimit | action | homeZone => exact nomatch here
    | level field | stall field _ | floorCeiling field _ => cases field <;> rfl
    | _ => rfl
  | some reading =>
    obtain ⟨d, g⟩ := reading
    rw [itemValue_of_chan here, itemValue_of_chan here]
    by_cases own : d = c
    · subst own
      rw [Cfg.setChan_channels_self]
      exact same g here
    · rw [Cfg.setChan_channels_other _ _ own]

/-- A configuration with the same zones and channels leaves an item read as before. -/
theorem itemValue_setWide (zones : cfg.zones = st.cfg.zones) (channels : cfg.channels = st.cfg.channels)
    (same : ∀ g, wideReading k' = some g → g cfg = g st.cfg) : itemValue { st with cfg := cfg } k' = itemValue st k' := by
  cases here : wideReading k' with
  | some g => rw [itemValue_of_wide here, itemValue_of_wide here]; exact same g here
  | none =>
    cases zone : zoneReading k' with
    | some reading =>
      obtain ⟨z, g⟩ := reading
      rw [itemValue_of_zone zone, itemValue_of_zone zone, zones]
    | none =>
      cases chan : chanReading k' with
      | some reading =>
        obtain ⟨c, g⟩ := reading
        rw [itemValue_of_chan chan, itemValue_of_chan chan, channels]
      | none =>
        cases k' with
        | saveState | lastSave => rfl
        | baseFlow | floorCeiling | thermalFloor | quietEntry | pulse | space | adjacency | contactEnabled | damperTimeout =>
          exact nomatch zone
        | placement | ratedRpm | pulses | minSpeed | startWindow | retryWait | retryLimit | action | homeZone => exact nomatch chan
        | _ => exact nomatch here

/-! ### Every other item stays -/

/-- The adjacency of two zones, set or cleared, leaves every item but the masks of the two. -/
theorem itemValue_setAdjacent {a b : Zone} {on : Bool} (first : k' ≠ .adjacency a) (second : k' ≠ .adjacency b) :
    itemValue { st with cfg := st.cfg.setAdjacent a b on } k' = itemValue st k' := by
  have masks (u : ConfigStore) (z : Zone) (m : BitVec 8) (other : k' ≠ .adjacency z) :
      itemValue { u with cfg := u.cfg.setZone z { u.cfg.zones[z] with adjacency := m } } k' = itemValue u k' := by
    refine itemValue_setZone fun g here => ?_
    cases k' with
    | adjacency y => cases here; exact absurd rfl other
    | _ => cases here <;> rfl
  unfold Cfg.setAdjacent
  by_cases same : a = b
  · rw [if_pos same]
  · rw [if_neg same]
    exact (masks { st with cfg := st.cfg.setZone a _ } b _ second).trans (masks st a _ first)

theorem weightPlace_injective {c c' : VehicleClass} {a a' : Activity} (same : weightPlace c a = weightPlace c' a') :
    c = c' ∧ a = a' := by
  revert same
  cases c <;> cases c' <;> cases a <;> cases a' <;> decide

/-- A write of an item of the whole module, of a stall or of a head leaves every other item. -/
theorem wideReading_putValue_other (other : k' ≠ k) {g : Cfg → Nat} (own : (wideReading k).isSome = true)
    (here : wideReading k' = some g) : g (putValue cfg k v) = g cfg := by
  cases k with
  | windowBase => cases k' with | windowBase => exact absurd rfl other | _ => cases here <;> rfl
  | tail => cases k' with | tail => exact absurd rfl other | _ => cases here <;> rfl
  | engineRun => cases k' with | engineRun => exact absurd rfl other | _ => cases here <;> rfl
  | warmUp => cases k' with | warmUp => exact absurd rfl other | _ => cases here <;> rfl
  | anticipationWeight => cases k' with | anticipationWeight => exact absurd rfl other | _ => cases here <;> rfl
  | anticipationLead => cases k' with | anticipationLead => exact absurd rfl other | _ => cases here <;> rfl
  | coStart => cases k' with | coStart => exact absurd rfl other | _ => cases here <;> rfl
  | coFactor => cases k' with | coFactor => exact absurd rfl other | _ => cases here <;> rfl
  | no2Start => cases k' with | no2Start => exact absurd rfl other | _ => cases here <;> rfl
  | no2Factor => cases k' with | no2Factor => exact absurd rfl other | _ => cases here <;> rfl
  | gasCeiling => cases k' with | gasCeiling => exact absurd rfl other | _ => cases here <;> rfl
  | floorTerm => cases k' with | floorTerm => exact absurd rfl other | _ => cases here <;> rfl
  | parking => cases k' with | parking => exact absurd rfl other | _ => cases here <;> rfl
  | level field =>
    cases k' with
    | level field' =>
      cases here
      cases field <;> cases field' <;> trivial
    | _ => cases here <;> cases field <;> rfl
  | weight c a =>
    cases k' with
    | weight c' a' =>
      cases here
      have apart : weightPlace c a ≠ weightPlace c' a' := fun same => by
        obtain ⟨rfl, rfl⟩ := weightPlace_injective same
        exact other rfl
      exact Vector.getElem_set_ne (weightPlace c a).isLt (weightPlace c' a').isLt fun same => apart (Fin.ext same)
    | _ => cases here <;> rfl
  | stall field n =>
    cases k' with
    | stall field' m =>
      cases here
      by_cases same : n = m
      · subst same
        cases field <;> cases field'
        · exact absurd rfl other
        · exact (congrArg (stallValue · .zone) (Vector.getElem_set_self n.isLt)).trans rfl
        · exact (congrArg (stallValue · .enabled) (Vector.getElem_set_self n.isLt)).trans rfl
        · exact absurd rfl other
      · cases field <;>
          exact congrArg (stallValue · field') (Vector.getElem_set_ne n.isLt m.isLt fun k => same (Fin.ext k))
    | _ => cases here <;> cases field <;> rfl
  | headZone h =>
    cases k' with
    | headZone h' =>
      cases here
      have apart : h.val ≠ h'.val := fun same => other (congrArg CfgItem.headZone (Fin.ext same.symm))
      exact congrArg headValue (Vector.getElem_set_ne h.isLt h'.isLt apart)
    | _ => cases here <;> rfl
  | _ => exact nomatch own

/-- A write leaves every item but the one it writes, and with an adjacency that of the other zone (R71, R172). -/
theorem itemValue_putValue_other (other : k' ≠ k) (second : ∀ a, k = .adjacency a → k' ≠ .adjacency (otherZone v)) :
    itemValue { st with cfg := putValue st.cfg k v } k' = itemValue st k' := by
  cases k with
  | adjacency a => exact itemValue_setAdjacent other (second a rfl)
  | baseFlow z =>
    refine itemValue_setZone fun g here => ?_
    cases k' with | baseFlow => cases here; exact absurd rfl other | _ => cases here <;> rfl
  | thermalFloor z =>
    refine itemValue_setZone fun g here => ?_
    cases k' with | thermalFloor => cases here; exact absurd rfl other | _ => cases here <;> rfl
  | quietEntry z =>
    refine itemValue_setZone fun g here => ?_
    cases k' with | quietEntry => cases here; exact absurd rfl other | _ => cases here <;> rfl
  | pulse z =>
    refine itemValue_setZone fun g here => ?_
    cases k' with | pulse => cases here; exact absurd rfl other | _ => cases here <;> rfl
  | space z =>
    refine itemValue_setZone fun g here => ?_
    cases k' with | space => cases here; exact absurd rfl other | _ => cases here <;> rfl
  | contactEnabled z =>
    refine itemValue_setZone fun g here => ?_
    cases k' with | contactEnabled => cases here; exact absurd rfl other | _ => cases here <;> rfl
  | damperTimeout z =>
    refine itemValue_setZone fun g here => ?_
    cases k' with | damperTimeout => cases here; exact absurd rfl other | _ => cases here <;> rfl
  | floorCeiling field z =>
    cases field <;> refine itemValue_setZone fun g here => ?_ <;> cases k' with
      | floorCeiling field' => cases here; cases field' <;> trivial
      | _ => cases here <;> rfl
  | ratedRpm c =>
    refine itemValue_setChan fun g here => ?_
    cases k' with | ratedRpm => cases here; exact absurd rfl other | _ => cases here <;> rfl
  | pulses c =>
    refine itemValue_setChan fun g here => ?_
    cases k' with | pulses => cases here; exact absurd rfl other | _ => cases here <;> rfl
  | minSpeed c =>
    refine itemValue_setChan fun g here => ?_
    cases k' with | minSpeed => cases here; exact absurd rfl other | _ => cases here <;> rfl
  | startWindow c =>
    refine itemValue_setChan fun g here => ?_
    cases k' with | startWindow => cases here; exact absurd rfl other | _ => cases here <;> rfl
  | retryWait c =>
    refine itemValue_setChan fun g here => ?_
    cases k' with | retryWait => cases here; exact absurd rfl other | _ => cases here <;> rfl
  | retryLimit c =>
    refine itemValue_setChan fun g here => ?_
    cases k' with | retryLimit => cases here; exact absurd rfl other | _ => cases here <;> rfl
  | action c =>
    refine itemValue_setChan fun g here => ?_
    cases k' with | action => cases here; exact absurd rfl other | _ => cases here <;> rfl
  | homeZone c =>
    refine itemValue_setChan fun g here => ?_
    cases k' with | homeZone => cases here; exact absurd rfl other | _ => cases here <;> rfl
  | placement field c =>
    cases field <;> refine itemValue_setChan fun g here => ?_ <;> cases k' with
      | placement field' => cases here; cases field' <;> trivial
      | _ => cases here <;> rfl
  | level field =>
    exact itemValue_setWide (by cases field <;> rfl) (by cases field <;> rfl) fun _ => wideReading_putValue_other other rfl
  | stall field n =>
    exact itemValue_setWide (by cases field <;> rfl) (by cases field <;> rfl) fun _ => wideReading_putValue_other other rfl
  | saveState | lastSave => rfl
  | _ => exact itemValue_setWide rfl rfl fun _ => wideReading_putValue_other other rfl

/-! ### The item written -/

theorem clampTo_self {v hi : Nat} (h : v ≤ hi) : clampTo 0 hi v = v := by
  unfold clampTo
  omega

theorem code_clamped {v hi : Nat} (known : decide (hi < v) = false) (small : v < 65536) : clampTo 0 65535 v ≤ hi := by
  rw [clampTo_self (Nat.le_of_lt_succ small)]
  simpa using known

/-- The values an item can hold: those its field can, and the codes that name something (10.1). -/
def storable : CfgItem → Nat → Prop
  | .parking, w => w ≤ 2
  | .contactEnabled _, w | .stall .enabled _, w | .placement .feed _, w | .action _, w => w ≤ 1
  | .stall .zone _, w | .homeZone _, w => w ≤ 7
  | .headZone _, w => w ≤ 7 ∨ w = 65535
  | .placement .role _, w => w = 0 ∨ 256 ≤ w ∧ w ≤ 263 ∨ 512 ≤ w ∧ w ≤ 767
  | .adjacency _, _ | .saveState, _ | .lastSave, _ => False
  | _, _ => True

theorem bit_value {w : Nat} (h : w ≤ 1) : (if (w == 1) = true then 1 else 0) = w := by
  interval_cases w <;> rfl

theorem clampZone_val {w : Nat} (h : w ≤ 7) : (clampZone w).val = w := by
  show min w 7 = w
  omega

theorem headValue_zoneOf {w : Nat} (h : w ≤ 7 ∨ w = 65535) : headValue (zoneOf w) = w := by
  rcases h with h | rfl
  · rw [zoneOf, dif_pos (by omega)]
    rfl
  · rfl

theorem roleValue_roleOf {w : Nat} (h : w = 0 ∨ 256 ≤ w ∧ w ≤ 263 ∨ 512 ≤ w ∧ w ≤ 767) : roleValue (roleOf w) = w := by
  unfold roleOf
  rcases h with rfl | h | h
  · rfl
  · rw [if_neg (by omega), if_pos (by omega)]
    show 256 + min (w % 256) 7 = w
    omega
  · rw [if_neg (by omega), if_neg (by omega)]
    show 512 + w % 256 % 2 ^ 8 = w
    omega

theorem zone_stored {α : Type} (g : ZoneCfg → α) (z : Zone) (zc : ZoneCfg) : g (cfg.setZone z zc).zones[z] = g zc :=
  congrArg g (Cfg.setZone_zones_self cfg z zc)

theorem chan_stored {α : Type} (g : ChanCfg → α) (c : Chan) (cc : ChanCfg) : g (cfg.setChan c cc).channels[c] = g cc :=
  congrArg g (Cfg.setChan_channels_self cfg c cc)

/-- An item reads back as the value put into it. -/
theorem itemValue_putValue_self {w : Nat} (can : storable k w) : itemValue { st with cfg := putValue st.cfg k w } k = w := by
  cases k with
  | parking =>
    have range : w ≤ 2 := can
    interval_cases w <;> rfl
  | level field => cases field <;> rfl
  | weight c a => exact Vector.getElem_set_self (weightPlace c a).isLt
  | headZone h => exact (congrArg headValue (Vector.getElem_set_self h.isLt)).trans (headValue_zoneOf can)
  | stall field n =>
    cases field with
    | enabled => exact (congrArg (stallValue · .enabled) (Vector.getElem_set_self n.isLt)).trans (bit_value can)
    | zone => exact (congrArg (stallValue · .zone) (Vector.getElem_set_self n.isLt)).trans (clampZone_val can)
  | baseFlow z => exact zone_stored ZoneCfg.baseFlow z _
  | thermalFloor z => exact zone_stored ZoneCfg.thermalFloor z _
  | quietEntry z => exact zone_stored ZoneCfg.quietEntry z _
  | pulse z => exact zone_stored ZoneCfg.pulse z _
  | space z => exact zone_stored ZoneCfg.space z _
  | damperTimeout z => exact zone_stored ZoneCfg.damperTimeout z _
  | contactEnabled z => exact (zone_stored (fun zc => if zc.contactEnabled then 1 else 0) z _).trans (bit_value can)
  | floorCeiling field z =>
    cases field with
    | floor => exact zone_stored ZoneCfg.floor z _
    | ceiling => exact zone_stored ZoneCfg.ceiling z _
  | ratedRpm c => exact chan_stored ChanCfg.ratedRpm c _
  | pulses c => exact chan_stored ChanCfg.pulses c _
  | minSpeed c => exact chan_stored ChanCfg.minSpeed c _
  | startWindow c => exact chan_stored ChanCfg.startWindow c _
  | retryWait c => exact chan_stored ChanCfg.retryWait c _
  | retryLimit c => exact chan_stored ChanCfg.retryLimit c _
  | homeZone c => exact (chan_stored (fun cc => cc.homeZone.val) c _).trans (clampZone_val can)
  | action c =>
    have range : w ≤ 1 := can
    rw [itemValue_of_chan (k := .action c) rfl, show (putValue st.cfg (.action c) w).channels[c] = _ from
      Cfg.setChan_channels_self _ c _]
    interval_cases w <;> rfl
  | placement field c =>
    cases field with
    | role => exact (chan_stored (fun cc => roleValue cc.role) c _).trans (roleValue_roleOf can)
    | ratedFlow => exact chan_stored ChanCfg.ratedFlow c _
    | feed =>
      have range : w ≤ 1 := can
      rw [itemValue_of_chan (k := .placement .feed c) rfl, show (putValue st.cfg (.placement .feed c) w).channels[c] = _ from
        Cfg.setChan_channels_self _ c _]
      interval_cases w <;> rfl
  | adjacency z => exact absurd can id
  | saveState | lastSave => exact absurd can id
  | _ => rfl

/-- A clamped role value names a role (R77, R172, log entry 25). -/
theorem clampRole_range {v : Nat} (known : v / 256 ≤ 2) :
    clampRole v = 0 ∨ 256 ≤ clampRole v ∧ clampRole v ≤ 263 ∨ 512 ≤ clampRole v ∧ clampRole v ≤ 767 := by
  unfold clampRole
  split_ifs <;> omega

/-- What a checked value is clamped to can be stored. -/
theorem storable_clampValue (known : badCode k v = false) (small : v < 65536) (plain : ∀ a, k ≠ .adjacency a) :
    storable k (clampValue cfg k v) := by
  cases k with
  | parking | contactEnabled z | action c =>
    exact code_clamped known small
  | stall field n =>
    cases field with
    | enabled =>
      exact code_clamped known small
    | zone => exact (clampTo_spec (Nat.zero_le 7)).1.2
  | homeZone c => exact (clampTo_spec (Nat.zero_le 7)).1.2
  | headZone h =>
    show (if v = 65535 then v else min v 7) ≤ 7 ∨ (if v = 65535 then v else min v 7) = 65535
    split <;> omega
  | placement field c =>
    cases field with
    | role => exact clampRole_range (by simpa [badCode] using known)
    | feed =>
      exact code_clamped known small
    | ratedFlow => trivial
  | adjacency a => exact plain a rfl
  | saveState | lastSave => exact nomatch known
  | level field | floorCeiling field z => cases field <;> trivial
  | _ => trivial

/-- A taken write stores the clamped value, which the item then reads as. -/
theorem itemValue_takeWrite (known : badCode k v = false) (small : v < 65536) (plain : ∀ a, k ≠ .adjacency a) :
    itemValue (takeWrite s k v).store k = clampValue s.cfg k v := by
  rw [takeWrite_store]
  exact itemValue_putValue_self (st := s.store) (storable_clampValue known small plain)

/-! ### Checks -/

theorem badCode_iff : badCode k v = true ↔ namesNothing k v := by
  cases k with
  | stall field n | placement field n => cases field <;> simp [badCode, namesNothing]
  | _ => simp [badCode, namesNothing]

theorem heldBack_iff : heldBack s k = true ↔ refusedNow s k := by
  cases k with
  | stall field n => simp [heldBack, refusedNow, occupied, Option.isSome_iff_ne_none]
  | placement field c => simp [heldBack, refusedNow]
  | _ => simp [heldBack, refusedNow]

/-! ### The row of a write -/

section Rows

variable {i : Instr} {item index value : Nat}

/-- A write that the checks refuse is answered so and changes the port alone. -/
theorem write_refused (r : ready s) (write : writeOf i = some (item, index, value)) {status : Status}
    (refused : writeAt (s.taken i) item index value = refuse (s.taken i) status) :
    ∃ t, exec i s = .next t ∧ answering s t 0x38 status [] ∧ onlyChanges [.port, .inFlight] s t := by
  obtain ⟨t, eq, answer, -, frame⟩ :=
    onRequest_refused (i := i) (code := 0x38) (f := fun s => writeAt s item index value) r refused
  exact ⟨t, (exec_of_writeOf write s).trans eq, answer, frame⟩

/-- The state a taken write leaves, answered. -/
def writeAnswered (i : Instr) (s : State) (item index value : Nat) (k : CfgItem) : State :=
  (takeWrite (s.taken i) k value).respond
    { code := 0x38, status := if wasClamped s.cfg k value then .doneClamped else .done
      payload := itemAnswer (takeWrite (s.taken i) k value).store item index k }

theorem write_taken (r : ready s) (write : writeOf i = some (item, index, value)) (named : itemOf item index = some k)
    (known : badCode k value = false) (held : heldBack s k = false) :
    exec i s = .next (writeAnswered i s item index value k) := by
  rw [exec_of_writeOf write]
  refine (onRequest_of_ready r).trans ?_
  have passes : writeFault (s.taken i) k value = none := by
    show firstFault [(badCode k value, .fieldRange), (heldBack s k, .notNow)] = none
    rw [known, held]
    rfl
  have taken : writeAt (s.taken i) item index value =
      (takeWrite (s.taken i) k value, if wasClamped s.cfg k value then .doneClamped else .done,
        itemAnswer (takeWrite (s.taken i) k value).store item index k) := by
    unfold writeAt
    rw [named]
    show writeItem (s.taken i) item index value k = _
    unfold writeItem
    rw [passes]
    rfl
  rw [taken]
  rfl

theorem otherZone_clampAdjacency (a : Zone) (v : Nat) : otherZone (clampAdjacency a v) = otherZone v := by
  apply Fin.ext
  show min ((256 * min (v / 256) 7 + if otherZone v = a then 0 else v % 256) / 256) 7 = min (v / 256) 7
  split <;> omega

theorem actOnWrite_port (s : State) (k : CfgItem) (v : Nat) : (actOnWrite s k v).port = s.port :=
  actOnWrite_onlyChanges s k v .port (by decide)

theorem actOnWrite_inFlight (quiet : ∀ n, k ≠ .contactEnabled n) (s : State) (v : Nat) : (actOnWrite s k v).inFlight = s.inFlight := by
  unfold actOnWrite
  split
  · rfl
  · rw [raiseCommanded_onlyChanges _ _ .inFlight (by decide)]
  · exact absurd rfl (quiet _)
  · rfl

theorem writeAnswered_taken (known : badCode k value = false) :
    writeTaken i s (writeAnswered i s item index value k) item index value k := by
  have frame : onlyChanges [.roster, .fans, .fire, .store, .port, .inFlight] s (writeAnswered i s item index value k) :=
    onlyChanges_trans (onlyChanges_mono (taken_onlyChanges s i) (by simp))
      (onlyChanges_trans (onlyChanges_mono (setCfg_onlyChanges _ _) (by simp))
        (onlyChanges_trans (onlyChanges_mono (actOnWrite_onlyChanges _ _ _) (by simp))
          (onlyChanges_mono (respond_onlyChanges _ _) (by simp))))
  have store : (writeAnswered i s item index value k).store =
      { s.store with cfg := putValue s.cfg k (clampValue s.cfg k value) } := takeWrite_store (s.taken i) k value
  refine ⟨⟨if wasClamped s.cfg k value then .doneClamped else .done, by split <;> simp, ?_⟩, frame, ?_, fun k' other second => ?_,
    fun quiet => ?_⟩
  · have port : (takeWrite (s.taken i) k value).port = s.port := actOnWrite_port _ k _
    unfold answering
    rw [← port]
    rfl
  · rw [store]
  · rw [store]
    refine itemValue_putValue_other (st := s.store) other fun a own same => ?_
    subst own
    exact second a _ rfl same (congrArg Fin.val (otherZone_clampAdjacency a value))
  · have flight : (takeWrite (s.taken i) k value).inFlight = s.inFlight.erase i := actOnWrite_inFlight quiet _ _
    show (takeWrite (s.taken i) k value).inFlight ++ [.responseSent] = _
    rw [flight]

end Rows

/-- Settles O55: the checks in their order, then the write, which changes its own item alone. -/
theorem configurationWritesAreChecked : Obligations.ConfigurationWritesAreChecked := by
  intro i item index value s write r _ _
  cases named : itemOf item index with
  | none =>
    obtain ⟨t, eq, answer, frame⟩ := write_refused (status := .fieldRange) r write (by unfold writeAt; rw [named])
    exact ⟨t, eq, fun _ => ⟨answer, frame⟩, nofun⟩
  | some k =>
    have item' {u : State} : writeAt u item index value = writeItem u item index value k := by unfold writeAt; rw [named]
    cases known : badCode k value with
    | true =>
      obtain ⟨t, eq, answer, frame⟩ := write_refused (status := .fieldRange) r write (by
        rw [item']
        unfold writeItem writeFault
        rw [known]
        rfl)
      refine ⟨t, eq, nofun, fun k' here => ?_⟩
      cases here
      exact ⟨fun _ => ⟨answer, frame⟩, fun names => absurd (badCode_iff.mp known) names, fun names => absurd (badCode_iff.mp known) names⟩
    | false =>
      have names : ¬ namesNothing k value := fun nothing => nomatch (badCode_iff.mpr nothing).symm.trans known
      cases held : heldBack s k with
      | true =>
        obtain ⟨t, eq, answer, frame⟩ := write_refused (status := .notNow) r write (by
          rw [item']
          unfold writeItem writeFault
          rw [known, show heldBack (s.taken i) k = true from held]
          rfl)
        refine ⟨t, eq, nofun, fun k' here => ?_⟩
        cases here
        exact ⟨fun nothing => absurd nothing names, fun _ _ => ⟨answer, frame⟩, fun _ now => absurd (heldBack_iff.mp held) now⟩
      | false =>
        refine ⟨_, write_taken r write named known held, nofun, fun k' here => ?_⟩
        cases here
        exact ⟨fun nothing => absurd nothing names, fun _ refused => (nomatch (heldBack_iff.mpr refused).symm.trans held),
          fun _ _ => writeAnswered_taken known⟩

/-! ### Clamping -/

theorem clampValue_plain {lo hi : Nat} (range : plainRange k = some (lo, hi)) : clampValue cfg k v = min hi (max lo v) := by
  cases k with
  | stall field n | placement field n =>
    cases field <;> cases range
    all_goals rfl
  | floorCeiling field n | level field => cases field <;> exact nomatch range
  | _ => cases range <;> rfl

theorem clampRole_eq {v : Nat} (known : v / 256 ≤ 2) :
    clampRole v = if v < 256 then 0 else if v < 512 then 256 + min (v - 256) 7 else if v = 512 then 513 else v := by
  unfold clampRole
  split_ifs <;> omega

theorem nearestLimit_eq (v : Nat) :
    nearestLimit v = if v < 2 then 1 else if v < 3 then 2 else if v < 6 then 4 else 8 := by
  unfold nearestLimit
  split_ifs <;> omega

/-- The role stored by a taken write (10.1, item 50). -/
theorem roleOf_clampRole_cases {v : Nat} (known : v / 256 ≤ 2) :
    (v < 256 → roleOf (clampRole v) = .unused) ∧
      (∀ z : Zone, 256 ≤ v → v < 512 → z.val = min (v - 256) 7 → roleOf (clampRole v) = .zone z) ∧
      (v = 512 → roleOf (clampRole v) = .standby 1#8) ∧
      (512 < v → roleOf (clampRole v) = .standby (BitVec.ofNat 8 (v - 512))) := by
  rw [clampRole_eq known]
  refine ⟨fun low => ?_, fun z above below named => ?_, fun empty => ?_, fun reach => ?_⟩
  · rw [if_pos low]
    rfl
  · rw [if_neg (by omega), if_pos below, ← named]
    have high : (256 + z.val) / 256 = 1 := by omega
    unfold roleOf
    rw [if_neg (by omega), if_pos high]
    refine congrArg Role.zone (Fin.ext ?_)
    show min ((256 + z.val) % 256) 7 = z.val
    omega
  · subst empty
    rfl
  · rw [if_neg (by omega), if_neg (by omega), if_neg (by omega)]
    unfold roleOf
    rw [if_neg (by omega), if_neg (by omega)]
    exact congrArg (fun n => Role.standby (BitVec.ofNat 8 n)) (by omega)

/-- The masks that a taken adjacency write leaves (R71). -/
theorem adjacency_stored (a : Zone) (known : v % 256 ≤ 1) {b : Zone} (named : b.val = min (v / 256) 7) (law : AdjacencyLaw cfg) :
    let cfg' := putValue cfg (.adjacency a) (clampValue cfg (.adjacency a) v)
    cfg'.zones[a].adjacency.getLsbD b.val = (v % 256 == 1 && a != b) ∧
      cfg'.zones[b].adjacency.getLsbD a.val = (v % 256 == 1 && a != b) ∧
      ∀ x y : Zone, ¬(x = a ∧ y = b) → ¬(x = b ∧ y = a) →
        cfg'.zones[x].adjacency.getLsbD y.val = cfg.zones[x].adjacency.getLsbD y.val := by
  have other : otherZone v = b := Fin.ext named.symm
  have put : putValue cfg (.adjacency a) (clampValue cfg (.adjacency a) v) =
      cfg.setAdjacent a b (clampAdjacency a v % 256 == 1) := by
    show cfg.setAdjacent a (otherZone (clampAdjacency a v)) _ = _
    rw [otherZone_clampAdjacency, other]
    rfl
  intro cfg'
  show (putValue cfg (.adjacency a) _).zones[a].adjacency.getLsbD b.val = _ ∧
    (putValue cfg (.adjacency a) _).zones[b].adjacency.getLsbD a.val = _ ∧ ∀ x y : Zone, _ → _ →
      (putValue cfg (.adjacency a) _).zones[x].adjacency.getLsbD y.val = _
  rw [put]
  by_cases same : a = b
  · subst same
    have none : cfg.setAdjacent a a (clampAdjacency a v % 256 == 1) = cfg := if_pos rfl
    rw [none]
    have own := (law a a).2
    exact ⟨by rw [own]; simp, by rw [own]; simp, fun _ _ _ _ => rfl⟩
  · have on : (clampAdjacency a v % 256 == 1) = (v % 256 == 1) := by
      unfold clampAdjacency
      rw [if_neg (by rw [other]; exact Ne.symm same)]
      congr 1
      omega
    rw [on]
    refine ⟨?_, ?_, fun x y first second => ?_⟩
    · rw [setAdjacent_getLsbD same, if_pos (.inl ⟨rfl, rfl⟩)]
      simp [same]
    · rw [setAdjacent_getLsbD same, if_pos (.inr ⟨rfl, rfl⟩)]
      simp [same]
    · rw [setAdjacent_getLsbD same, if_neg (by tauto)]

theorem wasClamped_plain (plain : ∀ a, k ≠ .adjacency a) : wasClamped cfg k v = true ↔ clampValue cfg k v ≠ v := by
  cases k with
  | adjacency a => exact absurd rfl (plain a)
  | _ => simp [wasClamped]

theorem wasClamped_adjacency (a : Zone) {b : Zone} (named : b.val = min (v / 256) 7) :
    wasClamped cfg (.adjacency a) v = true ↔ 7 < v / 256 ∨ a = b := by
  have other : otherZone v = b := Fin.ext named.symm
  have value : clampValue cfg (.adjacency a) v = 256 * b.val + if b = a then 0 else v % 256 := by
    show 256 * (otherZone v).val + (if otherZone v = a then 0 else v % 256) = _
    rw [other]
  have whole : wasClamped cfg (.adjacency a) v = (clampValue cfg (.adjacency a) v != v || otherZone v == a) := rfl
  rw [whole, value, other]
  by_cases same : b = a
  · simp [same]
  · rw [if_neg same]
    have apart : a ≠ b := Ne.symm same
    simp only [same, apart, beq_iff_eq, Bool.or_eq_true, bne_iff_ne, or_false]
    omega

/-! ### The effects of a write -/

theorem raiseCommanded_eq (s : State) (c : Chan) :
    raiseCommanded s c =
      s.setFan c
        (if s.fans[c].runOutput && decide (s.fans[c].commanded < s.store.cfg.channels[c].minSpeed) then
          { s.fans[c] with commanded := s.store.cfg.channels[c].minSpeed }
        else s.fans[c]) := by
  unfold raiseCommanded State.chan
  dsimp only
  split
  · rfl
  · show s = { s with fans := s.fans.set c s.fans[c] }
    rw [show s.fans.set c s.fans[c] = s.fans from Vector.set_getElem_self c.isLt]

theorem raised_eq (r : FanRecord) (low : Nat) :
    (if r.runOutput && decide (r.commanded < low) then { r with commanded := low } else r) =
      { r with commanded := if r.runOutput = true then max r.commanded low else r.commanded } := by
  obtain ⟨state, target, output, commanded, measured, goodGates, lowGates, stopReason, lastFailure, retryCount, timer, settle, window,
    failedCondition⟩ := r
  cases output with
  | false => rfl
  | true =>
    by_cases below : commanded < low
    · simp only [below, decide_true, Bool.and_self, if_true, Nat.max_eq_right (Nat.le_of_lt below)]
    · simp only [below, decide_false, Bool.and_false, Bool.false_eq_true, if_false, if_true, Nat.max_eq_left (Nat.not_lt.mp below)]

theorem takeWrite_minSpeed_fans (s : State) (c : Chan) (v : Nat) :
    (takeWrite s (.minSpeed c) v).fans = s.fans.set c
      { s.fans[c] with
        commanded :=
          if s.fans[c].runOutput = true then max s.fans[c].commanded (min 60 (max 15 v)) else s.fans[c].commanded } := by
  have low : (putValue s.cfg (.minSpeed c) (clampValue s.cfg (.minSpeed c) v)).channels[c].minSpeed = min 60 (max 15 v) :=
    chan_stored ChanCfg.minSpeed c _
  rw [← raised_eq, ← low]
  show (raiseCommanded (s.setCfg (putValue s.cfg (.minSpeed c) (clampValue s.cfg (.minSpeed c) v))) c).fans = _
  rw [raiseCommanded_eq]
  rfl

theorem takeWrite_tail_stall (s : State) (v : Nat) (j : StallIdx) :
    (takeWrite s .tail v).roster.stalls[j] = shortenResidue (min 63 (max 0 v)) s.roster.stalls[j] :=
  Vector.getElem_map _ _

theorem shortenResidue_eq (e : StallEntry) (v : Nat) :
    shortenResidue (min 63 (max 0 v)) e =
      { e with steps := min e.steps (min 63 v), level := if v = 0 ∧ 0 < e.steps then 0 else e.level } := by
  unfold shortenResidue
  have tail : min 63 (max 0 v) = min 63 v := by omega
  rw [tail]
  split
  · rename_i longer
    rw [Nat.min_eq_right (Nat.le_of_lt longer)]
    have zero : min 63 v = 0 ↔ v = 0 ∧ 0 < e.steps := by omega
    simp only [zero]
  · rename_i fits
    rw [Nat.min_eq_left (Nat.not_lt.mp fits), if_neg (by omega)]

theorem takeWrite_roster (other : k ≠ .tail) (s : State) (v : Nat) : (takeWrite s k v).roster = s.roster := by
  unfold takeWrite actOnWrite
  split
  · exact absurd rfl other
  · exact raiseCommanded_onlyChanges _ _ .roster (by decide)
  · exact enableContact_onlyChanges _ _ _ .roster (by decide)
  · rfl

/-- Settles O56: the clamped value of each item, what the item then reads as, and the write's effects. -/
theorem writtenValuesAreClamped : Obligations.WrittenValuesAreClamped := by
  intro i item index value s k write r law small named names now
  have known : badCode k value = false := Bool.eq_false_iff.mpr fun code => names (badCode_iff.mp code)
  have held : heldBack s k = false := Bool.eq_false_iff.mpr fun held => now (heldBack_iff.mp held)
  obtain ⟨⟨wide, zones, channels, adjacent⟩, -⟩ := law
  obtain ⟨-, -, -, -, -, -, -, -, -, -, -, -, coHigh, coOrder, no2High, no2Order, -⟩ := wide
  have store : (writeAnswered i s item index value k).store =
      { s.store with cfg := putValue s.cfg k (clampValue s.cfg k value) } := takeWrite_store (s.taken i) k value
  have reads (plain : ∀ a, k ≠ .adjacency a) :
      itemValue (writeAnswered i s item index value k).store k = clampValue s.store.cfg k value := by
    rw [store]
    exact itemValue_putValue_self (st := s.store) (storable_clampValue known small plain)
  have clamped : (if wasClamped s.cfg k value then Status.doneClamped else .done) = .doneClamped ↔ wasClamped s.cfg k value = true := by
    cases wasClamped s.cfg k value <;> simp
  refine ⟨_, _, write_taken r write named known held, rfl, fun lo hi range => ?_, ?_, ?_, ?_, ?_, ?_, ?_, ?_, ?_, ?_, fun code => ?_,
    ?_, fun plain => ?_, ?_, ?_, fun other => takeWrite_roster other _ _⟩
  · rw [reads (by rintro a rfl; exact nomatch range)]
    exact clampValue_plain range
  · rintro z rfl
    rw [reads nofun]
    show min (min 20000 (max 0 value)) s.store.cfg.zones[z].ceiling = _
    omega
  · rintro z rfl
    obtain ⟨-, floor, -⟩ := zones z
    rw [reads nofun]
    show max (min 60000 (max 0 value)) s.store.cfg.zones[z].floor = _
    omega
  · rintro rfl
    rw [reads nofun]
    show max (min 500 (max 0 value)) s.store.cfg.coClear = _
    omega
  · rintro rfl
    rw [reads nofun]
    show min (min 500 (max 0 value)) s.store.cfg.coHigh = _
    omega
  · rintro rfl
    rw [reads nofun]
    show max (min 200 (max 0 value)) s.store.cfg.no2Clear = _
    omega
  · rintro rfl
    rw [reads nofun]
    show min (min 200 (max 0 value)) s.store.cfg.no2High = _
    omega
  · rintro c rfl
    rw [reads nofun]
    exact nearestLimit_eq value
  · rintro h rfl
    rw [reads nofun]
    show (if value = 65535 then value else min value 7) = _
    split <;> simp_all
  · rintro c rfl
    have code : value / 256 ≤ 2 := by simpa [badCode] using known
    have role : (writeAnswered i s item index value (.placement .role c)).store.cfg.channels[c].role = roleOf (clampRole value) := by
      rw [store]
      exact chan_stored ChanCfg.role c _
    rw [role, reads nofun]
    obtain ⟨unused, own, empty, standby⟩ := roleOf_clampRole_cases code
    exact ⟨unused, own, empty, standby, clampRole_eq code⟩
  · have whole : clampTo 0 65535 value = value := clampTo_self (Nat.le_of_lt_succ small)
    rcases code with rfl | ⟨z, rfl⟩ | ⟨n, rfl⟩ | ⟨c, rfl⟩ | ⟨c, rfl⟩ <;> rw [reads nofun] <;> exact whole
  · rintro a b rfl other
    have bit : value % 256 ≤ 1 := by simpa [badCode] using known
    obtain ⟨first, second, rest⟩ := adjacency_stored a bit other adjacent
    rw [store]
    exact ⟨first, second, rest, clamped.trans (wasClamped_adjacency a other)⟩
  · rw [clamped, wasClamped_plain plain, reads plain]
    rfl
  · rintro n rfl
    exact takeWrite_minSpeed_fans _ n value
  · rintro rfl j
    exact (takeWrite_tail_stall _ value j).trans (shortenResidue_eq _ value)

/-! ### Reading, saving and restarting -/

theorem readConfig_answered (r : ready s) (item index : Nat) :
    ∃ t, exec (.readConfig item index) s = .next t ∧ onlyChanges [.port, .inFlight] s t ∧
      (itemOf item index = none → answering s t 0x39 .fieldRange []) ∧
      ∀ k, itemOf item index = some k →
        answering s t 0x39 .done (bytesOf 1 item ++ bytesOf 1 index ++ bytesOf 2 (itemValue s.store k)) := by
  cases named : itemOf item index with
  | none =>
    obtain ⟨t, eq, answer, -, frame⟩ := onRequest_refused (i := .readConfig item index) (code := 0x39) (status := .fieldRange)
      (f := fun s => readConfigAt s item index) r (by unfold readConfigAt; rw [named])
    exact ⟨t, eq, frame, fun _ => answer, nofun⟩
  | some k =>
    obtain ⟨t, eq, answer, -, frame⟩ := onRequest_read (i := .readConfig item index) (code := 0x39)
      (payload := itemAnswer s.store item index k) (f := fun s => readConfigAt s item index) r (by unfold readConfigAt; rw [named]; rfl)
    exact ⟨t, eq, frame, nofun, fun k' here => Option.some.inj here ▸ answer⟩

theorem saveConfig_answered (r : ready s) :
    ∃ t, exec .saveConfig s = .next t ∧ onlyChanges [.store, .port, .inFlight] s t ∧ sent .saveConfig s t [.responseSent] ∧
      (s.store.saving = none → t.store = { s.store with saving := some s.store.cfg } ∧ answering s t 0x3A .done []) ∧
      (s.store.saving ≠ none → t.store = s.store ∧ answering s t 0x3A .busy []) := by
  cases saving : s.store.saving with
  | some copy =>
    obtain ⟨t, eq, answer, sends, frame⟩ := onRequest_refused (i := .saveConfig) (code := 0x3A) (status := .busy) (f := saveConfigNow) r
      (by unfold saveConfigNow; rw [taken_store, saving])
    exact ⟨t, eq, onlyChanges_mono frame (by simp), sends, nofun, fun _ => ⟨frame .store (by simp), answer⟩⟩
  | none =>
    obtain ⟨t, eq, rfl, answer, sends, frame⟩ := onRequest_answered (i := .saveConfig) (code := 0x3A) (l := []) (f := saveConfigNow)
      (u := (s.taken .saveConfig).setStore { s.store with saving := some s.cfg }) (parts := [.store]) r
      (by unfold saveConfigNow; rw [taken_store, saving]; rfl) (setStore_onlyChanges _ _) rfl (by simp)
    exact ⟨_, eq, onlyChanges_mono frame (by simp), sends, fun _ => ⟨rfl, answer⟩, fun busy => absurd rfl busy⟩

theorem saveComplete_eq (power : s.powered = true) {copy : Cfg} (saving : s.store.saving = some copy) (readBack : ReadBack) :
    exec (.saveComplete readBack) s =
      .next ((s.taken (.saveComplete readBack)).setStore (completeSave s.store copy readBack)) := by
  show execSaveComplete readBack s = _
  refine onEvent_eq_next_iff.mpr (.inl ⟨power, ?_⟩)
  rw [taken_store, saving]

theorem saveComplete_onlyChanges (readBack : ReadBack) (st : ConfigStore) :
    onlyChanges [.store, .inFlight] s ((s.taken (.saveComplete readBack)).setStore st) :=
  onlyChanges_trans (onlyChanges_mono (taken_onlyChanges _ _) (by simp)) (onlyChanges_mono (setStore_onlyChanges _ _) (by simp))

theorem refusesRestart_iff {m : ZoneMode} :
    m.refusesRestart = true ↔ m = .fireExtract ∨ m = .smokeHold ∨ m = .manualOn ∨ m = .manualOff := by
  cases m <;> decide

theorem restartEvents_perm :
    (restartEvents ++ [Instr.responseSent]).Perm
      ([Instr.rosterRestart, .fanRestart, .allocatorRestart, .hazardRestart, .responseSent] ++
        (List.finRange 8).map Instr.zoneRestart) := by
  decide

theorem restart_refused (r : ready s) {z : Zone} (held : s.zones[z].mode.refusesRestart = true) :
    ∃ t, exec .restart s = .next t ∧ answering s t 0x3F .notNow [] ∧ sent .restart s t [.responseSent] ∧
      onlyChanges [.port, .inFlight] s t := by
  refine onRequest_refused (i := .restart) (code := 0x3F) (f := restartNow) r (if_pos ?_)
  exact List.any_eq_true.mpr ⟨z, mem_allZones z, held⟩

theorem restart_taken (r : ready s) (free : ∀ z : Zone, s.zones[z].mode.refusesRestart = false) :
    ∃ t, exec .restart s = .next t ∧ answering s t 0x3F .done [] ∧ sent .restart s t (restartEvents ++ [.responseSent]) ∧
      onlyChanges [.port, .inFlight] s t := by
  have clear : ¬(allZones.any fun z => (s.taken .restart).zones[z].mode.refusesRestart) = true := fun any => by
    obtain ⟨z, -, held⟩ := List.any_eq_true.mp any
    exact nomatch held.symm.trans (free z)
  obtain ⟨t, eq, -, answer, sends, frame⟩ := onRequest_answered (i := .restart) (code := 0x3F) (l := restartEvents) (f := restartNow)
    (u := (s.taken .restart).emit restartEvents) (parts := [.inFlight]) r (if_neg clear) (emit_onlyChanges _ _) rfl rfl
  exact ⟨t, eq, answer, sends, onlyChanges_mono frame (by simp)⟩

/-- Settles O57: the reads and the saves by the store they find, and a restart by the zones' modes. -/
theorem readSaveAndRestart : Obligations.ReadSaveAndRestart := by
  refine fun s => ⟨fun r => readConfig_answered r, saveConfig_answered, fun power copy saving => ⟨?_, fun readBack differs => ?_⟩,
    fun r => ?_⟩
  · exact ⟨_, saveComplete_eq power saving .equal, saveComplete_onlyChanges _ _, rfl⟩
  · refine ⟨_, saveComplete_eq power saving readBack, saveComplete_onlyChanges _ _, ?_⟩
    cases readBack with
    | equal => exact absurd rfl differs
    | differsDamaged | differsIntact => rfl
  · by_cases held : ∃ z : Zone, s.zones[z].mode.refusesRestart = true
    · obtain ⟨z, refuses⟩ := held
      obtain ⟨t, eq, answer, sends, frame⟩ := restart_refused r refuses
      refine ⟨t, eq, frame, fun _ => ⟨answer, sends⟩, fun modes => ?_⟩
      have free := modes z
      rcases refusesRestart_iff.mp refuses with k | k | k | k <;> rw [k] at free <;> exact absurd free (by decide)
    · obtain ⟨t, eq, answer, sends, frame⟩ := restart_taken r fun z => Bool.eq_false_iff.mpr fun k => held ⟨z, k⟩
      refine ⟨t, eq, frame, fun ⟨z, k⟩ => absurd ⟨z, refusesRestart_iff.mpr k⟩ held, fun _ => ⟨answer, _, sends, restartEvents_perm⟩⟩

end Sys2Proof.Machine

/-! Every command and every second keeps the laws of the fans, their queues and their permits. -/

namespace Sys2Proof.Machine

open State

variable {s t : State} {c : Chan} {i : Instr}

/-! ### Writes -/

theorem fansLaw_readsCfg : ReadsCfg [.fans, .queueA, .queueB] FansLaw := by
  intro s t cfg same law
  refine fansLaw_congr (same .fans (by simp)) (fun f => ?_) (fun c => cfg ▸ law.record c) (fun c => .inr ?_) law
  · cases f
    · exact same .queueA (by simp)
    · exact same .queueB (by simp)
  · unfold feedOf State.chan
    rw [cfg]

theorem StoreLaw.low (store : StoreLaw s.store) (c : Chan) : s.store.cfg.channels[c].minSpeed ≤ 100 := by
  obtain ⟨⟨-, -, channels, -⟩, -⟩ := store
  obtain ⟨-, -, -, ⟨-, high⟩, -⟩ := channels c
  omega

/-- A record whose commanded speed is raised to a speed keeps its law, under its own minimum and under that speed (R80). -/
theorem raised_law {low high floor : Nat} {r : FanRecord} (own : FanRecordLaw low r) (range : high ≤ 100)
    (within : floor ≤ low ∨ floor ≤ high) :
    FanRecordLaw floor { r with commanded := if r.runOutput = true then max r.commanded high else r.commanded } := by
  obtain ⟨output, speed, turning, service, on⟩ := own
  refine ⟨output, fun off => ?_, fun isOn => ?_, service, on⟩
  · show (if r.runOutput = true then max r.commanded high else r.commanded) = 0
    rw [if_neg (Bool.eq_false_iff.mp off)]
    exact speed off
  · show floor ≤ (if r.runOutput = true then max r.commanded high else r.commanded) ∧
      (if r.runOutput = true then max r.commanded high else r.commanded) ≤ 100
    have bounds := turning isOn
    rw [if_pos isOn]
    omega

/-- A write changes the feed of its own channel alone. -/
theorem putValue_feed {k : CfgItem} (st : ConfigStore) (other : k ≠ .placement .feed c) (v : Nat) :
    (putValue st.cfg k v).channels[c].feed = st.cfg.channels[c].feed := by
  have same : itemValue { st with cfg := putValue st.cfg k v } (.placement .feed c) = itemValue st (.placement .feed c) :=
    itemValue_putValue_other (Ne.symm other) nofun
  rw [itemValue_of_chan (k := .placement .feed c) rfl, itemValue_of_chan (k := .placement .feed c) rfl] at same
  revert same
  dsimp only
  cases (putValue st.cfg k v).channels[c].feed <;> cases st.cfg.channels[c].feed <;> decide

theorem putValue_minSpeed {k : CfgItem} (st : ConfigStore) (other : k ≠ .minSpeed c) (v : Nat) :
    (putValue st.cfg k v).channels[c].minSpeed = st.cfg.channels[c].minSpeed :=
  itemValue_putValue_other (st := st) (k' := .minSpeed c) (Ne.symm other) nofun

theorem takeWrite_fans {k : CfgItem} (other : ∀ c, k ≠ .minSpeed c) (s : State) (v : Nat) : (takeWrite s k v).fans = s.fans := by
  unfold takeWrite actOnWrite
  split
  · rfl
  · exact absurd rfl (other _)
  · exact enableContact_onlyChanges _ _ _ .fans (by decide)
  · rfl

theorem takeWrite_queue (s : State) (k : CfgItem) (v : Nat) (f : Feed) : (takeWrite s k v).queue f = s.queue f := by
  cases f
  · exact actOnWrite_onlyChanges _ _ _ .queueA (by decide)
  · exact actOnWrite_onlyChanges _ _ _ .queueB (by decide)

theorem takeWrite_feed {k : CfgItem} (s : State) (v : Nat) (held : heldBack s k = false) (c : Chan) :
    s.fans[c].state = .service ∨ feedOf (takeWrite s k v) c = feedOf s c := by
  by_cases own : k = .placement .feed c
  · subst own
    exact .inl (by simpa [heldBack] using held)
  · refine .inr ?_
    unfold feedOf State.chan
    rw [takeWrite_store]
    exact putValue_feed s.store own _

/-- A taken write keeps the laws of the fans: a new minimum speed raises a turning fan, and a feed changes in SERVICE alone (R78, R80). -/
theorem takeWrite_fansLaw {k : CfgItem} {v : Nat} (held : heldBack s k = false)
    (law : FansLaw s) : FansLaw (takeWrite s k v) := by
  have low (d : Chan) (other : k ≠ .minSpeed d) :
      (takeWrite s k v).store.cfg.channels[d].minSpeed = s.store.cfg.channels[d].minSpeed := by
    rw [takeWrite_store]
    exact putValue_minSpeed s.store other _
  by_cases speed : ∃ c, k = .minSpeed c
  · obtain ⟨c, rfl⟩ := speed
    have range : min 60 (max 15 v) ≤ 100 := by omega
    have stored : (takeWrite s (.minSpeed c) v).store.cfg.channels[c].minSpeed = min 60 (max 15 v) := by
      rw [takeWrite_store]
      exact chan_stored ChanCfg.minSpeed c _
    have raised := setFan_fansLaw (l := []) law (raised_law (law.record c) range (.inl (Nat.le_refl _))) Iff.rfl Iff.rfl
    rw [emit_nil] at raised
    refine fansLaw_congr (s := s.setFan c _) (takeWrite_minSpeed_fans s c v) (fun f => takeWrite_queue s _ v f) (fun d => ?_) (fun d => ?_) raised
    · by_cases same : d = c
      · subst same
        rw [stored, setFan_fans, show (s.fans.set d _)[d] = _ from Vector.getElem_set_self _]
        exact raised_law (law.record d) range (.inr (Nat.le_refl _))
      · rw [low d (by simpa using Ne.symm same), setFan_fans, show (s.fans.set c _)[d] = s.fans[d] from
          Vector.getElem_set_ne c.isLt d.isLt fun k => same (Fin.ext k.symm)]
        exact law.record d
    · refine .inr ?_
      unfold feedOf State.chan
      rw [takeWrite_store]
      exact putValue_feed (k := .minSpeed c) s.store nofun _
  · have other (d : Chan) : k ≠ .minSpeed d := fun own => speed ⟨d, own⟩
    exact fansLaw_congr (takeWrite_fans other s v) (takeWrite_queue s k v) (fun d => low d (other d) ▸ law.record d)
      (takeWrite_feed s v held) law

/-! ### Every command -/

theorem startingState_fansLaw (store : StoreLaw s.store) : FansLaw (startingState s) := by
  obtain ⟨-, -, fans, -⟩ := starting_lawful store
  exact fans

theorem FansLaw.taken (law : FansLaw s) (i : Instr) : FansLaw (s.taken i) :=
  fansLaw_readsCfg.kept (s := s) (changed := [.inFlight]) rfl (by decide) (taken_onlyChanges s i) law

/-- An event whose effect keeps the laws of the fans. -/
theorem fanEvent_fansLaw {f : State → State} (next : onEvent i s f = .next t) (law : FansLaw s)
    (effect : FansLaw (s.taken i) → FansLaw (f (s.taken i))) : FansLaw t :=
  onEvent_leaves next (law.taken i) (effect (law.taken i))

theorem fanService_fansLaw (law : FansLaw s) (low : ∀ c : Chan, s.store.cfg.channels[c].minSpeed ≤ 100) (channel setting : Nat) :
    FansLaw (fanServiceAt s channel setting).1 := by
  unfold fanServiceAt
  split
  · exact law
  · split
    · exact serviceOff_fansLaw law low _
    · exact serviceOn_fansLaw law low _
    · exact law

theorem tachGate_fansLaw (law : FansLaw s) (low : ∀ c : Chan, s.store.cfg.channels[c].minSpeed ≤ 100) (c : Chan) (measured : Nat) :
    let f := { s.fans[c] with measured := measured }
    FansLaw
      (match f.state with
      | .starting => gateInStarting s c f
      | .running => gateInRunning s c f
      | .stopping => if rundownGate (s.chan c) f then finishRundown (s.setFan c f) c else s.setFan c f
      | _ => s.setFan c f) := by
  intro f
  have counted (r : FanRecord) (state : r.state = s.fans[c].state) (output : r.runOutput = s.fans[c].runOutput)
      (speed : r.commanded = s.fans[c].commanded) (target : r.target = s.fans[c].target) : FansLaw (s.setFan c r) :=
    counted_fansLaw law state output speed target
  cases state : f.state with
  | starting =>
    dsimp only
    unfold gateInStarting
    split
    · split
      · exact startSucceeds_fansLaw law low state measured
      · exact counted _ rfl rfl rfl rfl
    · exact counted _ rfl rfl rfl rfl
  | running =>
    dsimp only
    unfold gateInRunning
    split_ifs
    · exact counted _ rfl rfl rfl rfl
    · exact stopFan_fansLaw law _ _ state
    · exact counted _ rfl rfl rfl rfl
    · exact counted _ rfl rfl rfl rfl
  | stopping =>
    dsimp only
    split
    · refine finishRundown_fansLaw (counted _ rfl rfl rfl rfl) low ?_
      rw [setFan_fans, show (s.fans.set c f)[c] = f from Vector.getElem_set_self _, state]
    · exact counted _ rfl rfl rfl rfl
  | _ => exact counted _ rfl rfl rfl rfl

section Events

variable (law : FansLaw s) (low : ∀ c : Chan, s.store.cfg.channels[c].minSpeed ≤ 100)

include law low

theorem execFanTargets_fansLaw {z : Zone} {targets : List (Chan × FanTarget)} (next : execFanTargets z targets s = .next t) :
    FansLaw t := by
  refine fanEvent_fansLaw next law fun law' => ?_
  have store := takeTargets_onlyChanges z targets (s.taken (.fanTargets z targets)) .store (by decide)
  exact examineTouched_fansLaw (takeTargets_fansLaw z targets _ law' low) (fun c => by rw [store]; exact low c) _

theorem execStandbyOffTarget_fansLaw (next : execStandbyOffTarget c s = .next t) : FansLaw t := by
  refine fanEvent_fansLaw next law fun law' => ?_
  have target := takeTarget_fansLaw (c := c) (target := .off) law' low
  dsimp only
  split
  · exact examine_fansLaw target (fun d => by rw [takeTarget_store]; exact low d) _
  · exact target

theorem execPathCheck_fansLaw (next : execPathCheck c s = .next t) : FansLaw t := by
  refine fanEvent_fansLaw next law fun law' => ?_
  dsimp only
  split
  · rename_i first
    obtain ⟨free, waits⟩ := first
    exact startFan_fansLaw law' (low c) ((law'.mem_iff _ c).mp (List.mem_of_find?_eq_some waits)).1 free
  · exact law'

theorem execTachGateComplete_fansLaw {edges : Nat} (next : execTachGateComplete c edges s = .next t) : FansLaw t :=
  fanEvent_fansLaw next law fun law' => tachGate_fansLaw law' low c _

theorem execStartWindowRunOut_fansLaw (next : execStartWindowRunOut c s = .next t) : FansLaw t := by
  refine fanEvent_fansLaw next law fun law' => ?_
  split
  · rename_i state
    have store : (releasePermit (stopFan (s.taken (.startWindowRunOut c)) c (.failure .startFailed)
        (s.taken (.startWindowRunOut c)).fans[c]) c).store = s.store :=
      releasePermit_onlyChanges _ c .store (by decide)
    exact examine_fansLaw (releasePermit_stopFan_fansLaw law' _ _ state) (fun d => by rw [store]; exact low d) _
  · exact law'

theorem execRundownLimitExpiry_fansLaw (next : execRundownLimitExpiry c s = .next t) : FansLaw t := by
  refine fanEvent_fansLaw next law fun law' => ?_
  split
  · rename_i state
    exact finishRundown_fansLaw law' low state
  · exact law'

theorem execRetryWaitExpiry_fansLaw (next : execRetryWaitExpiry c s = .next t) : FansLaw t := by
  refine fanEvent_fansLaw next law fun law' => ?_
  split
  · rename_i state
    obtain ⟨starting, running, -⟩ := waiting_not_turning (.inr state)
    obtain ⟨output, speed⟩ := law'.resting starting running
    have isOn := law'.target_isOn (.inr (.inl state))
    exact examine_fansLaw (joinQueue_fansLaw law' (waitingRecord_law output speed isOn (.inl rfl)) starting)
      (fun d => by rw [joinQueue_eq, replaced_store]; exact low d) _
  · exact law'

theorem execDamperOpenReport_fansLaw {z : Zone} {f : Feed} (next : execDamperOpenReport z f s = .next t) : FansLaw t :=
  fanEvent_fansLaw next law fun law' => examine_fansLaw law' low f

theorem execGateAtReport_fansLaw {f : Feed} (next : execGateAtReport c f s = .next t) : FansLaw t :=
  fanEvent_fansLaw next law fun law' => examine_fansLaw law' low f

theorem execGrantReport_fansLaw {f : Feed} (next : execGrantReport c f s = .next t) : FansLaw t :=
  fanEvent_fansLaw next law fun law' => examine_fansLaw law' low f

theorem execFanService_fansLaw {channel setting : Nat} (next : execFanService channel setting s = .next t) : FansLaw t :=
  onRequest_leaves fansLaw_readsCfg.reads (by decide) next law (fanService_fansLaw (law.taken _) low channel setting)

end Events

theorem execSettleTimeExpiry_fansLaw (law : FansLaw s) (next : execSettleTimeExpiry c s = .next t) : FansLaw t :=
  fanEvent_fansLaw next law fun law' => counted_fansLaw law' rfl rfl rfl rfl

theorem execCleanRunExpiry_fansLaw (law : FansLaw s) (next : execCleanRunExpiry c s = .next t) : FansLaw t := by
  refine fanEvent_fansLaw next law fun law' => ?_
  split
  · exact counted_fansLaw law' rfl rfl rfl rfl
  · exact law'

theorem execFanRestart_fansLaw (law : FansLaw s) (next : execFanRestart s = .next t) : FansLaw t := by
  refine fanEvent_fansLaw next law fun law' => ?_
  generalize s.taken .fanRestart = u at law' ⊢
  show FansLaw (allChans.foldl restartFan u)
  induction allChans generalizing u with
  | nil => exact law'
  | cons c rest ih => exact ih (restartFan u c) (restartFan_fansLaw law' c)

/-- Every command keeps the laws of the fans under a lawful store. -/
theorem fansLaw_kept (i : Instr) : Keeps (fun s => FansLaw s ∧ StoreLaw s.store) i := by
  refine blockLaw_kept fansLaw_readsCfg (by decide) (fun s => startingState_fansLaw) (fun s k v _ held law _ =>
    takeWrite_fansLaw held law) (fun i write byte start touched s t law store next => ?_) i
  have low := store.low
  cases i with
  | fanTargets z targets => exact execFanTargets_fansLaw law low next
  | standbyOffTarget c => exact execStandbyOffTarget_fansLaw law low next
  | pathCheck c => exact execPathCheck_fansLaw law low next
  | tachGateComplete c edges => exact execTachGateComplete_fansLaw law low next
  | startWindowRunOut c => exact execStartWindowRunOut_fansLaw law low next
  | rundownLimitExpiry c => exact execRundownLimitExpiry_fansLaw law low next
  | retryWaitExpiry c => exact execRetryWaitExpiry_fansLaw law low next
  | damperOpenReport z f => exact execDamperOpenReport_fansLaw law low next
  | gateAtReport c f => exact execGateAtReport_fansLaw law low next
  | grantReport c f => exact execGrantReport_fansLaw law low next
  | fanService channel setting => exact execFanService_fansLaw law low next
  | settleTimeExpiry c => exact execSettleTimeExpiry_fansLaw law next
  | cleanRunExpiry c => exact execCleanRunExpiry_fansLaw law next
  | fanRestart => exact execFanRestart_fansLaw law next
  | powerOn => exact absurd rfl start.1
  | resetLineRelease => exact absurd rfl start.2
  | supervisoryByteReceived b => exact absurd rfl (byte b)
  | writeConfig | windowBaseWrite | tailLengthWrite | gasLevelWrite | floorCeilingWrite | adjacencyWrite | contactEnabledWrite
  | stallMapWrite | channelPlacementWrite | minimumSpeedWrite => exact nomatch write
  | _ => exact absurd (by simp [touches]) touched

theorem tick_store (s : State) :
    s.tick.store = { s.store with seconds := if 59 ≤ s.store.seconds then s.store.seconds else s.store.seconds + 1 } := by
  show s.store.tick = _
  unfold ConfigStore.tick
  split <;> rfl

theorem tick_cfg (s : State) : s.tick.store.cfg = s.store.cfg := by rw [tick_store]

/-- A second keeps the laws of the fans: it counts timers alone. -/
theorem tick_fansLaw (law : FansLaw s) : FansLaw s.tick := by
  obtain ⟨each, queues⟩ := law
  have queue (f : Feed) : s.tick.queue f = s.queue f := by cases f <;> rfl
  have feed (c : Chan) : feedOf s.tick c = feedOf s c := by
    unfold feedOf State.chan
    rw [tick_cfg]
  refine ⟨fun c => ?_, fun f => ?_⟩
  · have own := each c
    unfold FanLaw at own ⊢
    rw [tick_fan, queue, tick_cfg, feed]
    exact own
  · have own := queues f
    unfold QueueLaw at own ⊢
    simp only [tick_fan, queue, feed]
    exact own

theorem tick_storeLaw (law : StoreLaw s.store) : StoreLaw s.tick.store := by
  obtain ⟨cfg, saving, image, minute, seconds⟩ := law
  rw [tick_store]
  refine ⟨cfg, saving, image, minute, ?_⟩
  dsimp only
  split <;> omega

/-- Settles O59: each command's effect on the fans is a replacement of one record and of one queue, which keeps the laws. -/
theorem stepsKeepFanLaws : Obligations.StepsKeepFanLaws := by
  intro s t next law store
  obtain ⟨t', eq, kept, -⟩ := step_keeps (P := fun s => FansLaw s ∧ StoreLaw s.store)
    (fun s l h => ⟨fansLaw_readsCfg s _ rfl (fun p hp => by
      simp only [List.mem_cons, List.not_mem_nil, or_false] at hp
      rcases hp with rfl | rfl | rfl <;> rfl) h.1, h.2⟩)
    (fun s h => ⟨tick_fansLaw h.1, tick_storeLaw h.2⟩) (fun {i s t} h next => fansLaw_kept i s t h next) s ⟨law, store⟩
  cases eq.symm.trans next
  exact kept

end Sys2Proof.Machine

/-! Every command and every second keeps the laws of the roster. -/

namespace Sys2Proof.Machine

open State

variable {s t : State} {i j : StallIdx} {o : Occupant} {e : StallEntry} {cfg : StallCfg} {tail : Nat}

/-! ### Checks that passed -/

theorem eq_true_of_not {b : Bool} (h : (!b) = false) : b = true := by
  cases b with
  | false => exact nomatch h
  | true => rfl

/-- A request passes its checks when every one of them does (R10). -/
theorem firstFault_eq_none {l : List (Bool × Status)} : firstFault l = none ↔ ∀ p ∈ l, p.1 = false := by
  induction l with
  | nil => simp [firstFault]
  | cons p l ih =>
    obtain ⟨holds, status⟩ := p
    cases holds with
    | true => simp [firstFault]
    | false => simpa [firstFault] using ih

theorem stallOfTag_none_iff {tag : Nat} :
    stallOfTag s tag = none ↔ ∀ (j : StallIdx) (o : Occupant), s.roster.stalls[j].occupant = some o → o.tag ≠ tag := by
  refine ⟨fun none j o there tagged => ?_, stallOfTag_eq_none⟩
  have := List.find?_eq_none.mp none j (List.mem_finRange j)
  rw [there] at this
  simp [tagged] at this

theorem stallOfTag_some {tag : Nat} (found : stallOfTag s tag = some i) : ∃ o, s.roster.stalls[i].occupant = some o ∧ o.tag = tag := by
  have holds := List.find?_some found
  cases there : s.roster.stalls[i].occupant with
  | none => rw [there] at holds; exact nomatch holds
  | some o =>
    rw [there] at holds
    exact ⟨o, rfl, by simpa using holds⟩

/-! ### Replaced entries -/

theorem rosterLaw_readsCfg : ReadsCfg [.roster] RosterLaw := by
  intro s t cfg same law
  have roster : t.roster = s.roster := same .roster (by simp)
  unfold RosterLaw
  rw [cfg, roster]
  exact law

theorem RosterLaw.stall (law : RosterLaw s) (i : StallIdx) : StallLaw s.store.cfg.tail s.store.cfg.stalls[i] s.roster.stalls[i] :=
  law.1 i

theorem RosterLaw.occupant (law : RosterLaw s) (there : s.roster.stalls[i].occupant = some o) :
    OccupantLaw s.store.cfg.stalls[i] o := law.2.1 i o there

theorem RosterLaw.tag (law : RosterLaw s) : TagLaw s.roster := law.2.2

/-- A roster whose entries keep their laws, and whose records stand where records with their tags stood, is lawful. -/
theorem rosterLaw_of_entries (law : RosterLaw s)
    (stall : ∀ i : StallIdx, StallLaw t.store.cfg.tail t.store.cfg.stalls[i] t.roster.stalls[i])
    (occupant : ∀ (i : StallIdx) (o : Occupant), t.roster.stalls[i].occupant = some o →
      OccupantLaw t.store.cfg.stalls[i] o ∧ ∃ o', s.roster.stalls[i].occupant = some o' ∧ o.tag = o'.tag) : RosterLaw t := by
  refine ⟨stall, fun i o there => (occupant i o there).1, fun i j o p here there tags => ?_⟩
  obtain ⟨-, o', here', tag⟩ := occupant i o here
  obtain ⟨-, p', there', tag'⟩ := occupant j p there
  exact law.tag i j o' p' here' there' (tag.symm.trans (tags.trans tag'))

theorem setStall_self : (s.setStall i e).roster.stalls[i] = e := Vector.getElem_set_self _

theorem setStall_other (other : j ≠ i) : (s.setStall i e).roster.stalls[j] = s.roster.stalls[j] :=
  Vector.getElem_set_ne i.isLt j.isLt fun same => other (Fin.ext same.symm)

/-- An entry replaced by a lawful one whose record's tag stands at no other stall. -/
theorem setStall_rosterLaw (law : RosterLaw s) (own : StallLaw s.store.cfg.tail s.store.cfg.stalls[i] e)
    (occupant : ∀ o, e.occupant = some o → OccupantLaw s.store.cfg.stalls[i] o)
    (tags : ∀ o, e.occupant = some o → ∀ (j : StallIdx) (p : Occupant), j ≠ i → s.roster.stalls[j].occupant = some p → p.tag ≠ o.tag) :
    RosterLaw (s.setStall i e) := by
  refine ⟨fun j => ?_, fun j o there => ?_, fun j k o p here there same => ?_⟩
  · by_cases at_ : j = i
    · subst at_; rw [setStall_self]; exact own
    · rw [setStall_other at_]; exact law.stall j
  · by_cases at_ : j = i
    · subst at_; rw [setStall_self] at there; exact occupant o there
    · rw [setStall_other at_] at there; exact law.occupant there
  · by_cases first : j = i <;> by_cases second : k = i
    · exact first.trans second.symm
    · subst first
      rw [setStall_self] at here
      rw [setStall_other second] at there
      exact absurd same.symm (tags o here k p second there)
    · subst second
      rw [setStall_self] at there
      rw [setStall_other first] at here
      exact absurd same (tags p there j o first here)
    · rw [setStall_other first] at here
      rw [setStall_other second] at there
      exact law.tag j k o p here there same

/-- A vacated stall. -/
theorem vacate_rosterLaw (law : RosterLaw s) (own : StallLaw s.store.cfg.tail s.store.cfg.stalls[i] e) (vacant : e.occupant = none) :
    RosterLaw (s.setStall i e) :=
  setStall_rosterLaw law own (fun _ there => nomatch vacant.symm.trans there) fun _ there => nomatch vacant.symm.trans there

/-- A record replaced by one with its tag. -/
theorem setRecord_rosterLaw {o' : Occupant} (law : RosterLaw s) (there : s.roster.stalls[i].occupant = some o)
    (own : StallLaw s.store.cfg.tail s.store.cfg.stalls[i] e) (occupant : OccupantLaw s.store.cfg.stalls[i] o')
    (tag : o'.tag = o.tag) : RosterLaw (s.setStall i { e with occupant := some o' }) := by
  refine setStall_rosterLaw law own (fun p here => ?_) fun p here j q other held same => ?_
  · cases here; exact occupant
  · cases here
    exact other (law.tag j i q o held there (same.trans tag))

theorem allowanceFor_isSome (cfg : Cfg) (a : Activity) : (allowanceFor cfg a).isSome = a.isRunning := by cases a <;> rfl

/-- Leaving an activity keeps the residue's laws at an enabled stall (R4, R5). -/
theorem leaveActivity_stallLaw {c : Cfg} (own : StallLaw c.tail cfg e) (enabled : cfg.enabled = true) (o : Occupant) :
    StallLaw c.tail cfg (leaveActivity c o e) := by
  unfold leaveActivity setResidue
  split
  · split
    · exact ⟨Nat.zero_le _, fun _ => rfl, fun positive => absurd positive (Nat.lt_irrefl 0)⟩
    · rename_i length
      refine ⟨?_, fun zero => ?_, fun _ => enabled⟩
      · dsimp only
        split <;> omega
      · dsimp only at zero ⊢
        by_cases none : max (weightOf c o.cls o.activity) (residueTerm c e) = 0
        · exact none
        · rw [if_neg none] at zero
          exact absurd zero length
  · exact own

theorem StallLaw.congr {e' : StallEntry} (own : StallLaw tail cfg e) (steps : e'.steps = e.steps) (level : e'.level = e.level) :
    StallLaw tail cfg e' := by
  unfold StallLaw
  rw [steps, level]
  exact own

/-! ### The commands of the roster -/

theorem RosterLaw.emit (law : RosterLaw s) (l : List Instr) : RosterLaw (s.emit l) := law

theorem RosterLaw.reported (law : RosterLaw s) (i : StallIdx) (before after : Bool) :
    RosterLaw (requestZoneOf (reportThermal s i before after) i) := by
  rw [reportThermal_eq, requestZoneOf_eq]
  exact law

theorem arriveFault_none {tag cls act charger departure : Nat} (passes : arriveFault s i tag cls act charger departure = none)
    {c : VehicleClass} {a : Activity} (class_ : classOfCode cls = some c) (activity : activityOfCode act = some a) :
    s.store.cfg.stalls[i].enabled = true ∧ s.roster.stalls[i].occupant = none ∧ stallOfTag s tag = none ∧ mayHold c a = true ∧
      (charger ≠ 255 → c = .electric) := by
  have checks := firstFault_eq_none.mp passes
  simp only [List.forall_mem_cons, class_, activity, occupied] at checks
  obtain ⟨-, -, enabled, vacant, unheld, may, -⟩ := checks
  rw [Bool.or_eq_false_iff] at may
  refine ⟨eq_true_of_not enabled, by simpa using vacant, by simpa using unheld, by simpa using may.1, fun circuit => ?_⟩
  simpa [circuit] using may.2

theorem arriveAt_rosterLaw (law : RosterLaw s) (label tag cls act charger departure : Nat) :
    RosterLaw (arriveAt s label tag cls act charger departure).1 := by
  unfold arriveAt
  split
  · exact law
  · rename_i i _
    split
    · rename_i c a passes class_ activity
      obtain ⟨enabled, vacant, unheld, may, electric⟩ := arriveFault_none passes class_ activity
      have placed : RosterLaw
          (s.setStall i { s.roster.stalls[i] with occupant := some (arrivingRecord s tag c a charger departure) }) := by
        refine setStall_rosterLaw law ((law.stall i).congr rfl rfl) (fun o there => ?_) fun o there j p _ held => ?_
        · cases there
          refine ⟨enabled, may, fun circuit => electric fun none => ?_, allowanceFor_isSome _ _⟩
          subst none
          exact nomatch circuit
        · cases there
          exact stallOfTag_none_iff.mp unheld j p held
      exact placed.reported i _ _
    · exact law
    · exact law

theorem relocateFault_none {tag : Nat} (passes : relocateFault s tag j = none) :
    s.store.cfg.stalls[j].enabled = true ∧ s.roster.stalls[j].occupant = none := by
  have checks := firstFault_eq_none.mp passes
  simp only [List.forall_mem_cons, occupied] at checks
  obtain ⟨-, -, enabled, vacant, -⟩ := checks
  exact ⟨eq_true_of_not enabled, by simpa using vacant⟩

theorem moveRecord_rosterLaw (law : RosterLaw s) (there : s.roster.stalls[i].occupant = some o)
    (enabled : s.store.cfg.stalls[j].enabled = true) (vacant : s.roster.stalls[j].occupant = none) : RosterLaw (moveRecord s i j) := by
  have apart : j ≠ i := fun same => by
    subst same
    exact nomatch vacant.symm.trans there
  have left : RosterLaw (s.setStall i { s.roster.stalls[i] with occupant := none }) :=
    vacate_rosterLaw law ((law.stall i).congr rfl rfl) rfl
  obtain ⟨-, may, circuit, allowance⟩ := law.occupant there
  unfold moveRecord
  dsimp only
  rw [reportThermal_eq, reportThermal_eq]
  refine ((RosterLaw.emit (setStall_rosterLaw left ?_ (fun p here => ?_) fun p here k q other held => ?_) _).emit _).emit _
  · exact (left.stall j).congr rfl rfl
  · have same : p = o := Option.some.inj (here.symm.trans there)
    subst same
    exact ⟨enabled, may, circuit, allowance⟩
  · have same : p = o := Option.some.inj (here.symm.trans there)
    subst same
    by_cases back : k = i
    · subst back
      rw [setStall_self] at held
      exact nomatch held
    · rw [setStall_other back] at held
      exact fun tags => back (law.tag k i q p held there tags)

theorem relocateTo_rosterLaw (law : RosterLaw s) (tag newLabel : Nat) : RosterLaw (relocateTo s tag newLabel).1 := by
  unfold relocateTo
  split
  · exact law
  · rename_i j _
    split
    · rename_i i passes found
      obtain ⟨enabled, vacant⟩ := relocateFault_none passes
      obtain ⟨o, there, -⟩ := stallOfTag_some found
      exact moveRecord_rosterLaw law there enabled vacant
    · exact law
    · exact law

theorem renewInPlace_occupantLaw (own : OccupantLaw cfg o) (c : Cfg) : OccupantLaw cfg (renewInPlace c o) := by
  obtain ⟨enabled, may, circuit, allowance⟩ := own
  refine ⟨enabled, may, circuit, ?_⟩
  show (if o.activity.isRunning then allowanceFor c o.activity else o.allowance).isSome = o.activity.isRunning
  split
  · exact allowanceFor_isSome c o.activity
  · exact allowance

theorem activityFault_none {act : Nat} {a : Activity} (passes : activityFault s i act = none)
    (there : s.roster.stalls[i].occupant = some o) (activity : activityOfCode act = some a) : mayHold o.cls a = true := by
  have checks := firstFault_eq_none.mp passes
  simp only [List.forall_mem_cons, there, activity] at checks
  obtain ⟨-, -, may, -⟩ := checks
  simpa using may

theorem takeActivity_rosterLaw (law : RosterLaw s) (there : s.roster.stalls[i].occupant = some o) {a : Activity}
    (may : mayHold o.cls a = true) : RosterLaw (takeActivity s i o a) := by
  have own := law.occupant there
  obtain ⟨enabled, -, circuit, -⟩ := id own
  unfold takeActivity
  dsimp only
  split
  · exact setRecord_rosterLaw law there ((law.stall i).congr rfl rfl) (renewInPlace_occupantLaw own _) rfl
  · refine RosterLaw.reported ?_ i _ _
    exact setRecord_rosterLaw law there ((leaveActivity_stallLaw (law.stall i) enabled o).congr rfl rfl)
      ⟨enabled, may, circuit, allowanceFor_isSome _ _⟩ rfl

theorem activityAt_rosterLaw (law : RosterLaw s) (label act : Nat) : RosterLaw (activityAt s label act).1 := by
  unfold activityAt
  split
  · exact law
  · split
    · rename_i o a passes there activity
      exact takeActivity_rosterLaw law there (activityFault_none passes there activity)
    · exact law
    · exact law

theorem renewAt_rosterLaw (law : RosterLaw s) (label : Nat) : RosterLaw (renewAt s label).1 := by
  unfold renewAt
  split
  · exact law
  · rename_i i _
    split
    · exact law
    · rename_i o there
      split
      · exact setRecord_rosterLaw law there ((law.stall i).congr rfl rfl) (renewInPlace_occupantLaw (law.occupant there) _) rfl
      · exact law

theorem setDepartureAt_rosterLaw (law : RosterLaw s) (label departure : Nat) : RosterLaw (setDepartureAt s label departure).1 := by
  unfold setDepartureAt
  split
  · exact law
  · rename_i i _
    split
    · exact law
    · split
      · exact law
      · rename_i o there
        have own : OccupantLaw s.store.cfg.stalls[i] { o with departure := departureOf departure } := by
          obtain ⟨enabled, may, circuit, allowance⟩ := law.occupant there
          exact ⟨enabled, may, circuit, allowance⟩
        have stored : RosterLaw (s.setStall i
            { s.roster.stalls[i] with occupant := some { o with departure := departureOf departure } }) :=
          setRecord_rosterLaw law there ((law.stall i).congr rfl rfl) own rfl
        exact stored.emit _

theorem departAt_rosterLaw (law : RosterLaw s) (label : Nat) : RosterLaw (departAt s label).1 := by
  unfold departAt
  split
  · exact law
  · rename_i i _
    split
    · exact law
    · rename_i o there
      obtain ⟨enabled, -⟩ := law.occupant there
      have left : RosterLaw (s.setStall i { leaveActivity s.cfg o s.roster.stalls[i] with occupant := none }) :=
        vacate_rosterLaw law ((leaveActivity_stallLaw (law.stall i) enabled o).congr rfl rfl) rfl
      exact left.reported i _ _

theorem walkTo_rosterLaw (law : RosterLaw s) (found : Option StallIdx) : RosterLaw (walkTo s found).1 := by
  unfold walkTo
  split
  · exact law
  · exact law

theorem walkFirstFrom_rosterLaw (law : RosterLaw s) (label : Nat) : RosterLaw (walkFirstFrom s label).1 := by
  unfold walkFirstFrom
  split
  · exact law
  · exact walkTo_rosterLaw law _

/-! ### The events of the roster -/

theorem expireAllowance_rosterLaw (law : RosterLaw s) (there : s.roster.stalls[i].occupant = some o) :
    RosterLaw (expireAllowance s i o) := by
  obtain ⟨enabled, -, circuit, -⟩ := law.occupant there
  have parks : mayHold o.cls .parked = true := by cases o.cls <;> rfl
  have parked : RosterLaw (s.setStall i
      { leaveActivity s.cfg o s.roster.stalls[i] with
        occupant := some { o with activity := .parked, since := s.store.minute, allowance := none, lapsed := true } }) :=
    setRecord_rosterLaw law there ((leaveActivity_stallLaw (law.stall i) enabled o).congr rfl rfl) ⟨enabled, parks, circuit, rfl⟩ rfl
  exact parked.emit _

theorem stepResidue_stallLaw (own : StallLaw tail cfg e) : StallLaw tail cfg (stepResidue e) := by
  obtain ⟨steps, zero, enabled⟩ := own
  unfold stepResidue
  split
  · exact ⟨steps, zero, enabled⟩
  · refine ⟨Nat.le_trans (Nat.sub_le _ _) steps, fun last => if_pos last, fun level => enabled ?_⟩
    dsimp only at level
    split at level
    · exact absurd level (Nat.lt_irrefl 0)
    · exact level

theorem shortenResidue_stallLaw (own : StallLaw tail cfg e) (length : Nat) : StallLaw length cfg (shortenResidue length e) := by
  obtain ⟨-, zero, enabled⟩ := own
  unfold shortenResidue
  split
  · refine ⟨Nat.le_refl _, fun none => if_pos none, fun level => enabled ?_⟩
    dsimp only at level
    split at level
    · exact absurd level (Nat.lt_irrefl 0)
    · exact level
  · rename_i fits
    exact ⟨Nat.not_lt.mp fits, zero, enabled⟩

theorem stepResidue_occupant (e : StallEntry) : (stepResidue e).occupant = e.occupant := by
  unfold stepResidue
  split <;> rfl

theorem shortenResidue_occupant (length : Nat) (e : StallEntry) : (shortenResidue length e).occupant = e.occupant := by
  unfold shortenResidue
  split <;> rfl

theorem stepZone_entry (s : State) (z : Zone) (i : StallIdx) :
    (stepZone s z).roster.stalls[i] =
      if s.cfg.stalls[i].enabled && s.cfg.stalls[i].zone == z then stepResidue s.roster.stalls[i] else s.roster.stalls[i] :=
  Vector.getElem_ofFn _

theorem stepZone_rosterLaw (law : RosterLaw s) (z : Zone) : RosterLaw (stepZone s z) := by
  refine rosterLaw_of_entries law (fun i => ?_) fun i o there => ?_
  · rw [stepZone_entry]
    split
    · exact stepResidue_stallLaw (law.stall i)
    · exact law.stall i
  · have same : s.roster.stalls[i].occupant = some o := by
      rw [stepZone_entry] at there
      split at there
      · rwa [stepResidue_occupant] at there
      · exact there
    exact ⟨law.occupant same, o, same, rfl⟩

theorem initial_rosterLaw (law : RosterLaw s) : RosterLaw (s.setRoster Roster.initial) := by
  have vacant (i : StallIdx) : (s.setRoster Roster.initial).roster.stalls[i] = { level := 0, steps := 0, occupant := none } :=
    Vector.getElem_replicate _
  refine rosterLaw_of_entries law (fun i => ?_) fun i o there => ?_
  · rw [vacant]
    exact ⟨Nat.zero_le _, fun _ => rfl, fun positive => absurd positive (Nat.lt_irrefl 0)⟩
  · rw [vacant] at there
    exact nomatch there

/-! ### Writes and starts -/

theorem putValue_tail {k : CfgItem} (st : ConfigStore) (other : k ≠ .tail) (v : Nat) : (putValue st.cfg k v).tail = st.cfg.tail :=
  itemValue_putValue_other (st := st) (k' := .tail) (Ne.symm other) nofun

/-- A write changes the map entry of its own stall alone. -/
theorem putValue_stall {k : CfgItem} (cfg : Cfg) (other : ∀ field, k ≠ .stall field i) (v : Nat) :
    (putValue cfg k v).stalls[i] = cfg.stalls[i] := by
  cases k with
  | stall field n =>
    have apart : n.val ≠ i.val := fun same => other field (by rw [Fin.ext same])
    cases field <;> exact Vector.getElem_set_ne n.isLt i.isLt apart
  | adjacency a =>
    unfold putValue Cfg.setAdjacent
    dsimp only
    split <;> rfl
  | level field | floorCeiling field _ | placement field _ => cases field <;> rfl
  | _ => rfl

theorem takeWrite_stall_held {n : StallIdx} {field : StallMapField} (held : heldBack s (.stall field n) = false) :
    s.roster.stalls[n].occupant = none ∧ s.roster.stalls[n].level = 0 := by
  unfold heldBack occupied at held
  obtain ⟨vacant, level⟩ := Bool.or_eq_false_iff.mp held
  exact ⟨by simpa using vacant, by simpa using level⟩

/-- A taken write keeps the laws of the roster: the tail length shortens the residues, and the map of a stall changes where neither a record
nor a residue stands (R3, R7). -/
theorem takeWrite_rosterLaw {k : CfgItem} {v : Nat} (held : heldBack s k = false) (law : RosterLaw s) :
    RosterLaw (takeWrite s k v) := by
  by_cases length : k = .tail
  · subst length
    refine rosterLaw_of_entries law (fun i => ?_) fun i o there => ?_
    · rw [takeWrite_tail_stall, takeWrite_store]
      exact shortenResidue_stallLaw (law.stall i) _
    · rw [takeWrite_tail_stall, shortenResidue_occupant] at there
      rw [takeWrite_store]
      exact ⟨law.occupant there, o, there, rfl⟩
  · have tail : (takeWrite s k v).store.cfg.tail = s.store.cfg.tail := by
      rw [takeWrite_store]
      exact putValue_tail s.store length _
    have roster : (takeWrite s k v).roster = s.roster := takeWrite_roster length s v
    have map (i : StallIdx) (other : ∀ field, k ≠ .stall field i) :
        (takeWrite s k v).store.cfg.stalls[i] = s.store.cfg.stalls[i] := by
      rw [takeWrite_store]
      exact putValue_stall s.store.cfg other _
    refine rosterLaw_of_entries law (fun i => ?_) fun i o there => ?_
    · rw [roster, tail]
      by_cases own : ∃ field, k = .stall field i
      · obtain ⟨field, rfl⟩ := own
        obtain ⟨-, level⟩ := takeWrite_stall_held held
        obtain ⟨steps, zero, -⟩ := law.stall i
        exact ⟨steps, zero, fun positive => absurd positive (by omega)⟩
      · rw [map i fun field same => own ⟨field, same⟩]
        exact law.stall i
    · rw [roster] at there
      have other (field : StallMapField) : k ≠ .stall field i := fun same => by
        subst same
        obtain ⟨vacant, -⟩ := takeWrite_stall_held held
        exact nomatch vacant.symm.trans there
      rw [map i other]
      exact ⟨law.occupant there, o, there, rfl⟩

theorem startingState_rosterLaw (store : StoreLaw s.store) : RosterLaw (startingState s) := by
  obtain ⟨roster, -⟩ := starting_lawful store
  exact roster

/-! ### Every command -/

theorem RosterLaw.taken (law : RosterLaw s) (c : Instr) : RosterLaw (s.taken c) := law

/-- A request whose owner keeps the laws of the roster. -/
theorem rosterRequest_rosterLaw {c : Instr} {code : Nat} {f : State → State × Status × List Byte}
    (next : onRequest c code s f = .next t) (law : RosterLaw s) (effect : RosterLaw (f (s.taken c)).1) : RosterLaw t :=
  onRequest_leaves rosterLaw_readsCfg.reads (by decide) next law effect

theorem execAllowanceExpiry_rosterLaw (next : execAllowanceExpiry i s = .next t) (law : RosterLaw s) : RosterLaw t := by
  refine onEvent_leaves next law ?_
  split
  · rename_i o there
    split
    · exact expireAllowance_rosterLaw (s := s.taken _) law there
    · exact law
  · exact law

theorem execStallSumRequest_rosterLaw {z : Zone} (next : execStallSumRequest z s = .next t) (law : RosterLaw s) : RosterLaw t :=
  onEvent_leaves next law ((stepZone_rosterLaw (s := s.taken _) law z).emit _)

theorem execRosterRestart_rosterLaw (next : execRosterRestart s = .next t) (law : RosterLaw s) : RosterLaw t :=
  onEvent_leaves next law ((initial_rosterLaw (s := s.taken _) law).emit _)

/-- Every command keeps the laws of the roster under a lawful store. -/
theorem rosterLaw_kept (c : Instr) : Keeps (fun s => RosterLaw s ∧ StoreLaw s.store) c := by
  refine blockLaw_kept rosterLaw_readsCfg (by decide) (fun s => startingState_rosterLaw) (fun s k v _ held law _ =>
    takeWrite_rosterLaw held law) (fun c write byte start touched s t law store next => ?_) c
  have law' : RosterLaw (s.taken c) := law
  cases c with
  | arrive label tag cls act charger departure =>
    exact rosterRequest_rosterLaw (show execArrive label tag cls act charger departure s = .next t from next) law (arriveAt_rosterLaw law' _ _ _ _ _ _)
  | relocate tag newLabel =>
    exact rosterRequest_rosterLaw (show execRelocate tag newLabel s = .next t from next) law (relocateTo_rosterLaw law' _ _)
  | activity label act =>
    exact rosterRequest_rosterLaw (show execActivity label act s = .next t from next) law (activityAt_rosterLaw law' _ _)
  | renew label =>
    exact rosterRequest_rosterLaw (show execRenew label s = .next t from next) law (renewAt_rosterLaw law' _)
  | setDeparture label departure =>
    exact rosterRequest_rosterLaw (show execSetDeparture label departure s = .next t from next) law (setDepartureAt_rosterLaw law' _ _)
  | depart label =>
    exact rosterRequest_rosterLaw (show execDepart label s = .next t from next) law (departAt_rosterLaw law' _)
  | walkFirst label =>
    exact rosterRequest_rosterLaw (show execWalkFirst label s = .next t from next) law (walkFirstFrom_rosterLaw law' _)
  | walkNext =>
    exact rosterRequest_rosterLaw (show execWalkNext s = .next t from next) law (walkTo_rosterLaw law' _)
  | allowanceExpiry i => exact execAllowanceExpiry_rosterLaw next law
  | stallSumRequest z => exact execStallSumRequest_rosterLaw next law
  | rosterRestart => exact execRosterRestart_rosterLaw next law
  | powerOn => exact absurd rfl start.1
  | resetLineRelease => exact absurd rfl start.2
  | supervisoryByteReceived b => exact absurd rfl (byte b)
  | writeConfig | windowBaseWrite | tailLengthWrite | gasLevelWrite | floorCeilingWrite | adjacencyWrite | contactEnabledWrite
  | stallMapWrite | channelPlacementWrite | minimumSpeedWrite => exact nomatch write
  | _ => exact absurd (by simp [touches]) touched

/-- A second counts allowances down and keeps every record. -/
theorem tick_rosterLaw (law : RosterLaw s) : RosterLaw s.tick := by
  have same (i : StallIdx) : s.tick.store.cfg.stalls[i] = s.store.cfg.stalls[i] := by rw [tick_cfg]
  refine rosterLaw_of_entries law (fun i => ?_) fun i o there => ?_
  · rw [tick_stall, tick_cfg]
    exact law.stall i
  · rw [tick_stall] at there
    obtain ⟨o', stands, rfl⟩ := Option.map_eq_some_iff.mp there
    obtain ⟨enabled, may, circuit, allowance⟩ := law.occupant stands
    rw [tick_cfg]
    exact ⟨⟨enabled, may, circuit, by simpa [downIf] using allowance⟩, o', stands, rfl⟩

/-- Settles O58: the commands with a part in the roster or the store keep its laws, and the others leave both. -/
theorem stepsKeepRosterAndConfigurationLaws : Obligations.StepsKeepRosterAndConfigurationLaws := by
  intro s t next law store
  obtain ⟨t', eq, kept⟩ := step_keeps (P := fun s => RosterLaw s ∧ StoreLaw s.store) (fun _ _ h => h)
    (fun s h => ⟨tick_rosterLaw h.1, tick_storeLaw h.2⟩) (fun {i s t} h next => rosterLaw_kept i s t h next) s ⟨law, store⟩
  cases eq.symm.trans next
  exact kept

end Sys2Proof.Machine

/-! How a target is taken in every state of the fan (R80 to R90): from its zone, and from the allocator. -/

namespace Sys2Proof.Machine

open State

variable {s t u : State} {c d : Chan} {i : Instr} {r : FanRecord} {p : Option Chan} {q : List Chan} {l l' : List Instr}
  {target : FanTarget} {f : Feed}

/-! ### What an event leaves -/

theorem sent_unique (first : sent i s t l) (second : sent i s t l') : l = l' :=
  List.append_cancel_left (first.symm.trans second)

/-- A fan's record alone was replaced. -/
theorem record_taken (form : t = ((s.taken i).setFan c r).emit l) :
    onlyChanges [.fans, .inFlight] s t ∧ sent i s t l ∧ t.fans = s.fans.set c r := by
  subst form
  exact ⟨onlyChanges_trans (onlyChanges_mono (taken_onlyChanges s i) (by simp))
    (onlyChanges_trans (onlyChanges_mono (setFan_onlyChanges _ _ _) (by simp)) (onlyChanges_mono (emit_onlyChanges _ _) (by simp))),
    rfl, rfl⟩

/-- A fan's record and its queue were replaced. -/
theorem replaced_taken (form : t = replaced (s.taken i) c r p q l) :
    onlyChanges [.fans, .queueA, .queueB, .inFlight] s t ∧ sent i s t l ∧ t.fans = s.fans.set c r ∧
      t.queue (feedOf s c) = { fans := q, permit := p } ∧ ∀ f, f ≠ feedOf s c → t.queue f = s.queue f := by
  subst form
  refine ⟨onlyChanges_trans (onlyChanges_mono (taken_onlyChanges s i) (by simp)) (replaced_onlyChanges _ c r p q l), replaced_inFlight,
    replaced_fans, ?_, fun f other => ?_⟩
  · exact replaced_queue_self (s := s.taken i)
  · exact (replaced_queue_other (s := s.taken i) other).trans (taken_queue i)

theorem replacedAndExamined_taken (h : replacedAndExamined (s.taken i) t c r p q) : replacedAndExamined s t c r p q := by
  obtain ⟨examined, other, own, rest⟩ := h
  refine ⟨examinedAs_congr ?_ ?_ ?_ ?_ ?_ ?_ examined, fun f apart => (other f apart).trans (taken_queue i), own, rest⟩
  · simp
  · simp
  · simp
  · simp
  · simp
  · simp

/-- A fan's record and its queue were replaced and the queue was examined; the examination may have sent more. -/
theorem examined_taken (form : t = examine (replaced (s.taken i) c r p q l) (feedOf s c)) (once : q.Nodup)
    (own : ∀ d ∈ q, feedOf s d = feedOf s c) :
    onlyChanges [.fans, .queueA, .queueB, .dampers, .gates, .inFlight] s t ∧ (∃ k, sent i s t (l ++ k)) ∧
      replacedAndExamined s t c r p q := by
  subst form
  refine ⟨?_, ?_, replacedAndExamined_taken (replaced_examined (s := s.taken i) once own)⟩
  · exact onlyChanges_trans (onlyChanges_mono (taken_onlyChanges s i) (by simp))
      (onlyChanges_trans (onlyChanges_mono (replaced_onlyChanges (s.taken i) c r p q l) (by simp)) (examine_onlyChanges _ _))
  · obtain ⟨k, sends⟩ := examine_sends (replaced (s.taken i) c r p q l) (feedOf s c)
    exact ⟨k, by rw [sent, sends, replaced_inFlight, List.append_assoc]; rfl⟩

/-- With the permit held or no open path in the queue, the examination leaves the replacement. -/
theorem examined_stands (held : p ≠ none ∨ ∀ d ∈ q, ¬ openPath s d) :
    examine (replaced s c r p q l) (feedOf s c) = replaced s c r p q l := by
  refine examine_stands ?_
  rw [replaced_queue_self]
  exact held.imp id fun shut d hd => fun path =>
    shut d hd ((openPath_congr replaced_store replaced_dampers replaced_gates replaced_alloc).mp path)

/-! ### What a change of state sends -/

theorem changeSends_available {a b : FanState} (change : a ≠ b) (before : a.available = true) (after : b.available = true) :
    changeSends s c a b = [.fanStateReport c] := by
  unfold changeSends availabilityChanged
  rw [if_neg change, if_neg (by rw [before, after]; simp)]
  rfl

theorem changeSends_unavailable {a b : FanState} (change : a ≠ b) (unavailable : a.available = false ∨ b.available = false) :
    changeSends s c a b = .fanStateReport c :: availabilitySent s c (a == .service) := by
  have changed : availabilityChanged a b = true := by
    unfold availabilityChanged
    rcases unavailable with k | k <;> rw [k] <;> simp [change]
  unfold changeSends
  rw [if_neg change, if_pos changed]
  rfl

/-! ### A target taken, and its queue examined -/

/-- A target taken by its fan, whose queue is examined where the target touched it (R80, R95). -/
def targetTaken (s : State) (c : Chan) (target : FanTarget) : State :=
  if (takeTarget s c target).2 then examine (takeTarget s c target).1 (feedOf s c) else (takeTarget s c target).1

theorem execStandbyOffTarget_eq (power : s.powered = true) (c : Chan) :
    exec (.standbyOffTarget c) s = .next (targetTaken (s.taken (.standbyOffTarget c)) c .off) := by
  show execStandbyOffTarget c s = _
  exact onEvent_eq_next_iff.mpr (.inl ⟨power, rfl⟩)

theorem targetAccepted_iff {z : Zone} : targetAccepted s z c = true ↔ acceptsTarget s z c := by
  unfold targetAccepted acceptsTarget State.chan
  cases role : s.store.cfg.channels[c].role <;> simp

theorem examineTouched_one (f : Feed) (s : State) : examineTouched [f] s = examine s f := by
  cases f <;> rfl

/-- The targets of an evaluation that is one fan's. -/
theorem execFanTargets_single (power : s.powered = true) (z : Zone) (c : Chan) (target : FanTarget) :
    (acceptsTarget s z c → exec (.fanTargets z [(c, target)]) s = .next (targetTaken (s.taken (.fanTargets z [(c, target)])) c target)) ∧
      (¬ acceptsTarget s z c → exec (.fanTargets z [(c, target)]) s = .next (s.taken (.fanTargets z [(c, target)]))) := by
  generalize event : Instr.fanTargets z [(c, target)] = i
  have run : exec i s = .next (examineTouched (takeTargets z [(c, target)] (s.taken i)).2 (takeTargets z [(c, target)] (s.taken i)).1) := by
    subst event
    show execFanTargets z [(c, target)] s = _
    exact onEvent_eq_next_iff.mpr (.inl ⟨power, rfl⟩)
  rw [run]
  refine ⟨fun accepts => ?_, fun refuses => ?_⟩
  · have taken : takeTargets z [(c, target)] (s.taken i) =
        ((takeTarget (s.taken i) c target).1, if (takeTarget (s.taken i) c target).2 then [feedOf s c] else []) :=
      if_pos (targetAccepted_iff.mpr accepts)
    rw [taken]
    unfold targetTaken
    split
    · rw [examineTouched_one]
      rfl
    · rfl
  · have taken : takeTargets z [(c, target)] (s.taken i) = (s.taken i, []) :=
      if_neg fun accepts => refuses (targetAccepted_iff.mp accepts)
    rw [taken]
    rfl

theorem targetTaken_same (same : s.fans[c].state = .service ∨ s.fans[c].target = target) : targetTaken s c target = s := by
  unfold targetTaken takeTarget
  rw [if_pos same]
  rfl

/-- A target that is taken without touching the queue. -/
theorem targetTaken_of_false (other : s.fans[c].target ≠ target) {v : State} (rule : takeByState s c target = (v, false)) :
    targetTaken s c target = v := by
  by_cases service : s.fans[c].state = .service
  · rw [targetTaken_same (.inl service)]
    exact congrArg Prod.fst ((takeByState_service service).symm.trans rule)
  · unfold targetTaken takeTarget
    rw [if_neg (not_or.mpr ⟨service, other⟩), rule]
    rfl

/-- A target that touches the queue, which is then examined. -/
theorem targetTaken_of_true (other : s.fans[c].target ≠ target) {v : State} (rule : takeByState s c target = (v, true)) :
    targetTaken s c target = examine v (feedOf s c) := by
  by_cases service : s.fans[c].state = .service
  · exact nomatch congrArg Prod.snd ((takeByState_service service).symm.trans rule)
  · unfold targetTaken takeTarget
    rw [if_neg (not_or.mpr ⟨service, other⟩), rule]
    rfl

/-! ### The rule of each state, applied -/

theorem exhausted_iff : exhausted s c = true ↔ outOfRetries s c := by
  simp only [exhausted, outOfRetries, Bool.and_eq_true, decide_eq_true_eq, beq_iff_eq]
  rfl

theorem locksOut_iff : locksOut s c target = true ↔ losesMark s c target ∧ outOfRetries s c := by
  unfold locksOut losesMark
  rw [Bool.and_eq_true, exhausted_iff, Bool.and_eq_true, Bool.not_eq_true']

/-- A target that is only stored (R82, R87, R90). -/
theorem targetTaken_stored (other : s.fans[c].target ≠ target)
    (state : s.fans[c].state = .stopping ∨ (s.fans[c].state = .lockedOut ∨ s.fans[c].state = .failed) ∧ target.marked = false ∨
      s.fans[c].state = .off ∧ target = .off) : targetTaken s c target = s.setFan c (storedRecord s c target) := by
  refine targetTaken_of_false other ?_
  rcases state with state | ⟨state, unmarked⟩ | ⟨state, rfl⟩
  · exact takeByState_stopping state
  · rw [takeByState_exhausted state, unmarked]
    rfl
  · exact takeByState_off state

theorem applyTarget_running (state : s.fans[c].state = .running) (speed : Nat) (marked : Bool) :
    applyTarget s c (.on speed marked) =
      s.setFan c
        { s.fans[c] with
          target := .on speed marked, commanded := runningSpeed s c speed
          lowGates := if s.fans[c].commanded < runningSpeed s c speed then 0 else s.fans[c].lowGates
          settle := if s.fans[c].commanded < runningSpeed s c speed then some s.fans[c].window else s.fans[c].settle } := by
  have speeds : appliedSpeed s c (.on speed marked) = runningSpeed s c speed := rfl
  unfold applyTarget
  dsimp only
  rw [speeds]
  by_cases higher : s.fans[c].commanded < runningSpeed s c speed
  · rw [if_pos ⟨state, higher⟩, if_pos higher, if_pos higher]
  · rw [if_neg fun both => higher both.2, if_neg higher, if_neg higher]

theorem applyTarget_starting (state : s.fans[c].state = .starting) (speed : Nat) (marked : Bool) :
    applyTarget s c (.on speed marked) =
      s.setFan c { s.fans[c] with target := .on speed marked, commanded := runningSpeed s c speed } := by
  unfold applyTarget
  dsimp only
  rw [if_neg (by rw [state]; exact fun both => nomatch both.1)]
  rfl

theorem stopFan_eq (s : State) (c : Chan) (reason : StopReason) (r : FanRecord) (state : s.fans[c].state.turning = true) :
    stopFan s c reason r = (s.setFan c (stoppedRecord r reason)).emit [.fanStateReport c] := by
  have sends : changeSends s c s.fans[c].state .stopping = [.fanStateReport c] := by
    refine changeSends_available (fun same => ?_) ?_ rfl
    · rw [same] at state
      exact nomatch state
    · cases k : s.fans[c].state with
      | starting => rfl
      | running => rfl
      | _ => rw [k] at state; exact nomatch state
  rw [← sends]
  exact changeFan_eq s c (stoppedRecord r reason)

/-- A stopped fan that releases its permit leaves it free. -/
theorem releasePermit_stopFan_eq (law : FansLaw s) (reason : StopReason) (r : FanRecord) (state : s.fans[c].state = .starting) :
    releasePermit (stopFan s c reason r) c =
      replaced s c (stoppedRecord r reason) none (s.queue (feedOf s c)).fans [.fanStateReport c] := by
  rw [stopFan_eq s c reason r (by rw [state]; rfl), ← replaced_record, releasePermit_replaced,
    released_of_held ((law.starting_iff c).mp state)]

/-- The record of a waiting fan that an off target brings to OFF (R83, R89). -/
def endedRecord (s : State) (c : Chan) (target : FanTarget) : FanRecord :=
  { s.fans[c] with
    state := .off, target := target, timer := if s.fans[c].state = .retryWait then none else s.fans[c].timer }

/-- The record of a waiting fan out of retries that loses the forced mark (R90). -/
def lockedRecord (s : State) (c : Chan) (target : FanTarget) : FanRecord :=
  { s.fans[c] with
    state := if s.fans[c].lastFailure = some .speedLost then .failed else .lockedOut, target := target, timer := none }

theorem exhaustedState_of (kind : Option FailKind) :
    exhaustedState kind = if kind = some .speedLost then .failed else .lockedOut := by
  rcases kind with _ | kind
  · rfl
  · cases kind <;> rfl

theorem waiting_available (waits : s.fans[c].state = .queued ∨ s.fans[c].state = .retryWait) :
    s.fans[c].state.available = true ∧ s.fans[c].state ≠ .off ∧ s.fans[c].state ≠ .service := by
  rcases waits with k | k <;> rw [k] <;> exact ⟨rfl, nofun, nofun⟩

/-- A fan out of retries that loses the mark is locked out, and leaves its queue (R90). -/
theorem targetTaken_locked (waits : s.fans[c].state = .queued ∨ s.fans[c].state = .retryWait) (loses : losesMark s c target)
    (out : outOfRetries s c) :
    targetTaken s c target =
      replaced s c (lockedRecord s c target) (s.queue (feedOf s c)).permit ((s.queue (feedOf s c)).fans.filter (· != c))
        (.fanStateReport c :: availabilitySent s c false) := by
  have other : s.fans[c].target ≠ target := fun same => by
    obtain ⟨had, lost⟩ := loses
    rw [same] at had
    exact nomatch had.symm.trans lost
  have locks : locksOut s c target = true := locksOut_iff.mpr ⟨loses, out⟩
  obtain ⟨available, -, service⟩ := waiting_available waits
  have state := exhaustedState_of s.fans[c].lastFailure
  have sends : changeSends s c s.fans[c].state (exhaustedState s.fans[c].lastFailure) =
      .fanStateReport c :: availabilitySent s c false := by
    have unavailable : (exhaustedState s.fans[c].lastFailure).available = false := by
      rcases exhaustedState_eq s.fans[c].lastFailure with k | k <;> rw [k] <;> rfl
    rw [changeSends_unavailable (fun same => by rw [same, unavailable] at available; exact nomatch available) (.inr unavailable),
      show (s.fans[c].state == .service) = false from beq_eq_false_iff_ne.mpr service]
  rw [← sends]
  have form : targetTaken s c target = lockOut s c target := by
    refine targetTaken_of_false other ?_
    rcases waits with k | k
    · rw [takeByState_queued k, if_pos locks]
    · rw [takeByState_retryWait k, if_pos locks]
  rw [form]
  unfold lockedRecord
  rw [← state]
  exact changeFan_leaveQueue s c _

/-- A waiting fan that an off target ends, out of its queue (R83, R89). -/
theorem targetTaken_ended (law : FansLaw s) (waits : s.fans[c].state = .queued ∨ s.fans[c].state = .retryWait)
    (other : s.fans[c].target ≠ .off) (keeps : ¬(losesMark s c .off ∧ outOfRetries s c)) :
    targetTaken s c .off =
      replaced s c (endedRecord s c .off) (s.queue (feedOf s c)).permit ((s.queue (feedOf s c)).fans.filter (· != c))
        [.fanStateReport c] := by
  have stays : ¬ locksOut s c .off = true := fun locks => keeps (locksOut_iff.mp locks)
  obtain ⟨available, off, -⟩ := waiting_available waits
  rw [← changeSends_available (s := s) (c := c) off available rfl]
  rcases waits with k | k
  · rw [targetTaken_of_false other (by rw [takeByState_queued k, if_neg stays]; rfl), changeFan_leaveQueue]
    unfold endedRecord
    rw [if_neg (by rw [k]; nofun)]
    rfl
  · rw [targetTaken_of_false other (by rw [takeByState_retryWait k, if_neg stays]; rfl), changeFan_replaced,
      filter_ne_of_not_mem (law.not_mem _ (by rw [k]; nofun))]
    unfold endedRecord
    rw [if_pos k]
    rfl

/-- An on target that a waiting fan stores in place (R83, R89). -/
theorem targetTaken_waiting (waits : s.fans[c].state = .queued ∨ s.fans[c].state = .retryWait) (other : s.fans[c].target ≠ target)
    (keeps : ¬(losesMark s c target ∧ outOfRetries s c)) (isOn : target.isOn = true) (plain : ¬ gainsMark s c target) :
    targetTaken s c target = s.setFan c (storedRecord s c target) := by
  have stays : ¬ locksOut s c target = true := fun locks => keeps (locksOut_iff.mp locks)
  have gains : ¬(target.marked && !s.fans[c].target.marked) = true := fun gains => by
    rw [Bool.and_eq_true, Bool.not_eq_true'] at gains
    exact plain ⟨gains.2, gains.1⟩
  refine targetTaken_of_false other ?_
  rcases waits with k | k
  · rw [takeByState_queued k, if_neg stays, isOn, if_neg gains]
    rfl
  · rw [takeByState_retryWait k, if_neg stays, isOn, if_neg gains]
    rfl

/-- The queues once a fan has left its own: it stands in no other. -/
theorem queues_erased (law : FansLaw s) (own : t.queue (feedOf s c) =
      { fans := (s.queue (feedOf s c)).fans.filter (· != c), permit := (s.queue (feedOf s c)).permit })
    (rest : ∀ f, f ≠ feedOf s c → t.queue f = s.queue f) (f : Feed) :
    t.queue f = { s.queue f with fans := (s.queue f).fans.erase c } := by
  by_cases same : f = feedOf s c
  · rw [same, own, filter_ne_eq_erase (law.nodup _)]
  · rw [rest f same, List.erase_of_not_mem fun waits => same (law.own waits).symm]

/-! ### What a target sends -/

theorem takeByState_sends (s : State) (c : Chan) (target : FanTarget) :
    ∃ k, (takeByState s c target).1.inFlight = s.inFlight ++ k := by
  have stored : ∃ k, (s.setFan c (storedRecord s c target)).inFlight = s.inFlight ++ k := ⟨[], (List.append_nil _).symm⟩
  have joins (r : FanRecord) : ∃ k, (joinQueue s c r).inFlight = s.inFlight ++ k := by
    rw [joinQueue_eq]
    exact ⟨_, replaced_inFlight⟩
  have leaves (r : FanRecord) : ∃ k, (changeFan (leaveQueue s c) c r).inFlight = s.inFlight ++ k := by
    rw [changeFan_leaveQueue]
    exact ⟨_, replaced_inFlight⟩
  have applied : ∃ k, (applyTarget s c target).inFlight = s.inFlight ++ k := by
    unfold applyTarget
    dsimp only
    split <;> exact ⟨[], (List.append_nil _).symm⟩
  have released : ∃ k, (releasePermit (stopFan s c .commanded (storedRecord s c target)) c).inFlight = s.inFlight ++ k := by
    unfold stopFan
    rw [changeFan_replaced, releasePermit_replaced]
    exact ⟨_, replaced_inFlight⟩
  cases state : s.fans[c].state with
  | service => exact takeByState_service state ▸ ⟨[], (List.append_nil _).symm⟩
  | off =>
    rw [takeByState_off state]
    split
    · exact joins _
    · exact stored
  | queued =>
    rw [takeByState_queued state]
    split_ifs
    · exact leaves _
    · exact leaves _
    · rw [placeInQueue_eq]
      exact ⟨_, replaced_inFlight⟩
    · exact stored
  | retryWait =>
    rw [takeByState_retryWait state]
    split_ifs
    · exact leaves _
    · exact ⟨_, rfl⟩
    · exact joins _
    · exact stored
  | starting =>
    rw [takeByState_starting state]
    split
    · exact applied
    · exact released
  | running =>
    rw [takeByState_running state]
    split
    · exact applied
    · exact ⟨_, rfl⟩
  | stopping => exact takeByState_stopping state ▸ stored
  | lockedOut =>
    rw [takeByState_exhausted (.inl state)]
    split
    · exact joins _
    · exact stored
  | failed =>
    rw [takeByState_exhausted (.inr state)]
    split
    · exact joins _
    · exact stored

theorem targetTaken_sends (s : State) (i : Instr) (c : Chan) (target : FanTarget) :
    ∃ l, sent i s (targetTaken (s.taken i) c target) l := by
  have taken : ∃ k, (takeTarget (s.taken i) c target).1.inFlight = (s.taken i).inFlight ++ k := by
    unfold takeTarget
    split
    · exact ⟨[], (List.append_nil _).symm⟩
    · exact takeByState_sends _ c target
  obtain ⟨k, sends⟩ := taken
  unfold targetTaken
  split
  · obtain ⟨k', sends'⟩ := examine_sends (takeTarget (s.taken i) c target).1 (feedOf (s.taken i) c)
    exact ⟨k ++ k', by rw [sent, sends', sends, List.append_assoc]; rfl⟩
  · exact ⟨k, sends⟩

/-! ### The obligations -/

/-- A fan's record alone was replaced, for the reports that are known to have been sent. -/
theorem record_left {k : List Instr} (sends : sent i s t l) (form : t = ((s.taken i).setFan c r).emit k) :
    onlyChanges [.fans, .inFlight] s t ∧ l = k ∧ t.fans = s.fans.set c r := by
  obtain ⟨frame, sends', fans⟩ := record_taken form
  exact ⟨frame, sent_unique sends sends', fans⟩

theorem taken_left (sends : sent i s (s.taken i) l) : onlyChanges [.inFlight] s (s.taken i) ∧ l = [] :=
  ⟨taken_onlyChanges s i, sent_unique sends (List.append_nil _).symm⟩

/-- A STARTING fan that an off target stops (R84, R96). -/
theorem targetTaken_starting_off (law : FansLaw s) (state : s.fans[c].state = .starting) (other : s.fans[c].target ≠ .off) :
    targetTaken s c .off =
      examine (replaced s c (stoppedRecord { s.fans[c] with target := .off } .commanded) none (s.queue (feedOf s c)).fans
        [.fanStateReport c]) (feedOf s c) := by
  rw [← releasePermit_stopFan_eq law _ _ state]
  exact targetTaken_of_true other (takeByState_starting state)

/-- A RUNNING fan that an off target stops (R86). -/
theorem targetTaken_running_off (state : s.fans[c].state = .running) (other : s.fans[c].target ≠ .off) :
    targetTaken s c .off = (s.setFan c (stoppedRecord { s.fans[c] with target := .off } .commanded)).emit [.fanStateReport c] := by
  rw [← stopFan_eq s c .commanded _ (by rw [state]; rfl)]
  exact targetTaken_of_false other (takeByState_running state)

/-- Settles O31: the rule of the fan's state gives the state after the target, which is read off. -/
theorem targetsAreTakenByState : Obligations.TargetsAreTakenByState := by
  intro s z c target power
  obtain ⟨takes, discards⟩ := execFanTargets_single power z c target
  by_cases accepts : acceptsTarget s z c
  swap
  · exact ⟨_, [], discards accepts, (List.append_nil _).symm, fun _ => ⟨taken_onlyChanges s _, rfl⟩, fun k => absurd k accepts⟩
  have run := takes accepts
  generalize event : Instr.fanTargets z [(c, target)] = i at run
  obtain ⟨l, sends⟩ := targetTaken_sends s i c target
  refine ⟨_, l, run, sends, fun none => ?_, fun _ other => ⟨fun state => ?_, ?_, ?_, ?_, ?_, ?_, fun waits keeps => ⟨?_, ?_⟩, ?_⟩⟩
  · have same := none.resolve_left (not_not.mpr accepts)
    rw [targetTaken_same (s := s.taken i) same] at sends ⊢
    exact taken_left sends
  · exact record_left sends ((targetTaken_stored (s := s.taken i) other (state.imp_right .inl)).trans (emit_nil _).symm)
  · rintro state rfl
    exact record_left sends ((targetTaken_stored (s := s.taken i) other (.inr (.inr ⟨state, rfl⟩))).trans (emit_nil _).symm)
  · rintro state speed marked rfl
    refine record_left sends (Eq.trans ?_ (emit_nil _).symm)
    exact (targetTaken_of_false (s := s.taken i) other (takeByState_running state)).trans (applyTarget_running (s := s.taken i) state speed marked)
  · rintro state rfl
    exact record_left sends (targetTaken_running_off (s := s.taken i) state other)
  · rintro state speed marked rfl
    refine record_left sends (Eq.trans ?_ (emit_nil _).symm)
    exact (targetTaken_of_false (s := s.taken i) other (takeByState_starting state)).trans (applyTarget_starting (s := s.taken i) state speed marked)
  · rintro state rfl law
    obtain ⟨frame, ⟨k, sends'⟩, examined⟩ := examined_taken (targetTaken_starting_off (law.taken i) state other)
      (law.nodup _) fun d waits => law.own waits
    exact ⟨frame, sent_unique sends sends' ▸ List.mem_cons_self, examined⟩
  · intro isOn plain
    exact record_left sends ((targetTaken_waiting (s := s.taken i) waits other keeps isOn plain).trans (emit_nil _).symm)
  · rintro rfl law
    obtain ⟨frame, sends', fans, own, rest⟩ := replaced_taken (targetTaken_ended (law.taken i) waits other keeps)
    exact ⟨frame, sent_unique sends sends', fans, queues_erased law own rest⟩
  · intro waits loses out law
    obtain ⟨frame, sends', fans, own, rest⟩ := replaced_taken (targetTaken_locked (s := s.taken i) waits loses out)
    exact ⟨frame, sent_unique sends sends', fans, queues_erased law own rest⟩

/-- Settles O32: an off target of the allocator's is taken by the same rules. -/
theorem standbyOffTargetStopsFan : Obligations.StandbyOffTargetStopsFan := by
  intro s c power
  have run := execStandbyOffTarget_eq power c
  generalize Instr.standbyOffTarget c = i at run ⊢
  refine ⟨fun none => ?_, fun isOn => ?_⟩
  · rw [targetTaken_same (s := s.taken i) none.symm] at run
    exact ⟨_, run, taken_onlyChanges s i, (List.append_nil _).symm⟩
  have other : s.fans[c].target ≠ .off := fun off => by
    rw [off] at isOn
    exact nomatch isOn
  refine ⟨fun state => ?_, fun waits keeps law => ?_, fun waits marked out law => ?_, fun state law => ?_, fun state => ?_⟩
  · obtain ⟨frame, sends, fans⟩ := record_taken (targetTaken_running_off (s := s.taken i) state other)
    exact ⟨_, run, frame, fans, sends⟩
  · have form := targetTaken_ended (law.taken i) waits other fun both => keeps ⟨both.1.1, both.2⟩
    obtain ⟨frame, sends, fans, own, rest⟩ := replaced_taken form
    have permit := congrArg StartQueue.permit own
    refine ⟨_, run, frame, fans, ?_, permit, rest, sends⟩
    exact (congrArg StartQueue.fans own).trans (filter_ne_eq_erase (law.nodup _))
  · have form := targetTaken_locked (s := s.taken i) (target := .off) waits ⟨marked, rfl⟩ out
    obtain ⟨frame, sends, fans, own, rest⟩ := replaced_taken form
    exact ⟨_, run, frame, fans, queues_erased law own rest, sends⟩
  · have form := targetTaken_starting_off (law.taken i) state other
    obtain ⟨frame, ⟨k, sends⟩, examined⟩ := examined_taken form (law.nodup _) fun d waits => law.own waits
    refine ⟨_, _, run, sends, List.mem_cons_self, frame, examined, fun shut => ?_⟩
    obtain ⟨frame', sends', fans, own, -⟩ := replaced_taken (form.trans (examined_stands (.inr shut)))
    exact ⟨frame', fans, own, sent_unique sends sends'⟩
  · have stores : s.fans[c].state = .stopping ∨ (s.fans[c].state = .lockedOut ∨ s.fans[c].state = .failed) ∧ FanTarget.off.marked = false ∨
        s.fans[c].state = .off ∧ FanTarget.off = .off := by
      rcases state with k | k | k | k
      · exact .inr (.inr ⟨k, rfl⟩)
      · exact .inl k
      · exact .inr (.inl ⟨.inl k, rfl⟩)
      · exact .inr (.inl ⟨.inr k, rfl⟩)
    obtain ⟨frame, sends, fans⟩ := record_taken ((targetTaken_stored (s := s.taken i) other stores).trans (emit_nil _).symm)
    exact ⟨_, run, frame, fans, sends⟩

end Sys2Proof.Machine

/-! The Start Queues take their reports, the fans' timers run out, their rundowns end, and their tachometer gates complete (R81 to R96). -/

namespace Sys2Proof.Machine

open State

variable {s t u : State} {c d : Chan} {i : Instr} {r f : FanRecord} {p : Option Chan} {q before behind : List Chan} {l : List Instr}
  {speed : Nat} {marked : Bool}

/-! ### The first queued fan with an open path -/

/-- The first queued fan with an open path takes the permit (R84, R95). -/
theorem startFan_tookPermit (law : FansLaw s) (first : firstOpen s c before behind speed marked) (i : Instr) :
    tookPermit s (startFan (s.taken i) c) c before behind speed ∧ sent i s (startFan (s.taken i) c) [.fanStateReport c] := by
  obtain ⟨free, split, shut, opened, target⟩ := first
  have waits : c ∈ (s.queue (feedOf s c)).fans := by rw [split]; simp
  have state : s.fans[c].state = .queued := ((law.mem_iff _ c).mp waits).1
  obtain ⟨queue, -, fans, damper, gate⟩ := startFan_spec (s.taken i) c
  have out : c ∉ before ++ behind := (List.nodup_cons.mp (List.nodup_middle.mp (split ▸ law.nodup (feedOf s c)))).1
  have rest : (s.queue (feedOf s c)).fans.filter (· != c) = before ++ behind := by
    rw [split, List.filter_append, List.filter_cons_of_neg (by simp), ← List.filter_append, filter_ne_of_not_mem out]
  rw [taken_feedOf, taken_queue, rest] at queue
  refine ⟨⟨congrArg StartQueue.permit queue, congrArg StartQueue.fans queue, ?_, damper, gate⟩, ?_⟩
  · have speeds : appliedSpeed (s.taken i) c (s.taken i).fans[c].target = runningSpeed s c speed := by
      rw [show (s.taken i).fans[c].target = .on speed marked from target]
      rfl
    rw [speeds] at fans
    exact fans
  · rw [sent, startFan_eq, replaced_inFlight, recordAnswer_inFlight,
      changeSends_available (by rw [show (s.taken i).fans[c].state = .queued from state]; nofun)
        (by rw [show (s.taken i).fans[c].state = .queued from state]; rfl) rfl]
    rfl

theorem openPath_taken (i : Instr) : openPath (s.taken i) d ↔ openPath s d :=
  openPath_congr (by simp) (by simp) (by simp) (by simp)

/-- An examination of a queue whose first fan with an open path is known starts that fan (R95). -/
theorem examine_firstOpen (first : firstOpen s c before behind speed marked) (i : Instr) :
    examine (s.taken i) (feedOf s c) = startFan (s.taken i) c := by
  obtain ⟨free, split, shut, opened, -⟩ := first
  refine examine_starts (before := before) (behind := behind) ?_ ?_ (fun e he => ?_) ((openPath_taken i).mpr opened)
  · rw [taken_queue, free]
  · rw [taken_queue, split]
  · rw [openPath_taken]
    exact shut e he

/-- The start queue's own question finds the first queued fan with an open path (R95). -/
theorem find_firstOpen (first : firstOpen s c before behind speed marked) (i : Instr) :
    ((s.taken i).queue (feedOf s c)).permit = none ∧
      ((s.taken i).queue (feedOf s c)).fans.find? (fun d => pathOpen (s.taken i) d) = some c := by
  obtain ⟨free, split, shut, opened, -⟩ := first
  rw [taken_queue, split]
  exact ⟨free, find?_split (fun e he => Bool.eq_false_iff.mpr fun k => shut e he ((openPath_taken i).mp (pathOpen_iff.mp k)))
    (pathOpen_iff.mpr ((openPath_taken i).mpr opened))⟩

/-- A report that has a queue examined gives its free permit to the first fan with an open path. -/
theorem examineEvent_starts (power : s.powered = true) (law : FansLaw s) (first : firstOpen s c before behind speed marked)
    (i : Instr) :
    ∃ t, onEvent i s (fun s => examine s (feedOf s c)) = .next t ∧ tookPermit s t c before behind speed := by
  refine ⟨_, onEvent_of_powered power, ?_⟩
  show tookPermit s (examine (s.taken i) (feedOf s c)) c before behind speed
  rw [examine_firstOpen first i]
  exact (startFan_tookPermit law first i).1

/-- A report that has a queue examined changes nothing while the permit is held or no path is open. -/
theorem examineEvent_stands (power : s.powered = true) {g : Feed} (held : (s.queue g).permit ≠ none ∨ ∀ d ∈ (s.queue g).fans, ¬ openPath s d)
    (i : Instr) : ∃ t, onEvent i s (fun s => examine s g) = .next t ∧ onlyChanges [.inFlight] s t := by
  refine ⟨_, onEvent_of_powered power, ?_⟩
  have stands : examine (s.taken i) g = s.taken i := by
    refine examine_stands ?_
    rw [taken_queue]
    exact held.imp id fun shut d hd => fun path => shut d hd ((openPath_taken i).mp path)
  show onlyChanges [.inFlight] s (examine (s.taken i) g)
  rw [stands]
  exact taken_onlyChanges s i

/-- Settles O33: each report has the queue examined, and the path check asks for the fan the examination would find. -/
theorem firstOpenFanTakesPermit : Obligations.FirstOpenFanTakesPermit := by
  intro s z g c power law
  refine ⟨fun before behind speed marked first => ?_, fun f held => ?_⟩
  · obtain ⟨t₁, run₁, took₁⟩ := examineEvent_starts power law first (.damperOpenReport z (feedOf s c))
    obtain ⟨t₂, run₂, took₂⟩ := examineEvent_starts power law first (.gateAtReport g (feedOf s c))
    obtain ⟨t₃, run₃, took₃⟩ := examineEvent_starts power law first (.grantReport g (feedOf s c))
    obtain ⟨took₄, sends⟩ := startFan_tookPermit law first (.pathCheck c)
    refine ⟨t₁, t₂, t₃, _, run₁, took₁, run₂, took₂, run₃, took₃, ?_, took₄, sends⟩
    have run : execPathCheck c s = _ := onEvent_of_powered power
    exact run.trans (congrArg _ (if_pos (find_firstOpen first _)))
  · obtain ⟨t₁, run₁⟩ := examineEvent_stands power held (.damperOpenReport z f)
    obtain ⟨t₂, run₂⟩ := examineEvent_stands power held (.gateAtReport g f)
    obtain ⟨t₃, run₃⟩ := examineEvent_stands power held (.grantReport g f)
    exact ⟨t₁, t₂, t₃, run₁.1, run₁.2, run₂.1, run₂.2, run₃.1, run₃.2⟩

/-! ### A fan that joins its queue -/

theorem setFan_setFan (s : State) (c : Chan) (r r' : FanRecord) : (s.setFan c r).setFan c r' = s.setFan c r' := by
  unfold setFan
  simp

theorem setFan_own (s : State) (c : Chan) : s.setFan c s.fans[c] = s := by
  unfold setFan
  simp

theorem setFan_self (s : State) (c : Chan) (r : FanRecord) : (s.setFan c r).fans[c] = r := Vector.getElem_set_self _

/-- A fan that joins its queue, placed by its record (R94). -/
def joined (s : State) (c : Chan) (r : FanRecord) (l : List Instr) : State :=
  replaced s c (queuedRecord r) (s.queue (feedOf s c)).permit
    (insertFan (s.setFan c (queuedRecord r)) c ((s.queue (feedOf s c)).fans.filter (· != c))) l

theorem joinQueue_joined (s : State) (c : Chan) (r : FanRecord) :
    joinQueue s c r = joined s c r (changeSends s c s.fans[c].state .queued) := joinQueue_eq s c r

theorem insertFan_congr (fans : t.fans = s.fans) (c : Chan) (q : List Chan) : insertFan t c q = insertFan s c q := by
  unfold insertFan isMarked
  rw [fans]

/-- A fan whose record was replaced, and that then joins its queue. -/
theorem joinQueue_setFan (s : State) (c : Chan) (r r' : FanRecord) (l : List Instr) :
    joinQueue ((s.setFan c r').emit l) c r = joined s c r (l ++ changeSends s c r'.state .queued) := by
  have own : ((s.setFan c r').emit l).fans[c] = r' := setFan_self s c r'
  have feed : feedOf ((s.setFan c r').emit l) c = feedOf s c := rfl
  have fans : (((s.setFan c r').emit l).setFan c (queuedRecord r)).fans = (s.setFan c (queuedRecord r)).fans := by
    simp [setFan]
  have record : ((s.setFan c r').emit l).setFan c (queuedRecord r) = (s.setFan c (queuedRecord r)).emit l := by
    simp [setFan, emit]
  rw [joinQueue_eq, own, insertFan_congr fans, feed, emit_queue, setFan_queue]
  unfold joined replaced
  rw [record, ← emit_emit]
  rw [feed]
  generalize feedOf s c = f
  cases f <;> rfl

/-- A fan joined its queue, which was examined. -/
theorem joined_taken (law : FansLaw s) (state : s.fans[c].state ≠ .queued) (form : t = examine (joined (s.taken i) c r l) (feedOf s c)) :
    onlyChanges [.fans, .queueA, .queueB, .dampers, .gates, .inFlight] s t ∧ (∃ k, sent i s t (l ++ k)) ∧
      ∃ q, joinedAs s c r.target.marked (s.queue (feedOf s c)).fans q ∧
        replacedAndExamined s t c (queuedRecord r) (s.queue (feedOf s c)).permit q := by
  have out : c ∉ (s.queue (feedOf s c)).fans := law.not_mem _ state
  have perm := insertFan_perm (s.setFan c (queuedRecord r)) c (s.queue (feedOf s c)).fans
  unfold joined at form
  rw [taken_feedOf, taken_queue, filter_ne_of_not_mem out,
    insertFan_congr (show ((s.taken i).setFan c (queuedRecord r)).fans = (s.setFan c (queuedRecord r)).fans from rfl)] at form
  obtain ⟨frame, sends, examined⟩ := examined_taken form (perm.nodup_iff.mpr (List.nodup_cons.mpr ⟨out, law.nodup _⟩)) fun d hd =>
    (List.mem_cons.mp (perm.mem_iff.mp hd)).elim (fun same => same ▸ rfl) law.own
  exact ⟨frame, sends, _, insertFan_joinedAs (r := queuedRecord r) out, examined⟩

/-! ### The end of a rundown -/

/-- The record of a fan whose commanded stop has ended (R87). -/
def haltedRecord (r : FanRecord) : FanRecord := { r with state := .off, timer := none }

/-- A commanded stop with an off target stored ends in OFF (R87). -/
theorem finishRundown_off (state : f.state = .stopping) (reason : f.stopReason = .commanded) (off : f.target = .off) :
    finishRundown (s.setFan c f) c = (s.setFan c (haltedRecord f)).emit [.fanStateReport c] := by
  have own : (s.setFan c f).fans[c] = f := setFan_self s c f
  have ended : endRundown (s.setFan c f) c = (s.setFan c (haltedRecord f)).emit [.fanStateReport c] := by
    rw [endRundown_off (by rw [own]; exact reason) (by rw [own, off]; rfl), own, changeFan_eq, setFan_setFan,
      changeSends_available (by rw [own, state]; nofun) (by rw [own, state]; rfl) rfl]
    rfl
  have rests : ((s.setFan c (haltedRecord f)).emit [.fanStateReport c]).fans[c].state ≠ .queued := by
    rw [show ((s.setFan c (haltedRecord f)).emit [.fanStateReport c]).fans[c] = haltedRecord f from setFan_self s c _]
    nofun
  unfold finishRundown
  dsimp only
  rw [ended, if_neg rests]

/-- A commanded stop with an on target stored ends in the queue, which is examined (R82, R87). -/
theorem finishRundown_on (state : f.state = .stopping) (reason : f.stopReason = .commanded) (isOn : f.target.isOn = true) :
    finishRundown (s.setFan c f) c =
      examine (joined s c (haltedRecord f) [.fanStateReport c, .fanStateReport c]) (feedOf s c) := by
  have own : (s.setFan c f).fans[c] = f := setFan_self s c f
  have ended : endRundown (s.setFan c f) c = joined s c (haltedRecord f) [.fanStateReport c, .fanStateReport c] := by
    rw [endRundown_on (by rw [own]; exact reason) (by rw [own]; exact isOn), own, changeFan_eq, setFan_setFan, joinQueue_setFan,
      changeSends_available (by rw [own, state]; nofun) (by rw [own, state]; rfl) rfl]
    rfl
  have waits : (joined s c (haltedRecord f) [.fanStateReport c, .fanStateReport c]).fans[c].state = .queued := by
    unfold joined
    rw [replaced_self]
    rfl
  unfold finishRundown
  dsimp only
  rw [ended, if_pos waits]
  unfold joined
  rw [replaced_feedOf]

/-- The state that the decision on a failed attempt gives a fan's record (R88). -/
def decidedState (s : State) (c : Chan) (f : FanRecord) (kind : FailKind) : FanState :=
  if (s.chan c).retryLimit ≤ min 255 (f.retryCount + 1) && effectiveAction s c f.target == .lockOut then
    exhaustedState (some kind)
  else if f.target.isOn then .retryWait else .off

/-- FAN-FAILED after the decision on a failed attempt (R91, log entry 15). -/
def decidedCondition (s : State) (c : Chan) (f : FanRecord) : Bool :=
  f.failedCondition || min 255 (f.retryCount + 1) == (s.chan c).retryLimit

/-- A fan's record after the decision on a failed attempt (R88). -/
def decidedRecord (s : State) (c : Chan) (f : FanRecord) (kind : FailKind) : FanRecord :=
  { f with
    state := decidedState s c f kind, retryCount := min 255 (f.retryCount + 1), lastFailure := some kind
    failedCondition := decidedCondition s c f
    timer := if decidedState s c f kind = .retryWait then some (.retryWait (s.chan c).retryWait) else none }

theorem attemptState_setFan (s : State) (c : Chan) (f : FanRecord) (kind : FailKind) :
    attemptState (s.setFan c f) c kind = decidedState s c f kind := by
  unfold attemptState
  rw [setFan_self]
  rfl

theorem attemptCondition_setFan (s : State) (c : Chan) (f : FanRecord) :
    attemptCondition (s.setFan c f) c = decidedCondition s c f := by
  unfold attemptCondition
  rw [setFan_self]
  rfl

theorem attemptRecord_setFan (s : State) (c : Chan) (f : FanRecord) (kind : FailKind) :
    attemptRecord (s.setFan c f) c kind = decidedRecord s c f kind := by
  unfold attemptRecord
  rw [attemptState_setFan, attemptCondition_setFan, setFan_self]
  rfl

theorem decidedState_ne_queued (s : State) (c : Chan) (f : FanRecord) (kind : FailKind) : decidedState s c f kind ≠ .queued := by
  rw [← attemptState_setFan]
  rcases attemptState_cases (s.setFan c f) c kind with k | k | ⟨k, -⟩ | k <;> rw [k] <;> nofun

/-- A failed attempt ends by its decision (R88). -/
theorem finishRundown_failure {kind : FailKind} (reason : f.stopReason = .failure kind) :
    finishRundown (s.setFan c f) c =
      (s.setFan c (decidedRecord s c f kind)).emit
        (changeSends s c f.state (decidedState s c f kind) ++
          conditionSends f.failedCondition (decidedCondition s c f) .fanFailed c.val) := by
  have own : (s.setFan c f).fans[c] = f := setFan_self s c f
  have ended := endRundown_failure (s := s.setFan c f) (c := c) (kind := kind) (by rw [own]; exact reason)
  rw [attemptFailed_eq, own, setFan_setFan, attemptRecord_setFan, attemptState_setFan, attemptCondition_setFan] at ended
  have rests (l : List Instr) : ((s.setFan c (decidedRecord s c f kind)).emit l).fans[c].state ≠ .queued := by
    rw [show ((s.setFan c (decidedRecord s c f kind)).emit l).fans[c] = decidedRecord s c f kind from setFan_self s c _]
    exact decidedState_ne_queued s c f kind
  unfold finishRundown
  dsimp only
  rw [ended, if_neg (rests _)]
  rfl

/-- An examination keeps the measured rpm of every fan. -/
theorem examine_measured (u : State) (g : Feed) (d : Chan) : (examine u g).fans[d].measured = u.fans[d].measured := by
  rcases examine_cases u g with same | ⟨e, -, -, starts⟩
  · rw [same]
  · obtain ⟨-, -, fans, -, -⟩ := startFan_spec u e
    rw [starts, fans]
    by_cases same : d = e
    · rw [same, show (u.fans.set e _)[e] = _ from Vector.getElem_set_self _]
    · rw [show (u.fans.set e _)[d] = u.fans[d] from Vector.getElem_set_ne e.isLt d.isLt fun k => same (Fin.ext k.symm)]

theorem off_of_isOn_false {target : FanTarget} (off : target.isOn = false) : target = .off := by
  cases target with
  | off => rfl
  | on speed marked => exact nomatch off

/-- A record that was set and reports that were sent keep the record's measured rpm. -/
theorem emit_setFan_measured (s : State) (c : Chan) (r : FanRecord) (l : List Instr) :
    ((s.setFan c r).emit l).fans[c].measured = r.measured := congrArg FanRecord.measured (setFan_self s c r)

/-- However a rundown ends, reports alone are sent and the measured rpm stays. -/
theorem finishRundown_sends (s : State) (c : Chan) (state : f.state = .stopping) :
    (∃ k, (finishRundown (s.setFan c f) c).inFlight = s.inFlight ++ k) ∧
      (finishRundown (s.setFan c f) c).fans[c].measured = f.measured := by
  cases reason : f.stopReason with
  | failure kind =>
    rw [finishRundown_failure reason]
    exact ⟨⟨_, rfl⟩, emit_setFan_measured s c _ _⟩
  | commanded =>
    cases isOn : f.target.isOn with
    | false =>
      rw [finishRundown_off state reason (off_of_isOn_false isOn)]
      exact ⟨⟨_, rfl⟩, emit_setFan_measured s c _ _⟩
    | true =>
      rw [finishRundown_on state reason isOn, examine_measured]
      obtain ⟨k, sends⟩ := examine_sends (joined s c (haltedRecord f) [.fanStateReport c, .fanStateReport c]) (feedOf s c)
      unfold joined at sends ⊢
      rw [replaced_self]
      exact ⟨⟨_, sends.trans (by rw [replaced_inFlight, List.append_assoc])⟩, rfl⟩

theorem effectiveAction_iff (s : State) (c : Chan) (target : FanTarget) :
    (effectiveAction s c target == .lockOut) = true ↔ ¬(target.marked = true ∨ s.store.cfg.channels[c].action = .persist) := by
  unfold effectiveAction State.chan
  cases target.marked with
  | true => exact ⟨nofun, fun k => absurd (.inl rfl) k⟩
  | false => cases s.store.cfg.channels[c].action <;> simp

/-- A failed attempt that uses the retries up under LOCK-OUT. -/
theorem decidedState_exhausted {kind : FailKind} (room : f.retryCount < 255)
    (limit : s.store.cfg.channels[c].retryLimit ≤ f.retryCount + 1)
    (ends : ¬(f.target.marked = true ∨ s.store.cfg.channels[c].action = .persist)) :
    decidedState s c f kind = if kind = .speedLost then .failed else .lockedOut := by
  have count : min 255 (f.retryCount + 1) = f.retryCount + 1 := by omega
  unfold decidedState
  rw [count, if_pos]
  · cases kind <;> rfl
  · rw [Bool.and_eq_true, decide_eq_true_eq, effectiveAction_iff]
    exact ⟨limit, ends⟩

/-- A failed attempt that is to be made again. -/
theorem decidedState_goesOn {kind : FailKind} (room : f.retryCount < 255)
    (goes : f.retryCount + 1 < s.store.cfg.channels[c].retryLimit ∨ f.target.marked = true ∨
      s.store.cfg.channels[c].action = .persist) :
    decidedState s c f kind = if f.target.isOn then .retryWait else .off := by
  have count : min 255 (f.retryCount + 1) = f.retryCount + 1 := by omega
  unfold decidedState
  rw [count, if_neg]
  rw [Bool.and_eq_true, decide_eq_true_eq, effectiveAction_iff]
  rintro ⟨limit, ends⟩
  exact goes.elim (fun less => absurd limit (Nat.not_le.mpr less)) ends

/-- The decision on a failed attempt is that of R88. -/
theorem decided_of_record {kind : FailKind} (state : f.state = .stopping) (room : f.retryCount < 255)
    (own : t.fans[c] = decidedRecord s c f kind)
    (sends : l = changeSends s c f.state (decidedState s c f kind) ++
      conditionSends f.failedCondition (decidedCondition s c f) .fanFailed c.val) :
    attemptDecided s t c f kind l := by
  have count : min 255 (f.retryCount + 1) = f.retryCount + 1 := by omega
  have moves : f.state ≠ decidedState s c f kind := by
    rw [state, ← attemptState_setFan]
    rcases attemptState_cases (s.setFan c f) c kind with k | k | ⟨k, -⟩ | k <;> rw [k] <;> nofun
  have condition : decidedCondition s c f = true ↔
      f.failedCondition = true ∨ f.retryCount + 1 = s.store.cfg.channels[c].retryLimit := by
    unfold decidedCondition
    rw [count, Bool.or_eq_true, beq_iff_eq]
    rfl
  have report : .fanStateReport c ∈ changeSends s c f.state (decidedState s c f kind) := by
    unfold changeSends
    rw [if_neg moves]
    exact List.mem_cons_self
  unfold attemptDecided
  rw [own, sends]
  refine ⟨⟨_, _, _, by rw [← count]; rfl⟩, fun limit ends => ?_, fun goes => ⟨fun isOn => ?_, fun off => ?_⟩, condition,
    fun clear reached => ?_, fun out j hj => ?_, List.mem_append_left _ report⟩
  · have decides := decidedState_exhausted (kind := kind) room limit ends
    refine ⟨decides, if_neg ?_⟩
    rw [decides]
    split <;> nofun
  · have decides := decidedState_goesOn (kind := kind) room goes
    rw [isOn] at decides
    exact ⟨decides, if_pos decides⟩
  · have decides := decidedState_goesOn (kind := kind) room goes
    rw [off] at decides
    exact ⟨decides, if_neg (by rw [decides]; nofun)⟩
  · refine List.mem_append_right _ ?_
    rw [condition.mpr (.inr reached), clear]
    exact List.mem_cons_self
  · refine List.mem_append_left _ ?_
    have unavailable : (decidedRecord s c f kind).state.available = false := by
      rcases out with k | k <;> rw [k] <;> rfl
    rw [changeSends_unavailable moves (.inr unavailable), state]
    exact List.mem_cons_of_mem _ hj

/-- The end of a rundown, whatever event it is part of (R87). -/
theorem rundown_ended (state : f.state = .stopping) (fixed : s.fans[c].state = .stopping)
    (sends : sent i s (finishRundown ((s.taken i).setFan c f) c) l) :
    rundownEnded s (finishRundown ((s.taken i).setFan c f) c) c f l := by
  refine ⟨fun reason off => ?_, fun reason isOn law => ?_, fun kind reason room => ?_⟩
  · exact record_left sends (finishRundown_off state reason off)
  · obtain ⟨frame, ⟨k, sends'⟩, examined⟩ := joined_taken law (by rw [fixed]; nofun) (finishRundown_on state reason isOn)
    exact ⟨frame, sent_unique sends sends' ▸ List.mem_cons_self, examined⟩
  · have form := finishRundown_failure (s := s.taken i) (c := c) reason
    obtain ⟨frame, reports, fans⟩ := record_left sends form
    refine ⟨frame, fun d other => ?_, decided_of_record state room ?_ reports⟩
    · rw [fans]
      exact Vector.getElem_set_ne c.isLt d.isLt fun same => other (Fin.ext same.symm)
    · rw [fans]
      exact Vector.getElem_set_self _

/-- Settles O36. -/
theorem rundownDecidesNextState : Obligations.RundownDecidesNextState := by
  intro s c power state
  have run : exec (.rundownLimitExpiry c) s = .next (finishRundown (s.taken (.rundownLimitExpiry c)) c) :=
    (onEvent_of_powered power : execRundownLimitExpiry c s = _).trans (congrArg _ (if_pos state))
  generalize Instr.rundownLimitExpiry c = i at run ⊢
  have own : (s.taken i).setFan c s.fans[c] = s.taken i := setFan_own (s.taken i) c
  obtain ⟨⟨l, sends⟩, -⟩ := finishRundown_sends (s.taken i) c state
  refine ⟨_, run, l, ?_⟩
  rw [← own]
  exact ⟨sends, rundown_ended state state sends⟩

/-! ### The timers -/

/-- A permit left free is held after the examination by a fan of the queue alone. -/
theorem permit_of_free (own : ∀ d ∈ q, feedOf s d = feedOf s c)
    (held : ((examine (replaced s c r none q l) (feedOf s c)).queue (feedOf s c)).permit = some d) : d ∈ q := by
  have queue := replaced_queue_self (s := s) (c := c) (r := r) (p := none) (q := q) (l := l)
  have waits := examine_permit (fun e he => (replaced_feedOf).trans (own e (by rw [queue] at he; exact he))) held
  rw [queue] at waits
  exact waits.resolve_left nofun

/-- Settles O35: each timer's effect is the replacement of the fan's record, followed where the queue is touched by its examination. -/
theorem fanTimersRunOut : Obligations.FanTimersRunOut := by
  intro s c power
  refine ⟨fun state law => ?_, ?_, fun n timer => ?_, fun law state => ?_⟩
  · have run : exec (.startWindowRunOut c) s =
        .next (examine (releasePermit (stopFan (s.taken (.startWindowRunOut c)) c (.failure .startFailed) s.fans[c]) c) (feedOf s c)) :=
      (onEvent_of_powered power : execStartWindowRunOut c s = _).trans (congrArg _ (if_pos state))
    generalize Instr.startWindowRunOut c = i at run ⊢
    rw [releasePermit_stopFan_eq (law.taken i) _ _ state] at run
    have out : c ∉ (s.queue (feedOf s c)).fans := law.not_mem _ (by rw [state]; nofun)
    generalize form : examine (replaced (s.taken i) c (stoppedRecord s.fans[c] (.failure .startFailed)) none
      ((s.taken i).queue (feedOf (s.taken i) c)).fans [.fanStateReport c]) (feedOf s c) = t at run
    obtain ⟨frame, ⟨k, sends⟩, examined⟩ := examined_taken form.symm (law.nodup _) fun d waits => law.own waits
    have own := examined.2.2.1 out
    refine ⟨t, _, run, sends, List.mem_cons_self, fun held => ?_, own, frame, examined, fun shut => ?_⟩
    · rw [← form] at held
      exact out (permit_of_free (s := s.taken i) (fun d waits => law.own waits) held)
    · obtain ⟨frame', sends', fans, own', -⟩ := replaced_taken (form.symm.trans (examined_stands (.inr shut)))
      exact ⟨frame', fans, own', sent_unique sends sends'⟩
  · obtain ⟨frame, -, fans⟩ := record_taken (s := s) (i := .settleTimeExpiry c) (c := c) (l := []) (emit_nil _).symm
    exact ⟨_, (onEvent_of_powered power : execSettleTimeExpiry c s = _), frame, fans⟩
  · obtain ⟨frame, -, fans⟩ := record_taken (s := s) (i := .cleanRunExpiry c) (c := c) (l := []) (emit_nil _).symm
    refine ⟨_, ?_, frame, fans⟩
    show execCleanRunExpiry c s = _
    unfold execCleanRunExpiry
    rw [onEvent_of_powered power, show (s.taken (.cleanRunExpiry c)).fans[c].timer = some (.cleanRun n) from timer]
    rfl
  · have run : exec (.retryWaitExpiry c) s =
        .next (examine (joinQueue (s.taken (.retryWaitExpiry c)) c s.fans[c]) (feedOf s c)) :=
      (onEvent_of_powered power : execRetryWaitExpiry c s = _).trans (congrArg _ (if_pos state))
    generalize Instr.retryWaitExpiry c = i at run ⊢
    have reports : changeSends (s.taken i) c (s.taken i).fans[c].state .queued = [.fanStateReport c] :=
      changeSends_available (by rw [show (s.taken i).fans[c].state = .retryWait from state]; nofun)
        (by rw [show (s.taken i).fans[c].state = .retryWait from state]; rfl) rfl
    rw [joinQueue_joined, reports] at run
    generalize form : examine (joined (s.taken i) c s.fans[c] [.fanStateReport c]) (feedOf s c) = t at run
    have unqueued : s.fans[c].state ≠ .queued := by rw [state]; nofun
    obtain ⟨frame, ⟨k, sends⟩, examined⟩ := joined_taken law unqueued form.symm
    refine ⟨t, _, run, sends, List.mem_cons_self, frame, examined, fun unmarked held => ?_⟩
    have last : insertFan ((s.taken i).setFan c (queuedRecord s.fans[c])) c
        (((s.taken i).queue (feedOf (s.taken i) c)).fans.filter (· != c)) = (s.queue (feedOf s c)).fans ++ [c] := by
      rw [taken_feedOf, taken_queue, filter_ne_of_not_mem (law.not_mem _ unqueued)]
      exact insertFan_unmarked (isMarked_setFan_self.trans unmarked)
    unfold joined at form
    rw [last] at form
    obtain ⟨frame', sends', fans, own, -⟩ := replaced_taken (form.symm.trans (examined_stands (.inl (by rw [taken_queue]; exact held))))
    exact ⟨frame', fans, own, sent_unique sends sends'⟩

end Sys2Proof.Machine

/-! The completed tachometer gates (R81, R84, R86, R87). -/

namespace Sys2Proof.Machine

open State

variable {s t u : State} {c d : Chan} {i : Instr} {r : FanRecord} {l : List Instr} {edges : Nat}

/-- A fan's record with the rpm a completed gate measured (R81). -/
def measuredRecord (s : State) (c : Chan) (edges : Nat) : FanRecord :=
  { s.fans[c] with measured := edges * 60 / s.store.cfg.channels[c].pulses }

/-- The state after a completed gate. -/
def gateTaken (s : State) (c : Chan) (edges : Nat) : State :=
  match s.fans[c].state with
  | .starting => gateInStarting s c (measuredRecord s c edges)
  | .running => gateInRunning s c (measuredRecord s c edges)
  | .stopping =>
    if rundownGate (s.chan c) (measuredRecord s c edges) then finishRundown (s.setFan c (measuredRecord s c edges)) c
    else s.setFan c (measuredRecord s c edges)
  | _ => s.setFan c (measuredRecord s c edges)

theorem execTachGateComplete_eq (power : s.powered = true) (c : Chan) (edges : Nat) :
    exec (.tachGateComplete c edges) s = .next (gateTaken (s.taken (.tachGateComplete c edges)) c edges) :=
  (onEvent_of_powered power : execTachGateComplete c edges s = _)

theorem goodGate_iff : goodGate (s.chan c) (measuredRecord s c edges) = true ↔
    s.store.cfg.channels[c].ratedRpm * s.fans[c].commanded / 100 ≤ 2 * (edges * 60 / s.store.cfg.channels[c].pulses) :=
  decide_eq_true_iff

theorem lowGate_iff : lowGate (s.chan c) (measuredRecord s c edges) = true ↔
    10 * (edges * 60 / s.store.cfg.channels[c].pulses) < 7 * (s.store.cfg.channels[c].ratedRpm * s.fans[c].commanded / 100) :=
  decide_eq_true_iff

theorem rundownGate_iff : rundownGate (s.chan c) (measuredRecord s c edges) = true ↔
    10 * (edges * 60 / s.store.cfg.channels[c].pulses) < s.store.cfg.channels[c].ratedRpm :=
  decide_eq_true_iff

/-! ### The test of each state -/

theorem gateTaken_starting (state : s.fans[c].state = .starting) :
    gateTaken s c edges =
      if s.store.cfg.channels[c].ratedRpm * s.fans[c].commanded / 100 ≤ 2 * (edges * 60 / s.store.cfg.channels[c].pulses) then
        if 1 ≤ s.fans[c].goodGates then startSucceeds s c (measuredRecord s c edges)
        else s.setFan c { measuredRecord s c edges with goodGates := s.fans[c].goodGates + 1 }
      else s.setFan c { measuredRecord s c edges with goodGates := 0 } := by
  unfold gateTaken gateInStarting
  rw [state]
  simp only [goodGate_iff]
  rfl

theorem gateTaken_running (state : s.fans[c].state = .running) :
    gateTaken s c edges =
      if s.fans[c].settle.isSome = true then s.setFan c (measuredRecord s c edges)
      else if 10 * (edges * 60 / s.store.cfg.channels[c].pulses) <
          7 * (s.store.cfg.channels[c].ratedRpm * s.fans[c].commanded / 100) then
        if 2 ≤ s.fans[c].lowGates then stopFan s c (.failure .speedLost) { measuredRecord s c edges with lowGates := 3 }
        else s.setFan c { measuredRecord s c edges with lowGates := s.fans[c].lowGates + 1 }
      else s.setFan c { measuredRecord s c edges with lowGates := 0 } := by
  unfold gateTaken gateInRunning
  rw [state]
  simp only [lowGate_iff]
  rfl

theorem gateTaken_stopping (state : s.fans[c].state = .stopping) :
    gateTaken s c edges =
      if 10 * (edges * 60 / s.store.cfg.channels[c].pulses) < s.store.cfg.channels[c].ratedRpm then
        finishRundown (s.setFan c (measuredRecord s c edges)) c
      else s.setFan c (measuredRecord s c edges) := by
  unfold gateTaken
  rw [state]
  simp only [rundownGate_iff]

theorem gateTaken_other (starting : s.fans[c].state ≠ .starting) (running : s.fans[c].state ≠ .running)
    (stopping : s.fans[c].state ≠ .stopping) : gateTaken s c edges = s.setFan c (measuredRecord s c edges) := by
  unfold gateTaken
  cases state : s.fans[c].state with
  | starting => exact absurd state starting
  | running => exact absurd state running
  | stopping => exact absurd state stopping
  | _ => rfl

/-- The second good gate in a row ends a start (R84). -/
theorem startSucceeds_of_starting (law : FansLaw s) (state : s.fans[c].state = .starting) (r : FanRecord) :
    startSucceeds s c r =
      examine (replaced s c (runningRecord r) none (s.queue (feedOf s c)).fans
        (.fanStateReport c :: (conditionSends r.failedCondition false .fanFailed c.val ++
          if r.failedCondition then availabilitySent s c false else []))) (feedOf s c) := by
  have reports : changeSends s c s.fans[c].state .running = [.fanStateReport c] :=
    changeSends_available (by rw [state]; nofun) (by rw [state]; rfl) rfl
  rw [startSucceeds_eq, released_of_held ((law.starting_iff c).mp state), successSends, reports]
  rfl

/-! ### What every gate leaves -/

/-- However a gate is judged, the fan holds the rpm it measured. -/
theorem gateTaken_measured (s : State) (c : Chan) (edges : Nat) :
    (gateTaken s c edges).fans[c].measured = edges * 60 / s.store.cfg.channels[c].pulses := by
  have set (r : FanRecord) (same : r.measured = edges * 60 / s.store.cfg.channels[c].pulses) :
      (s.setFan c r).fans[c].measured = edges * 60 / s.store.cfg.channels[c].pulses :=
    (congrArg FanRecord.measured (setFan_self s c r)).trans same
  by_cases starting : s.fans[c].state = .starting
  · rw [gateTaken_starting starting]
    split_ifs
    · rw [startSucceeds_eq, examine_measured, replaced_self]
      rfl
    · exact set _ rfl
    · exact set _ rfl
  by_cases running : s.fans[c].state = .running
  · rw [gateTaken_running running]
    split_ifs
    · exact set _ rfl
    · exact set _ rfl
    · exact set _ rfl
    · exact set _ rfl
  by_cases stopping : s.fans[c].state = .stopping
  · rw [gateTaken_stopping stopping]
    split_ifs
    · exact (finishRundown_sends s c (f := measuredRecord s c edges) stopping).2
    · exact set _ rfl
  · rw [gateTaken_other starting running stopping]
    exact set _ rfl

theorem gateTaken_sends (s : State) (i : Instr) (c : Chan) (edges : Nat) : ∃ l, sent i s (gateTaken (s.taken i) c edges) l := by
  have set (r : FanRecord) : ∃ l, sent i s ((s.taken i).setFan c r) l := ⟨[], (List.append_nil _).symm⟩
  by_cases starting : (s.taken i).fans[c].state = .starting
  · rw [gateTaken_starting starting]
    split_ifs
    · rw [startSucceeds_eq]
      obtain ⟨k, sends⟩ := examine_sends (replaced (s.taken i) c (runningRecord (measuredRecord (s.taken i) c edges))
        (released (s.taken i) c) ((s.taken i).queue (feedOf (s.taken i) c)).fans
        (successSends (s.taken i) c (measuredRecord (s.taken i) c edges).failedCondition)) (feedOf (s.taken i) c)
      exact ⟨_, sends.trans (by rw [replaced_inFlight, List.append_assoc]; rfl)⟩
    · exact set _
    · exact set _
  by_cases running : (s.taken i).fans[c].state = .running
  · rw [gateTaken_running running]
    split_ifs
    · exact set _
    · exact ⟨_, rfl⟩
    · exact set _
    · exact set _
  by_cases stopping : (s.taken i).fans[c].state = .stopping
  · rw [gateTaken_stopping stopping]
    split_ifs
    · exact (finishRundown_sends (s.taken i) c (f := measuredRecord (s.taken i) c edges) stopping).1
    · exact set _
  · rw [gateTaken_other starting running stopping]
    exact set _

/-- A gate changes no other fan outside the queues (R81). -/
theorem gateTaken_fans (law : FansLaw s) (other : d ≠ c) (unqueued : s.fans[d].state ≠ .queued) :
    (gateTaken s c edges).fans[d] = s.fans[d] := by
  have set (r : FanRecord) : (s.setFan c r).fans[d] = s.fans[d] :=
    Vector.getElem_set_ne c.isLt d.isLt fun same => other (Fin.ext same.symm)
  have out (f : Feed) : d ∉ (s.queue f).fans := law.not_mem f unqueued
  by_cases starting : s.fans[c].state = .starting
  · rw [gateTaken_starting starting]
    split_ifs
    · rw [startSucceeds_eq, examine_fans, replaced_other other]
      rw [replaced_queue_self]
      exact out _
    · exact set _
    · exact set _
  by_cases running : s.fans[c].state = .running
  · rw [gateTaken_running running]
    split_ifs
    · exact set _
    · exact set _
    · exact set _
    · exact set _
  by_cases stopping : s.fans[c].state = .stopping
  · rw [gateTaken_stopping stopping]
    split_ifs
    · cases reason : (measuredRecord s c edges).stopReason with
      | failure kind =>
        rw [finishRundown_failure (f := measuredRecord s c edges) reason]
        exact set _
      | commanded =>
        cases isOn : (measuredRecord s c edges).target.isOn with
        | false =>
          rw [finishRundown_off (f := measuredRecord s c edges) stopping reason (off_of_isOn_false isOn)]
          exact set _
        | true =>
          rw [finishRundown_on (f := measuredRecord s c edges) stopping reason isOn]
          unfold joined
          rw [examine_fans, replaced_other other]
          rw [replaced_queue_self, (insertFan_perm _ _ _).mem_iff]
          simp [other, out]
    · exact set _
  · rw [gateTaken_other starting running stopping]
    exact set _

/-- Settles O34: the test of the fan's state gives the state after the gate, which is read off. -/
theorem tachometerGates : Obligations.TachometerGates := by
  intro s c edges power law
  have run := execTachGateComplete_eq power c edges
  generalize Instr.tachGateComplete c edges = i at run ⊢
  obtain ⟨l, sends⟩ := gateTaken_sends s i c edges
  have left {r : FanRecord} (form : gateTaken (s.taken i) c edges = (s.taken i).setFan c r) :
      onlyChanges [.fans, .inFlight] s (gateTaken (s.taken i) c edges) ∧ l = [] ∧
        (gateTaken (s.taken i) c edges).fans = s.fans.set c r := record_left sends (form.trans (emit_nil _).symm)
  have tests (state : s.fans[c].state = .running) (settled : s.fans[c].settle = none) :=
    (gateTaken_running (s := s.taken i) (edges := edges) state).trans
      (if_neg (by rw [show (s.taken i).fans[c].settle = none from settled]; nofun))
  refine ⟨_, run, l, sends, fun d other unqueued => gateTaken_fans (law.taken i) other unqueued, gateTaken_measured _ c edges,
    fun state good first => ?_, fun state good second => ?_, fun state bad => ?_, fun state settles => ?_,
    fun state settled low few => ?_, fun state settled low many => ?_, fun state settled fast => ?_, fun state turns => ?_,
    fun state slow => ?_, fun starting running stopping => ?_⟩
  · have none : ¬ 1 ≤ (s.taken i).fans[c].goodGates := fun some => absurd (first ▸ some : 1 ≤ 0) (by decide)
    exact left ((gateTaken_starting (s := s.taken i) state).trans ((if_pos good).trans ((if_neg none).trans
      (congrArg (fun n => (s.taken i).setFan c { measuredRecord (s.taken i) c edges with goodGates := n + 1 }) first))))
  · have form : gateTaken (s.taken i) c edges = _ :=
      (gateTaken_starting (s := s.taken i) state).trans ((if_pos good).trans ((if_pos second).trans
        (startSucceeds_of_starting (law.taken i) state (measuredRecord (s.taken i) c edges))))
    obtain ⟨frame, ⟨k, sends'⟩, examined⟩ := examined_taken form (law.nodup _) fun d waits => law.own waits
    have reports := sent_unique sends sends'
    refine ⟨frame, reports ▸ List.mem_cons_self, examined, fun failed => ?_⟩
    have failed' : (measuredRecord (s.taken i) c edges).failedCondition = true := failed
    rw [failed'] at reports
    rw [reports]
    exact ⟨List.mem_append_left _ (List.mem_cons_of_mem _ (List.mem_append_left _ List.mem_cons_self)), fun j hj =>
      List.mem_append_left _ (List.mem_cons_of_mem _ (List.mem_append_right _ hj))⟩
  · exact left ((gateTaken_starting (s := s.taken i) state).trans (if_neg (Nat.not_le.mpr bad)))
  · exact left ((gateTaken_running (s := s.taken i) state).trans (if_pos (Option.isSome_iff_ne_none.mpr settles)))
  · exact left ((tests state settled).trans ((if_pos low).trans (if_neg (Nat.not_le.mpr few))))
  · refine record_left sends ((tests state settled).trans ((if_pos low).trans ((if_pos many).trans ?_)))
    exact stopFan_eq (s.taken i) c _ _ (by rw [show (s.taken i).fans[c].state = .running from state]; rfl)
  · exact left ((tests state settled).trans (if_neg (Nat.not_lt.mpr fast)))
  · exact left ((gateTaken_stopping (s := s.taken i) state).trans (if_neg (Nat.not_lt.mpr turns)))
  · have form := (gateTaken_stopping (s := s.taken i) state).trans (if_pos slow)
    rw [form] at sends ⊢
    exact rundown_ended (f := measuredRecord (s.taken i) c edges) state state sends
  · exact left (gateTaken_other (s := s.taken i) starting running stopping)

end Sys2Proof.Machine

/-! FAN-SERVICE and the fans' restart (R91, R92, R98). -/

namespace Sys2Proof.Machine

open State

variable {s t u : State} {c d : Chan} {i : Instr} {r : FanRecord} {p : Option Chan} {q : List Chan} {l : List Instr} {f : Feed}

/-! ### Answered requests -/

theorem respond_frame {parts : List Part} (a : Response) (frame : onlyChanges parts s u) (flight : .inFlight ∈ parts) :
    onlyChanges (.port :: parts) s (u.respond a) := by
  refine onlyChanges_trans (onlyChanges_mono frame fun k hk => List.mem_cons_of_mem _ hk)
    (onlyChanges_mono (respond_onlyChanges _ _) fun k hk => ?_)
  rcases List.mem_cons.mp hk with rfl | hk
  · exact List.mem_cons_self
  · exact List.mem_cons_of_mem _ (List.mem_singleton.mp hk ▸ flight)

/-- A request whose effect leaves the port, answered DONE with an empty payload. -/
theorem request_left {code : Nat} {effect : State → State × Status × List Byte} (r : ready s) (form : effect (s.taken i) = done u [])
    (port : u.port = s.port) (sends : sent i s u l) :
    onRequest i code s effect = .next (u.respond { code := code, status := .done, payload := [] }) ∧
      sent i s (u.respond { code := code, status := .done, payload := [] }) (l ++ [.responseSent]) ∧
      answering s (u.respond { code := code, status := .done, payload := [] }) code .done [] := by
  refine ⟨(onRequest_of_ready r).trans (by rw [form]; rfl), ?_, ?_⟩
  · show u.inFlight ++ [.responseSent] = s.inFlight.erase i ++ (l ++ [.responseSent])
    rw [show u.inFlight = s.inFlight.erase i ++ l from sends, List.append_assoc]
  · rw [answering, ← port]
    rfl

@[simp] theorem respond_queue (a : Response) : (s.respond a).queue f = s.queue f := by cases f <;> rfl

/-- A replacement and examination is seen in the queues, fans, dampers and gates alone. -/
theorem replacedAndExamined_left {v : State} (queues : ∀ f, v.queue f = t.queue f) (fans : v.fans = t.fans)
    (dampers : v.dampers = t.dampers) (gates : v.gates = t.gates) (h : replacedAndExamined s t c r p q) :
    replacedAndExamined s v c r p q := by
  unfold replacedAndExamined examinedAs at *
  simp only [queues, fans, dampers, gates]
  exact h

/-! ### Into service -/

/-- A queue holds no fan after an examination that it did not hold before. -/
theorem mem_of_mem_examine (own : ∀ d ∈ (u.queue f).fans, feedOf u d = f) (waits : d ∈ ((examine u f).queue f).fans) :
    d ∈ (u.queue f).fans := by
  rcases examine_cases u f with same | ⟨e, he, -, starts⟩
  · exact same ▸ waits
  · obtain ⟨queue, -, -, -, -⟩ := startFan_spec u e
    rw [own e he] at queue
    rw [starts, queue] at waits
    exact (List.mem_filter.mp waits).1

/-- A fan enters SERVICE: its record, what is sent, and, under the laws, its place outside queue and permit (R92). -/
theorem enterService_spec (s : State) (c : Chan) :
    (enterService s c).fans[c] = serviceRecord s.fans[c] ∧
      (∃ k, (enterService s c).inFlight = s.inFlight ++ (changeSends s c s.fans[c].state .service ++ k)) ∧
      (enterService s c).port = s.port ∧
      (FansLaw s → c ∉ ((enterService s c).queue (feedOf s c)).fans ∧ ((enterService s c).queue (feedOf s c)).permit ≠ some c) ∧
      (s.fans[c].state ≠ .starting →
        onlyChanges [.fans, .queueA, .queueB, .inFlight] s (enterService s c) ∧
          ∀ d : Chan, d ≠ c → (enterService s c).fans[d] = s.fans[d]) := by
  have out (q : List Chan) : c ∉ q.filter (· != c) := fun waits => absurd (List.mem_filter.mp waits).2 (by simp)
  rw [enterService_eq]
  by_cases starting : s.fans[c].state = .starting
  · rw [if_pos starting]
    have frame := onlyChanges_trans (onlyChanges_mono (replaced_onlyChanges s c (serviceRecord s.fans[c]) (released s c)
      ((s.queue (feedOf s c)).fans.filter (· != c)) (changeSends s c s.fans[c].state .service)) (by simp)) (examine_onlyChanges _ (feedOf s c))
    refine ⟨?_, ?_, frame .port (by decide), fun law => ?_, fun k => absurd starting k⟩
    · rw [examine_fans (by rw [replaced_queue_self]; exact out _), replaced_self]
    · obtain ⟨k, sends⟩ := examine_sends (replaced s c (serviceRecord s.fans[c]) (released s c)
        ((s.queue (feedOf s c)).fans.filter (· != c)) (changeSends s c s.fans[c].state .service)) (feedOf s c)
      exact ⟨k, sends.trans (by rw [replaced_inFlight, List.append_assoc])⟩
    · rw [released_of_held ((law.starting_iff c).mp starting)]
      have own : ∀ d ∈ (s.queue (feedOf s c)).fans.filter (· != c), feedOf s d = feedOf s c := fun d hd =>
        law.own (List.mem_filter.mp hd).1
      refine ⟨fun waits => ?_, fun held => out _ (permit_of_free own held)⟩
      have before := mem_of_mem_examine (fun d hd => (replaced_feedOf).trans (own d (by rw [replaced_queue_self] at hd; exact hd))) waits
      rw [replaced_queue_self] at before
      exact out _ before
  · rw [if_neg starting]
    have frame := replaced_onlyChanges s c (serviceRecord s.fans[c]) (s.queue (feedOf s c)).permit
      ((s.queue (feedOf s c)).fans.filter (· != c)) (changeSends s c s.fans[c].state .service)
    refine ⟨replaced_self, ⟨[], by rw [replaced_inFlight, List.append_nil]⟩, frame .port (by decide), fun law => ?_, fun _ =>
      ⟨frame, fun d other => replaced_other other⟩⟩
    rw [replaced_queue_self]
    exact ⟨out _, law.permit_ne starting⟩

/-! ### Out of service -/

theorem serviceOff_other (service : s.fans[c].state ≠ .service) (locked : s.fans[c].state ≠ .lockedOut)
    (failed : s.fans[c].state ≠ .failed) : serviceOff s c = s := by
  unfold serviceOff
  cases state : s.fans[c].state with
  | service => exact absurd state service
  | lockedOut => exact absurd state locked
  | failed => exact absurd state failed
  | _ => rfl

theorem serviceOff_service (state : s.fans[c].state = .service) : serviceOff s c = syncGate (clearFan s c .off) c := by
  unfold serviceOff
  rw [state]

theorem serviceOff_locked (state : s.fans[c].state = .lockedOut ∨ s.fans[c].state = .failed) : serviceOff s c = releaseLocked s c := by
  unfold serviceOff
  rcases state with k | k <;> rw [k]

/-- A standby fan's gate comes into use at its feedback's position (R106). -/
theorem syncGate_enters {reach : BitVec 8} (role : s.store.cfg.channels[c].role = .standby reach) (out : s.gates[c].inUse = false) :
    syncGate s c = s.setGate c (gateFromFeedback s.pins.feedback[c] s.fans[c].state) := by
  unfold syncGate State.chan
  rw [role, out]

theorem syncGate_stays (agrees : s.gates[c].inUse = true ↔ ∃ reach, s.store.cfg.channels[c].role = .standby reach) :
    syncGate s c = s := by
  unfold syncGate State.chan
  cases role : s.store.cfg.channels[c].role with
  | standby reach =>
    rw [agrees.mpr ⟨reach, role⟩]
  | zone z =>
    have out : s.gates[c].inUse = false := Bool.eq_false_iff.mpr fun inUse => by
      obtain ⟨reach, k⟩ := agrees.mp inUse
      exact nomatch role.symm.trans k
    rw [out]
  | unused =>
    have out : s.gates[c].inUse = false := Bool.eq_false_iff.mpr fun inUse => by
      obtain ⟨reach, k⟩ := agrees.mp inUse
      exact nomatch role.symm.trans k
    rw [out]

/-- The gate of a fan in another role goes out of use, and its condition is cleared (R106, R108). -/
theorem syncGate_leaves (role : ∀ reach, s.store.cfg.channels[c].role ≠ .standby reach) (inUse : s.gates[c].inUse = true) :
    syncGate s c = (s.setGate c GateRecord.unused).emit (conditionSends s.gates[c].jamCondition false .gateJammed c.val) := by
  rw [← reportChange_sends]
  unfold syncGate State.chan
  rw [inUse]
  cases k : s.store.cfg.channels[c].role with
  | standby reach => exact absurd k (role reach)
  | zone z => rfl
  | unused => rfl

/-- A gate's record replaced, and reports sent, whatever the role of its fan (R106). -/
theorem syncGate_form (s : State) (c : Chan) : ∃ g l, syncGate s c = (s.setGate c g).emit l ∧
    (g.inUse = true ↔ ∃ reach, s.store.cfg.channels[c].role = .standby reach) := by
  have own : s.setGate c s.gates[c] = s := by
    unfold setGate
    simp
  by_cases agrees : s.gates[c].inUse = true ↔ ∃ reach, s.store.cfg.channels[c].role = .standby reach
  · exact ⟨s.gates[c], [], by rw [syncGate_stays agrees, own, emit_nil], agrees⟩
  by_cases standby : ∃ reach, s.store.cfg.channels[c].role = .standby reach
  · obtain ⟨reach, role⟩ := standby
    have out : s.gates[c].inUse = false := Bool.eq_false_iff.mpr fun inUse => agrees ⟨fun _ => ⟨reach, role⟩, fun _ => inUse⟩
    refine ⟨_, [], (syncGate_enters role out).trans (emit_nil _).symm, fun _ => ⟨reach, role⟩, fun _ => ?_⟩
    cases s.pins.feedback[c] <;> rfl
  · have inUse : s.gates[c].inUse = true := Bool.not_eq_false _ ▸ fun out => agrees
      ⟨fun k => (nomatch out.symm.trans k), fun k => absurd k standby⟩
    refine ⟨_, _, syncGate_leaves (fun reach role => standby ⟨reach, role⟩) inUse, ?_⟩
    exact ⟨nofun, fun k => absurd k standby⟩

/-- What the clearing of a fan sends (R91, R93). -/
theorem mem_clearSends (unavailable : s.fans[c].state = .service ∨ s.fans[c].state = .lockedOut ∨ s.fans[c].state = .failed) :
    .fanStateReport c ∈ clearSends s c ∧ (∀ i ∈ availabilitySent s c (s.fans[c].state == .service), i ∈ clearSends s c) ∧
      (s.fans[c].failedCondition = true → .conditionClearReport .fanFailed c.val ∈ clearSends s c) := by
  have available : s.fans[c].state.available = false ∧ s.fans[c].state ≠ .off := by
    rcases unavailable with k | k | k <;> rw [k] <;> exact ⟨rfl, nofun⟩
  unfold clearSends
  rw [changeSends_unavailable available.2 (.inl available.1)]
  refine ⟨List.mem_cons_self, fun i hi => List.mem_append_left _ (List.mem_cons_of_mem _ hi), fun failed => ?_⟩
  rw [failed]
  exact List.mem_append_right _ List.mem_cons_self

/-- A fan cleared with an on target stored, which joins its queue (R82, R92). -/
theorem releaseLocked_on (isOn : s.fans[c].target.isOn = true) :
    releaseLocked s c =
      examine (joined s c (clearedRecord s.fans[c] s.fans[c].target) (clearSends s c ++ [.fanStateReport c])) (feedOf s c) := by
  rw [releaseLocked_eq, if_pos isOn, clearFan_eq, joinQueue_setFan]
  rfl

theorem chanOf_val (c : Chan) : chanOf c.val = some c := dif_pos c.isLt

theorem chanOf_none {channel : Nat} (high : 15 < channel) : chanOf channel = none := dif_neg (by omega)

theorem fanServiceAt_on (state : s.fans[c].state ≠ .service) : fanServiceAt s c.val 1 = done (enterService s c) [] := by
  have on : serviceOn s c = enterService s c := if_neg state
  unfold fanServiceAt
  rw [chanOf_val, ← on]
  rfl

theorem fanServiceAt_off (s : State) (c : Chan) : fanServiceAt s c.val 0 = done (serviceOff s c) [] := by
  unfold fanServiceAt
  rw [chanOf_val]
  rfl

theorem fanServiceAt_refused {channel setting : Nat} (bad : 15 < channel ∨ 1 < setting) :
    fanServiceAt s channel setting = refuse s .fieldRange := by
  unfold fanServiceAt
  cases known : chanOf channel with
  | none => rfl
  | some c =>
    match setting, bad with
    | 0, bad => exact nomatch (chanOf_none (bad.resolve_right (by omega))).symm.trans known
    | 1, bad => exact nomatch (chanOf_none (bad.resolve_right (by omega))).symm.trans known
    | _ + 2, _ => rfl

/-! ### The restart -/

/-- A fan's record after the fans' restart (R98). -/
def restartedRecord (r : FanRecord) : FanRecord :=
  if r.state = .lockedOut ∨ r.state = .failed then clearedRecord r .off else r

/-- What a fan's restart sends (R93, R98). -/
def restartSends (s : State) (c : Chan) : List Instr :=
  if s.fans[c].state = .lockedOut ∨ s.fans[c].state = .failed then clearSends s c else []

theorem restartFan_eq (s : State) (c : Chan) :
    restartFan s c = (s.setFan c (restartedRecord s.fans[c])).emit (restartSends s c) := by
  unfold restartedRecord restartSends
  by_cases cleared : s.fans[c].state = .lockedOut ∨ s.fans[c].state = .failed
  · rw [if_pos cleared, if_pos cleared, ← clearFan_eq]
    unfold restartFan
    rcases cleared with k | k <;> rw [k]
  · rw [if_neg cleared, if_neg cleared, setFan_own, emit_nil]
    unfold restartFan
    cases state : s.fans[c].state with
    | lockedOut => exact absurd (.inl state) cleared
    | failed => exact absurd (.inr state) cleared
    | _ => rfl

/-- The restart of some fans, each once. -/
theorem restart_spec (cs : List Chan) : ∀ s : State, cs.Nodup →
    onlyChanges [.fans, .inFlight] s (cs.foldl restartFan s) ∧
      (∀ c ∈ cs, (cs.foldl restartFan s).fans[c] = restartedRecord s.fans[c]) ∧
      (∀ c, c ∉ cs → (cs.foldl restartFan s).fans[c] = s.fans[c]) ∧
      (cs.foldl restartFan s).inFlight = s.inFlight ++ cs.flatMap (restartSends s) := by
  induction cs with
  | nil => exact fun s _ => ⟨onlyChanges_refl _ _, by simp, fun _ _ => rfl, by simp⟩
  | cons d rest ih =>
    intro s once
    obtain ⟨out, once⟩ := List.nodup_cons.mp once
    obtain ⟨frame, own, other, sends⟩ := ih (restartFan s d) once
    have form := restartFan_eq s d
    have first : onlyChanges [.fans, .inFlight] s (restartFan s d) := by
      rw [form]
      exact onlyChanges_trans (onlyChanges_mono (setFan_onlyChanges _ _ _) (by simp))
        (onlyChanges_mono (emit_onlyChanges _ _) (by simp))
    have self : (restartFan s d).fans[d] = restartedRecord s.fans[d] := by
      rw [form]
      exact setFan_self s d _
    have apart (c : Chan) (hc : c ≠ d) : (restartFan s d).fans[c] = s.fans[c] := by
      rw [form]
      exact Vector.getElem_set_ne d.isLt c.isLt fun same => hc (Fin.ext same.symm)
    refine ⟨onlyChanges_trans first frame, fun c hc => ?_, fun c hc => ?_, ?_⟩
    · rw [List.foldl_cons]
      by_cases same : c = d
      · rw [same, other d out, self]
      · rw [own c ((List.mem_cons.mp hc).resolve_left same), apart c same]
    · obtain ⟨different, hc⟩ := not_or.mp (mt List.mem_cons.mpr hc)
      rw [List.foldl_cons, other c hc, apart c different]
    · have later : rest.flatMap (restartSends (restartFan s d)) = rest.flatMap (restartSends s) := by
        refine List.flatMap_congr fun c hc => ?_
        unfold restartSends clearSends changeSends availabilitySent
        rw [apart c fun same => out (same ▸ hc), first .store (by decide)]
      rw [List.foldl_cons, sends, later, form, List.flatMap_cons, ← List.append_assoc]
      rfl

/-- FAN-SERVICE carried out (R92, R164). -/
theorem fanService_run (r : ready s) {channel setting : Nat} (port : u.port = s.port)
    (form : fanServiceAt (s.taken (.fanService channel setting)) channel setting = done u [])
    (sends : sent (.fanService channel setting) s u l) :
    exec (.fanService channel setting) s = .next (u.respond { code := 0x30, status := .done, payload := [] }) ∧
      sent (.fanService channel setting) s (u.respond { code := 0x30, status := .done, payload := [] }) (l ++ [.responseSent]) ∧
      answering s (u.respond { code := 0x30, status := .done, payload := [] }) 0x30 .done [] :=
  request_left (effect := fun s => fanServiceAt s channel setting) r form port sends

/-- What FAN-SERVICE off does to a fan in LOCKED-OUT or FAILED (R82, R92, log entry 44). -/
theorem releaseLocked_taken (i : Instr) (locked : s.fans[c].state = .lockedOut ∨ s.fans[c].state = .failed) :
    (∃ k, sent i s (releaseLocked (s.taken i) c) (clearSends s c ++ k)) ∧
      (s.fans[c].target = .off →
        onlyChanges [.fans, .inFlight] s (releaseLocked (s.taken i) c) ∧
          (releaseLocked (s.taken i) c).fans = s.fans.set c (clearedRecord s.fans[c] s.fans[c].target)) ∧
      (s.fans[c].target.isOn = true → FansLaw s →
        onlyChanges [.fans, .queueA, .queueB, .dampers, .gates, .inFlight] s (releaseLocked (s.taken i) c) ∧
          ∃ q, joinedAs s c s.fans[c].target.marked (s.queue (feedOf s c)).fans q ∧
            replacedAndExamined s (releaseLocked (s.taken i) c) c (queuedRecord (clearedRecord s.fans[c] s.fans[c].target))
              (s.queue (feedOf s c)).permit q) := by
  cases isOn : s.fans[c].target.isOn with
  | false =>
    have form : releaseLocked (s.taken i) c =
        ((s.taken i).setFan c (clearedRecord s.fans[c] s.fans[c].target)).emit (clearSends (s.taken i) c) := by
      rw [releaseLocked_eq, if_neg (by rw [show (s.taken i).fans[c].target.isOn = false from isOn]; nofun), clearFan_eq]
      rfl
    obtain ⟨frame, sends, fans⟩ := record_taken form
    exact ⟨⟨[], by rw [List.append_nil]; exact sends⟩, fun _ => ⟨frame, fans⟩, nofun⟩
  | true =>
    have form := releaseLocked_on (s := s.taken i) isOn
    refine ⟨?_, fun off => ?_, fun _ law => ?_⟩
    · rw [form]
      unfold joined
      obtain ⟨k, sends⟩ := examine_sends (joined (s.taken i) c (clearedRecord (s.taken i).fans[c] (s.taken i).fans[c].target)
        (clearSends (s.taken i) c ++ [.fanStateReport c])) (feedOf (s.taken i) c)
      unfold joined at sends
      exact ⟨.fanStateReport c :: k, sends.trans (by rw [replaced_inFlight, List.append_assoc, List.append_assoc]; rfl)⟩
    · rw [off] at isOn
      exact nomatch isOn
    · obtain ⟨frame, -, examined⟩ := joined_taken law (by rcases locked with k | k <;> rw [k] <;> nofun) form
      exact ⟨frame, examined⟩

/-- What FAN-SERVICE off does to a fan in SERVICE (R92, R106). -/
theorem serviceOff_taken (i : Instr) (service : s.fans[c].state = .service) :
    (∃ k, sent i s (serviceOff (s.taken i) c) (clearSends s c ++ k)) ∧
      onlyChanges [.fans, .gates, .inFlight] s (serviceOff (s.taken i) c) ∧
      (serviceOff (s.taken i) c).fans = s.fans.set c (clearedRecord s.fans[c] .off) ∧
      (∀ d : Chan, d ≠ c → (serviceOff (s.taken i) c).gates[d] = s.gates[d]) ∧
      ((serviceOff (s.taken i) c).gates[c].inUse = true ↔ ∃ reach, s.store.cfg.channels[c].role = .standby reach) := by
  have form : serviceOff (s.taken i) c = syncGate (clearFan (s.taken i) c .off) c := serviceOff_service service
  obtain ⟨g, l, gate, inUse⟩ := syncGate_form (clearFan (s.taken i) c .off) c
  rw [clearFan_eq] at gate inUse form
  obtain ⟨frame, -, -⟩ := record_taken (s := s) (i := i) (c := c) (r := clearedRecord s.fans[c] .off) (l := clearSends s c) rfl
  rw [form]
  refine ⟨⟨l, ?_⟩, onlyChanges_trans (onlyChanges_mono frame (by simp)) (onlyChanges_mono (syncGate_onlyChanges _ c) (by simp)), ?_, ?_, ?_⟩
  · rw [gate, sent, ← List.append_assoc]
    rfl
  · rw [gate]
    rfl
  · rw [gate]
    exact fun d other => Vector.getElem_set_ne c.isLt d.isLt fun same => other (Fin.ext same.symm)
  · rw [gate, show ∀ v : State, ((v.setGate c g).emit l).gates[c] = g from fun v => Vector.getElem_set_self _]
    exact inUse

/-- Settles O37: FAN-SERVICE and the restart, by the state of the fan. -/
theorem serviceAndRestartClearFans : Obligations.ServiceAndRestartClearFans := by
  intro s
  refine ⟨?_, ?_, ?_, ?_⟩
  · rintro channel c r rfl state
    obtain ⟨own, ⟨k, sends⟩, port, law, rest⟩ := enterService_spec (s.taken (.fanService c.val 1)) c
    obtain ⟨run, sends', answer⟩ := fanService_run r port (fanServiceAt_on state) sends
    have reports : changeSends s c s.fans[c].state .service = .fanStateReport c :: availabilitySent s c false := by
      rw [changeSends_unavailable state (.inr rfl), beq_eq_false_iff_ne.mpr state]
    have reported (j : Instr) (hj : j ∈ Instr.fanStateReport c :: availabilitySent s c false) :
        j ∈ changeSends s c s.fans[c].state .service ++ k ++ [.responseSent] :=
      List.mem_append_left _ (List.mem_append_left _ (reports ▸ hj))
    refine ⟨_, _, run, sends', answer, reported _ List.mem_cons_self, fun j hj => reported _ (List.mem_cons_of_mem _ hj), own,
      fun lawful => ?_, fun running => ?_⟩
    · rw [respond_queue]
      exact law (lawful.taken _)
    · obtain ⟨frame, others⟩ := rest running
      refine ⟨onlyChanges_mono (respond_frame _ (onlyChanges_trans (onlyChanges_mono (taken_onlyChanges s _) (by simp)) frame) (by simp))
        (by decide), others⟩
  · rintro channel c r rfl
    have form := fanServiceAt_off (s.taken (.fanService c.val 0)) c
    by_cases service : s.fans[c].state = .service
    · obtain ⟨⟨k, sends⟩, frame, fans, other, inUse⟩ := serviceOff_taken (.fanService c.val 0) service
      obtain ⟨run, sends', answer⟩ := fanService_run r (frame .port (by decide)) form sends
      obtain ⟨state, availability, condition⟩ := mem_clearSends (.inl service)
      have reported (j : Instr) (hj : j ∈ clearSends s c) : j ∈ clearSends s c ++ k ++ [.responseSent] :=
        List.mem_append_left _ (List.mem_append_left _ hj)
      refine ⟨_, run, _, sends', answer, fun k => absurd service k, fun _ =>
        ⟨onlyChanges_mono (respond_frame _ frame (by simp)) (by decide), fans, other, inUse.mpr, fun none => ?_⟩,
        fun locked => ?_, fun _ => ⟨reported _ state, fun j hj => reported j (availability j hj), fun failed => reported _ (condition failed)⟩⟩
      · exact Bool.eq_false_iff.mpr fun k => by
          obtain ⟨reach, role⟩ := inUse.mp k
          exact none reach role
      · rw [service] at locked
        exact absurd locked (by decide)
    by_cases locked : s.fans[c].state = .lockedOut ∨ s.fans[c].state = .failed
    · obtain ⟨⟨k, sends⟩, off, on⟩ := releaseLocked_taken (.fanService c.val 0) locked
      rw [serviceOff_locked (s := s.taken (.fanService c.val 0)) locked] at form
      have port : (releaseLocked (s.taken (.fanService c.val 0)) c).port = s.port :=
        releaseLocked_onlyChanges (s.taken (.fanService c.val 0)) c .port (by decide)
      obtain ⟨run, sends', answer⟩ := fanService_run r port form sends
      obtain ⟨state, availability, condition⟩ := mem_clearSends (.inr locked)
      have reported (j : Instr) (hj : j ∈ clearSends s c) : j ∈ clearSends s c ++ k ++ [.responseSent] :=
        List.mem_append_left _ (List.mem_append_left _ hj)
      refine ⟨_, run, _, sends', answer, fun _ out failed => absurd locked (not_or.mpr ⟨out, failed⟩), fun k => absurd k service,
        fun _ => ⟨fun target => ?_, fun isOn law => ?_⟩,
        fun _ => ⟨reported _ state, fun j hj => reported j (availability j hj), fun failed => reported _ (condition failed)⟩⟩
      · obtain ⟨frame, fans⟩ := off target
        exact ⟨onlyChanges_mono (respond_frame _ frame (by simp)) (by decide), fans⟩
      · obtain ⟨frame, q, place, examined⟩ := on isOn law
        refine ⟨onlyChanges_mono (respond_frame _ frame (by simp)) (by decide), q, place, ?_⟩
        exact replacedAndExamined_left (fun f => respond_queue _) rfl rfl rfl examined
    · obtain ⟨out, failed⟩ := not_or.mp locked
      rw [serviceOff_other (s := s.taken (.fanService c.val 0)) service out failed] at form
      obtain ⟨run, sends', answer⟩ := fanService_run (u := s.taken (.fanService c.val 0)) (l := []) r rfl form (List.append_nil _).symm
      exact ⟨_, run, _, sends', answer, fun _ _ _ =>
        ⟨respond_frame _ (taken_onlyChanges s _) (by simp), rfl⟩, fun k => absurd k service, fun k => absurd k locked,
        fun k => absurd k (not_or.mpr ⟨service, locked⟩)⟩
  · intro channel setting r bad
    obtain ⟨t, run, answer, -, -⟩ := onRequest_refused (i := .fanService channel setting) (code := 0x30)
      (f := fun s => fanServiceAt s channel setting) r (fanServiceAt_refused bad)
    exact ⟨t, run, answer⟩
  · intro power
    have run : exec .fanRestart s = .next (allChans.foldl restartFan (s.taken .fanRestart)) :=
      (onEvent_of_powered power : execFanRestart s = _)
    obtain ⟨frame, own, -, sends⟩ := restart_spec allChans (s.taken .fanRestart) (List.nodup_finRange 16)
    refine ⟨_, _, run, sends, onlyChanges_trans (onlyChanges_mono (taken_onlyChanges s _) (by simp)) frame, fun c => ⟨fun locked => ?_, ?_⟩⟩
    · have reported (j : Instr) (hj : j ∈ clearSends s c) : j ∈ allChans.flatMap (restartSends (s.taken .fanRestart)) := by
        refine List.mem_flatMap.mpr ⟨c, List.mem_finRange c, ?_⟩
        rw [show restartSends (s.taken .fanRestart) c = clearSends s c from if_pos locked]
        exact hj
      obtain ⟨state, availability, condition⟩ := mem_clearSends (.inr locked)
      have out : (s.fans[c].state == .service) = false := by rcases locked with k | k <;> rw [k] <;> rfl
      rw [out] at availability
      exact ⟨reported _ state, fun j hj => reported j (availability j hj), fun failed => reported _ (condition failed)⟩
    · exact own c (List.mem_finRange c)

end Sys2Proof.Machine

/-! The forced mark takes its fan to the front of its queue, and the targets of one evaluation join their queues in order (R94, R95, R179). -/

namespace Sys2Proof.Machine

open State

variable {s t u : State} {c d : Chan} {i : Instr} {r : FanRecord} {p : Option Chan} {q front behind : List Chan} {l : List Instr} {f : Feed}
  {speed : Nat}

/-! ### The forced mark -/

/-- The record of a fan that is given the forced mark outside STARTING, RUNNING, STOPPING and SERVICE (R83, R89). -/
def markedRecord (s : State) (c : Chan) (speed : Nat) : FanRecord :=
  { s.fans[c] with
    state := .queued, target := .on speed true
    timer := if s.fans[c].state = .queued then s.fans[c].timer else none
    retryCount := if s.fans[c].state = .lockedOut ∨ s.fans[c].state = .failed then 0 else s.fans[c].retryCount
    lastFailure := if s.fans[c].state = .lockedOut ∨ s.fans[c].state = .failed then none else s.fans[c].lastFailure }

/-- A fan that gains the mark is placed by it in its queue, which is examined (R83, R89, R94). -/
theorem targetTaken_marked (unmarked : s.fans[c].target.marked = false)
    (state : s.fans[c].state = .off ∨ s.fans[c].state = .lockedOut ∨ s.fans[c].state = .failed ∨ s.fans[c].state = .queued ∨
      s.fans[c].state = .retryWait) :
    targetTaken s c (.on speed true) =
      examine (replaced s c (markedRecord s c speed) (s.queue (feedOf s c)).permit
        (insertFan (s.setFan c (markedRecord s c speed)) c ((s.queue (feedOf s c)).fans.filter (· != c)))
        (changeSends s c s.fans[c].state .queued)) (feedOf s c) := by
  have other : s.fans[c].target ≠ .on speed true := fun same => by
    rw [same] at unmarked
    exact nomatch unmarked
  have stays : ¬ locksOut s c (.on speed true) = true := fun locks => nomatch unmarked.symm.trans (locksOut_iff.mp locks).1.1
  have gains : ((FanTarget.on speed true).marked && !s.fans[c].target.marked) = true := by rw [unmarked]; rfl
  have joins {r' : FanRecord} (rule : takeByState s c (.on speed true) = (joinQueue s c r', true))
      (same : queuedRecord r' = markedRecord s c speed) : targetTaken s c (.on speed true) =
        examine (replaced s c (markedRecord s c speed) (s.queue (feedOf s c)).permit
          (insertFan (s.setFan c (markedRecord s c speed)) c ((s.queue (feedOf s c)).fans.filter (· != c)))
          (changeSends s c s.fans[c].state .queued)) (feedOf s c) := by
    rw [targetTaken_of_true other rule, joinQueue_eq, same]
  rcases state with k | k | k | k | k
  · refine joins (takeByState_off k) ?_
    unfold queuedRecord markedRecord storedRecord
    rw [k]
    rfl
  · refine joins (takeByState_exhausted (.inl k)) ?_
    unfold queuedRecord markedRecord storedRecord
    rw [k]
    rfl
  · refine joins (takeByState_exhausted (.inr k)) ?_
    unfold queuedRecord markedRecord storedRecord
    rw [k]
    rfl
  · have record : storedRecord s c (.on speed true) = markedRecord s c speed := by
      have neither : ¬(s.fans[c].state = .lockedOut ∨ s.fans[c].state = .failed) := by rw [k]; decide
      unfold storedRecord markedRecord
      rw [if_pos k, if_neg neither, if_neg neither, ← k]
    rw [targetTaken_of_true other ((takeByState_queued k).trans ((if_neg stays).trans ((if_neg nofun).trans (if_pos gains)))),
      placeInQueue_eq, record, k]
    rfl
  · refine joins ((takeByState_retryWait k).trans ((if_neg stays).trans ((if_neg nofun).trans (if_pos gains)))) ?_
    unfold queuedRecord markedRecord storedRecord
    rw [k]
    rfl

/-- Settles O30: the mark's place in the queue is the one between the front and the unmarked fans behind it. -/
theorem forcedMarkGoesToTheFront : Obligations.ForcedMarkGoesToTheFront := by
  intro s z c speed front behind power law accepts unmarked state split last rest
  have run := (execFanTargets_single power z c (.on speed true)).1 accepts
  generalize Instr.fanTargets z [(c, .on speed true)] = i at run ⊢
  have out : c ∉ front ++ behind := split ▸ fun waits => absurd waits (List.Nodup.not_mem_erase (law.nodup _))
  have own : ∀ d ∈ front ++ behind, feedOf s d = feedOf s c := split ▸ fun d hd => law.own (List.mem_of_mem_erase hd)
  have once : (front ++ behind).Nodup := split ▸ (law.nodup _).erase c
  have place : insertFan ((s.taken i).setFan c (markedRecord s c speed)) c (((s.taken i).queue (feedOf s c)).fans.filter (· != c)) =
      front ++ c :: behind := by
    rw [taken_queue, filter_ne_eq_erase (law.nodup _), split]
    exact insertFan_setFan_marked (s := s.taken i) rfl out last rest
  have form := targetTaken_marked (s := s.taken i) (speed := speed) unmarked state
  rw [taken_feedOf, show markedRecord (s.taken i) c speed = markedRecord s c speed from rfl, place] at form
  have perm : (front ++ c :: behind).Perm (c :: (front ++ behind)) := List.perm_middle
  obtain ⟨frame, ⟨k, sends⟩, examined⟩ := examined_taken form (perm.nodup_iff.mpr (List.nodup_cons.mpr ⟨out, once⟩)) fun d hd =>
    (List.mem_cons.mp (perm.mem_iff.mp hd)).elim (fun same => same ▸ rfl) (own d)
  rw [taken_queue] at examined
  refine ⟨_, _, run, sends, frame, fun joins => ?_, fun held => ?_, fun cleared j hj => ?_, examined⟩
  · refine List.mem_append_left _ ?_
    show .fanStateReport c ∈ changeSends s c s.fans[c].state .queued
    unfold changeSends
    rw [if_neg joins]
    exact List.mem_cons_self
  · exact (replaced_taken (form.trans (examined_stands (.inl (by rw [taken_queue]; exact held))))).1
  · refine List.mem_append_left _ ?_
    show j ∈ changeSends s c s.fans[c].state .queued
    have left : s.fans[c].state ≠ .queued ∧ s.fans[c].state.available = false ∧ (s.fans[c].state == .service) = false := by
      rcases cleared with k | k <;> rw [k] <;> exact ⟨nofun, rfl, rfl⟩
    obtain ⟨moves, unavailable, service⟩ := left
    rw [changeSends_unavailable moves (.inl unavailable), service]
    exact List.mem_cons_of_mem _ hj

/-! ### The targets of one evaluation -/

/-- A fan that an unmarked on target starts. -/
def startsBy (s : State) (z : Zone) (p : Chan × FanTarget) : Prop :=
  s.fans[p.1].state = .off ∧ s.fans[p.1].target = .off ∧ acceptsTarget s z p.1 ∧ ∃ speed, p.2 = .on speed false

/-- A fan that an unmarked on target starts joins its queue at the tail (R82, R94). -/
theorem takeTarget_starts {z : Zone} {p : Chan × FanTarget} (starts : startsBy s z p) (out : p.1 ∉ (s.queue (feedOf s p.1)).fans) :
    takeTarget s p.1 p.2 =
      (replaced s p.1 { s.fans[p.1] with state := .queued, target := p.2, timer := none } (s.queue (feedOf s p.1)).permit
        ((s.queue (feedOf s p.1)).fans ++ [p.1]) [.fanStateReport p.1], true) := by
  obtain ⟨state, off, -, speed, on⟩ := starts
  have other : ¬(s.fans[p.1].state = .service ∨ s.fans[p.1].target = p.2) := by
    rw [state, off, on]
    exact not_or.mpr ⟨nofun, nofun⟩
  have last : insertFan (s.setFan p.1 (queuedRecord (storedRecord s p.1 p.2))) p.1
      ((s.queue (feedOf s p.1)).fans.filter (· != p.1)) = (s.queue (feedOf s p.1)).fans ++ [p.1] := by
    rw [filter_ne_of_not_mem out]
    refine insertFan_unmarked (isMarked_setFan_self.trans ?_)
    show p.2.marked = false
    rw [on]
    rfl
  have sends : changeSends s p.1 s.fans[p.1].state .queued = [.fanStateReport p.1] :=
    changeSends_available (by rw [state]; nofun) (by rw [state]; rfl) rfl
  unfold takeTarget
  rw [if_neg other, takeByState_off state, if_pos (by rw [on]; rfl), joinQueue_eq, last, sends]
  rfl

/-- The fans of some targets, each given once, join their queues in the targets' order (R94, R179). -/
theorem takeTargets_starts (z : Zone) (targets : List (Chan × FanTarget)) : ∀ s : State, (targets.map Prod.fst).Nodup →
    (∀ p ∈ targets, startsBy s z p ∧ p.1 ∉ (s.queue (feedOf s p.1)).fans) →
    onlyChanges [.fans, .queueA, .queueB, .inFlight] s (takeTargets z targets s).1 ∧
      (∀ p ∈ targets, (takeTargets z targets s).1.fans[p.1] =
        { s.fans[p.1] with state := .queued, target := p.2, timer := none }) ∧
      (∀ c, c ∉ targets.map Prod.fst → (takeTargets z targets s).1.fans[c] = s.fans[c]) ∧
      (∀ f, (takeTargets z targets s).1.queue f =
        { s.queue f with fans := (s.queue f).fans ++ (targets.map Prod.fst).filter fun c => decide (feedOf s c = f) }) ∧
      (takeTargets z targets s).1.inFlight = s.inFlight ++ (targets.map Prod.fst).map .fanStateReport ∧
      (takeTargets z targets s).2 = targets.map fun p => feedOf s p.1 := by
  induction targets with
  | nil =>
    intro s _ _
    exact ⟨onlyChanges_refl _ _, by simp, fun _ _ => rfl, fun f => by simp [takeTargets], by simp [takeTargets], rfl⟩
  | cons p rest ih =>
    intro s once starts
    obtain ⟨out, once⟩ := List.nodup_cons.mp (List.map_cons ▸ once)
    obtain ⟨first, unqueued⟩ := starts p List.mem_cons_self
    have rule := takeTarget_starts first unqueued
    have form : takeTargets z (p :: rest) s =
        ((takeTargets z rest (takeTarget s p.1 p.2).1).1, feedOf s p.1 :: (takeTargets z rest (takeTarget s p.1 p.2).1).2) := by
      rw [takeTargets, if_pos (targetAccepted_iff.mpr first.2.2.1)]
      dsimp only
      rw [rule]
      rfl
    rw [form, rule]
    generalize step : replaced s p.1 { s.fans[p.1] with state := .queued, target := p.2, timer := none }
      (s.queue (feedOf s p.1)).permit ((s.queue (feedOf s p.1)).fans ++ [p.1]) [.fanStateReport p.1] = u
    have feed (d : Chan) : feedOf u d = feedOf s d := step ▸ replaced_feedOf
    have others (d : Chan) (hd : d ≠ p.1) : u.fans[d] = s.fans[d] := step ▸ replaced_other hd
    have queue (g : Feed) : u.queue g = { s.queue g with fans := (s.queue g).fans ++ if feedOf s p.1 = g then [p.1] else [] } := by
      rw [← step]
      by_cases own : feedOf s p.1 = g
      · rw [← own, replaced_queue_self, if_pos rfl]
      · rw [replaced_queue_other (Ne.symm own), if_neg own, List.append_nil]
    have frame : onlyChanges [.fans, .queueA, .queueB, .inFlight] s u := step ▸ replaced_onlyChanges _ _ _ _ _ _
    have ready (e) (he : e ∈ rest) : startsBy u z e ∧ e.1 ∉ (u.queue (feedOf u e.1)).fans := by
      have apart : e.1 ≠ p.1 := fun same => out (same ▸ List.mem_map_of_mem he)
      obtain ⟨⟨state, off, accepts, on⟩, waits⟩ := starts e (List.mem_cons_of_mem _ he)
      refine ⟨⟨others _ apart ▸ state, others _ apart ▸ off, ?_, on⟩, ?_⟩
      · unfold acceptsTarget
        rw [frame .store (by decide), frame .alloc (by decide)]
        exact accepts
      · rw [feed, queue, List.mem_append, not_or]
        refine ⟨waits, ?_⟩
        split
        · simpa using apart
        · simp
    obtain ⟨later, own, apart, queues, sends, touched⟩ := ih u once ready
    refine ⟨onlyChanges_trans frame later, fun e he => ?_, fun c hc => ?_, fun g => ?_, ?_, ?_⟩
    · by_cases same : e.1 = p.1
      · have eq : e = p := (List.mem_cons.mp he).resolve_right fun later => out (same ▸ List.mem_map_of_mem later)
        rw [eq, apart p.1 out, ← step]
        exact replaced_self
      · have mem : e ∈ rest := (List.mem_cons.mp he).resolve_left fun eq => same (congrArg Prod.fst eq)
        rw [own e mem, others _ same]
    · rw [List.map_cons, List.mem_cons, not_or] at hc
      rw [apart c hc.2, others c hc.1]
    · rw [queues, queue, List.map_cons, List.filter_cons]
      simp only [feed]
      by_cases own : feedOf s p.1 = g
      · simp [own]
      · simp [own]
    · rw [sends, ← step, replaced_inFlight, List.append_assoc]
      rfl
    · rw [touched]
      simp only [feed]
      rfl

/-! ### The examinations of the two feeds -/

/-- What an answered path check leaves of the dampers and gates (R102, R107). -/
theorem recordAnswer_changes (s : State) (c : Chan) :
    (∀ z : Zone, (recordAnswer s c).dampers[z] = s.dampers[z] ∨
      (recordAnswer s c).dampers[z] = { s.dampers[z] with blocking := s.dampers[z].blocking.insert c }) ∧
      ∀ d : Chan, (recordAnswer s c).gates[d] = s.gates[d] ∨ (recordAnswer s c).gates[d] = { s.gates[d] with answered := true } := by
  unfold recordAnswer
  cases (s.chan c).role with
  | unused => exact ⟨fun _ => .inl rfl, fun _ => .inl rfl⟩
  | zone y =>
    refine ⟨fun z => ?_, fun _ => .inl rfl⟩
    by_cases same : z = y
    · rw [same]
      exact .inr (Vector.getElem_set_self _)
    · exact .inl (Vector.getElem_set_ne y.isLt z.isLt fun k => same (Fin.ext k.symm))
  | standby reach =>
    refine ⟨fun _ => .inl rfl, fun d => ?_⟩
    by_cases same : d = c
    · rw [same]
      exact .inr (Vector.getElem_set_self _)
    · exact .inl (Vector.getElem_set_ne c.isLt d.isLt fun k => same (Fin.ext k.symm))

/-- What an examination leaves of the dampers, gates, grants and configuration. -/
theorem examine_changes (u : State) (f : Feed) :
    (∀ z : Zone, ∃ c, (examine u f).dampers[z] = u.dampers[z] ∨
      (examine u f).dampers[z] = { u.dampers[z] with blocking := u.dampers[z].blocking.insert c }) ∧
      ∀ d : Chan, (examine u f).gates[d] = u.gates[d] ∨ (examine u f).gates[d] = { u.gates[d] with answered := true } := by
  rcases examine_cases u f with same | ⟨e, -, -, starts⟩
  · rw [same]
    exact ⟨fun _ => ⟨0, .inl rfl⟩, fun _ => .inl rfl⟩
  · rw [starts, startFan_eq, replaced_dampers, replaced_gates]
    obtain ⟨dampers, gates⟩ := recordAnswer_changes u e
    exact ⟨fun z => ⟨e, dampers z⟩, gates⟩

/-- An examination keeps a blocking set's fans, and an answered path check. -/
theorem examine_blocking (u : State) (f : Feed) {z : Zone} (blocks : d ∈ u.dampers[z].blocking) :
    d ∈ (examine u f).dampers[z].blocking := by
  obtain ⟨c, same | inserts⟩ := (examine_changes u f).1 z
  · rw [same]
    exact blocks
  · rw [inserts]
    exact List.mem_insert_of_mem blocks

theorem examine_answered (u : State) (f : Feed) (answered : u.gates[d].answered = true) :
    (examine u f).gates[d].answered = true := by
  rcases (examine_changes u f).2 d with same | answers
  · rw [same]
    exact answered
  · rw [answers]

/-- An examination opens no path and closes none. -/
theorem openPath_examine (u : State) (f : Feed) : openPath (examine u f) d ↔ openPath u d := by
  have frame := examine_onlyChanges u f
  have damper (z : Zone) : (examine u f).dampers[z].state = u.dampers[z].state := by
    obtain ⟨c, same | inserts⟩ := (examine_changes u f).1 z
    · rw [same]
    · rw [inserts]
  have gate : (examine u f).gates[d].state = u.gates[d].state ∧ (examine u f).gates[d].pending = u.gates[d].pending := by
    rcases (examine_changes u f).2 d with same | answers
    · rw [same]
      exact ⟨rfl, rfl⟩
    · rw [answers]
      exact ⟨rfl, rfl⟩
  have store : (examine u f).store = u.store := frame .store (by decide)
  have alloc : (examine u f).alloc = u.alloc := frame .alloc (by decide)
  unfold openPath
  simp only [damper, gate, store, alloc]

theorem examine_feedOf (u : State) (f : Feed) : feedOf (examine u f) d = feedOf u d :=
  feedOf_congr (examine_onlyChanges u f .store (by decide))

theorem startedRecord_congr {n : Nat} (store : t.store = s.store) (fan : t.fans[d] = s.fans[d]) :
    startedRecord t d n = startedRecord s d n := by
  unfold startedRecord runningSpeed
  rw [store, fan]

/-- A queue's examination stands when the other feed's queue is examined after it. -/
theorem examinedAs_then {g : Feed} (other : f ≠ g) (here : ∀ d ∈ q, feedOf t d = f) (there : ∀ d ∈ (t.queue g).fans, feedOf t d = g)
    (h : examinedAs u t f q) : examinedAs u (examine t g) f q := by
  obtain ⟨stands, starts⟩ := h
  have queue : (examine t g).queue f = t.queue f := examine_queue_other there other
  have fans (d : Chan) (hd : d ∈ q) : (examine t g).fans[d] = t.fans[d] :=
    examine_fans fun waits => other ((here d hd).symm.trans (there d waits))
  refine ⟨fun held => ?_, fun before d behind speed marked free split shut opened target => ?_⟩
  · obtain ⟨own, kept⟩ := stands held
    exact ⟨queue.trans own, fun d hd => (fans d hd).trans (kept d hd)⟩
  · obtain ⟨own, first, kept, damper, gate⟩ := starts before d behind speed marked free split shut opened target
    have mem (e : Chan) (he : e ∈ before ++ behind) : e ∈ q := by
      rw [split]
      exact List.perm_middle.mem_iff.mpr (List.mem_cons_of_mem _ he)
    exact ⟨queue.trans own, (fans d (by rw [split]; simp)).trans first, fun e he => (fans e (mem e he)).trans (kept e he),
      fun z role => examine_blocking t g (damper z role), fun reach role => examine_answered t g (gate reach role)⟩

/-- A queue's examination is the same after the other feed's queue was examined. -/
theorem examinedAs_after {g : Feed} (other : f ≠ g) (here : ∀ d ∈ q, feedOf u d = f) (there : ∀ d ∈ (u.queue g).fans, feedOf u d = g)
    (h : examinedAs (examine u g) t f q) : examinedAs u t f q := by
  obtain ⟨stands, starts⟩ := h
  have queue : (examine u g).queue f = u.queue f := examine_queue_other there other
  have store : (examine u g).store = u.store := examine_onlyChanges u g .store (by decide)
  have fans (d : Chan) (hd : d ∈ q) : (examine u g).fans[d] = u.fans[d] :=
    examine_fans fun waits => other ((here d hd).symm.trans (there d waits))
  simp only [openPath_examine, queue, store] at stands starts
  refine ⟨fun held => ?_, fun before d behind speed marked free split shut opened target => ?_⟩
  · obtain ⟨own, kept⟩ := stands held
    exact ⟨own, fun d hd => (kept d hd).trans (fans d hd)⟩
  · have mem (e : Chan) (he : e ∈ before ++ behind) : e ∈ q := by
      rw [split]
      exact List.perm_middle.mem_iff.mpr (List.mem_cons_of_mem _ he)
    have waits : d ∈ q := by rw [split]; simp
    obtain ⟨own, first, kept, holds⟩ := starts before d behind speed marked free split shut opened (by rw [fans d waits]; exact target)
    exact ⟨own, first.trans (startedRecord_congr store (fans d waits)), fun e he => (kept e he).trans (fans e (mem e he)), holds⟩

/-- The queues hold fans of their feeds, each once. -/
def QueuesLaw (u : State) : Prop := ∀ f, (u.queue f).fans.Nodup ∧ ∀ d ∈ (u.queue f).fans, feedOf u d = f

theorem examineTouched_eq (touched : List Feed) (u : State) :
    (.a ∈ touched → .b ∈ touched → examineTouched touched u = examine (examine u .a) .b) ∧
      (.a ∈ touched → .b ∉ touched → examineTouched touched u = examine u .a) ∧
      (.a ∉ touched → .b ∈ touched → examineTouched touched u = examine u .b) ∧
      (.a ∉ touched → .b ∉ touched → examineTouched touched u = u) := by
  have eq : examineTouched touched u =
      if .b ∈ touched then examine (if .a ∈ touched then examine u .a else u) .b else if .a ∈ touched then examine u .a else u := by
    simp [examineTouched]
  rw [eq]
  exact ⟨fun a b => by rw [if_pos b, if_pos a], fun a b => by rw [if_neg b, if_pos a], fun a b => by rw [if_pos b, if_neg a],
    fun a b => by rw [if_neg b, if_neg a]⟩

/-- The queues after one feed's examination. -/
theorem QueuesLaw.examine_other (law : QueuesLaw u) {f g : Feed} (other : f ≠ g) : (examine u g).queue f = u.queue f :=
  examine_queue_other (law g).2 other

/-- Each touched queue is examined, whichever is examined first (R179). -/
theorem examineTouched_examined (law : QueuesLaw u) {touched : List Feed} (mem : f ∈ touched) :
    examinedAs u (examineTouched touched u) f (u.queue f).fans := by
  obtain ⟨both, onlyA, onlyB, -⟩ := examineTouched_eq touched u
  have own (g : Feed) : examinedAs u (examine u g) g (u.queue g).fans := examine_examinedAs u g (law g).1 (law g).2
  have ab : Feed.a ≠ Feed.b := nofun
  cases f with
  | a =>
    by_cases b : .b ∈ touched
    · rw [both mem b]
      refine examinedAs_then ab (fun d hd => (examine_feedOf u .a).trans ((law .a).2 d hd)) (fun d hd => ?_) (own .a)
      rw [law.examine_other ab.symm] at hd
      exact (examine_feedOf u .a).trans ((law .b).2 d hd)
    · rw [onlyA mem b]
      exact own .a
  | b =>
    by_cases a : .a ∈ touched
    · rw [both a mem]
      have queue := law.examine_other ab.symm
      refine examinedAs_after ab.symm (law .b).2 (law .a).2 ?_
      rw [← queue]
      refine examine_examinedAs (examine u .a) .b (by rw [queue]; exact (law .b).1) fun d hd => ?_
      rw [queue] at hd
      exact (examine_feedOf u .a).trans ((law .b).2 d hd)
    · rw [onlyB a mem]
      exact own .b

/-- An untouched queue stays, with its fans. -/
theorem examineTouched_other (law : QueuesLaw u) {touched : List Feed} (out : f ∉ touched) :
    (examineTouched touched u).queue f = u.queue f ∧ ∀ d ∈ (u.queue f).fans, (examineTouched touched u).fans[d] = u.fans[d] := by
  obtain ⟨-, onlyA, onlyB, neither⟩ := examineTouched_eq touched u
  have one (g : Feed) (other : f ≠ g) : (examine u g).queue f = u.queue f ∧ ∀ d ∈ (u.queue f).fans, (examine u g).fans[d] = u.fans[d] :=
    ⟨law.examine_other other, fun d hd => examine_fans fun waits => other (((law f).2 d hd).symm.trans ((law g).2 d waits))⟩
  cases f with
  | a =>
    by_cases b : .b ∈ touched
    · rw [onlyB out b]
      exact one .b nofun
    · rw [neither out b]
      exact ⟨rfl, fun _ _ => rfl⟩
  | b =>
    by_cases a : .a ∈ touched
    · rw [onlyA a out]
      exact one .a nofun
    · rw [neither a out]
      exact ⟨rfl, fun _ _ => rfl⟩

/-- A fan of neither queue stays. -/
theorem examineTouched_fans (law : QueuesLaw u) (touched : List Feed) (out : ∀ f, d ∉ (u.queue f).fans) :
    (examineTouched touched u).fans[d] = u.fans[d] := by
  obtain ⟨both, onlyA, onlyB, neither⟩ := examineTouched_eq touched u
  by_cases a : .a ∈ touched <;> by_cases b : .b ∈ touched
  · rw [both a b, examine_fans (by rw [law.examine_other (f := .b) (g := .a) nofun]; exact out _), examine_fans (out _)]
  · rw [onlyA a b, examine_fans (out _)]
  · rw [onlyB a b, examine_fans (out _)]
  · rw [neither a b]

theorem examineTouched_stands (touched : List Feed) (held : ∀ f, (u.queue f).permit ≠ none) : examineTouched touched u = u := by
  obtain ⟨both, onlyA, onlyB, neither⟩ := examineTouched_eq touched u
  have stands (g : Feed) : examine u g = u := examine_stands (.inl (held g))
  by_cases a : .a ∈ touched <;> by_cases b : .b ∈ touched
  · rw [both a b, stands .a, stands .b]
  · rw [onlyA a b, stands .a]
  · rw [onlyB a b, stands .b]
  · exact neither a b

theorem ascending_isChain : ∀ targets : List (Chan × FanTarget), ascending targets = true →
    (targets.map Prod.fst).IsChain (· < ·)
  | [], _ => .nil
  | [_], _ => .singleton _
  | p :: e :: rest, order => by
    obtain ⟨less, later⟩ := Bool.and_eq_true_iff.mp order
    exact .cons_cons (of_decide_eq_true less) (ascending_isChain (e :: rest) later)

theorem ascending_nodup (targets : List (Chan × FanTarget)) (order : ascending targets = true) : (targets.map Prod.fst).Nodup :=
  (List.isChain_iff_pairwise.mp (ascending_isChain targets order)).imp fun less => ne_of_lt less

/-- Settles O29: the targets join their queues in order, and then each touched queue is examined once. -/
theorem targetsJoinQueueInOrder : Obligations.TargetsJoinQueueInOrder := by
  intro s z targets power law order starts
  have run : exec (.fanTargets z targets) s = .next (examineTouched (takeTargets z targets (s.taken (.fanTargets z targets))).2
      (takeTargets z targets (s.taken (.fanTargets z targets))).1) := (onEvent_of_powered power : execFanTargets z targets s = _)
  generalize Instr.fanTargets z targets = i at run ⊢
  have once := ascending_nodup targets order
  have unqueued (p) (hp : p ∈ targets) (f : Feed) : p.1 ∉ (s.queue f).fans := law.not_mem f (by rw [(starts p hp).1]; nofun)
  obtain ⟨frame, own, others, queues, sends, touched⟩ := takeTargets_starts z targets (s.taken i) once fun p hp =>
    ⟨starts p hp, by rw [taken_queue]; exact unqueued p hp _⟩
  rw [touched] at run
  generalize (takeTargets z targets (s.taken i)).1 = u at frame own others queues sends run
  have store : u.store = s.store := frame .store (by decide)
  have feed (d : Chan) : feedOf u d = feedOf s d := feedOf_congr store
  simp only [taken_queue] at queues
  have lawful : QueuesLaw u := fun f => by
    rw [queues]
    refine ⟨?_, fun d hd => ?_⟩
    · refine List.nodup_append.mpr ⟨law.nodup f, once.filter _, fun a ha b hb same => ?_⟩
      obtain ⟨p, hp, rfl⟩ := List.mem_map.mp (List.mem_filter.mp hb).1
      exact unqueued p hp f (same ▸ ha)
    · rw [feed]
      rcases List.mem_append.mp hd with hd | hd
      · exact law.own hd
      · exact of_decide_eq_true (List.mem_filter.mp hd).2
  refine ⟨_, u.fans, run, ?_, own, others, fun f fed => ?_, fun f unfed => ?_, fun c out state => ?_, fun heldA heldB => ?_⟩
  · exact onlyChanges_trans (onlyChanges_mono (taken_onlyChanges s i) (by simp)) (onlyChanges_trans (onlyChanges_mono frame (by simp))
      (examineTouched_onlyChanges _ _))
  · have mem : f ∈ targets.map fun p => feedOf (s.taken i) p.1 := by
      obtain ⟨p, hp, own⟩ := fed
      exact List.mem_map.mpr ⟨p, hp, own⟩
    have examined := examineTouched_examined lawful mem
    rw [queues] at examined
    refine examinedAs_congr ?_ ?_ ?_ ?_ ?_ ?_ examined
    · rfl
    · exact store
    · exact frame .dampers (by decide)
    · exact frame .gates (by decide)
    · exact frame .alloc (by decide)
    · rw [queues]
      cases f <;> rfl
  · have out : f ∉ targets.map fun p => feedOf (s.taken i) p.1 := fun mem => by
      obtain ⟨p, hp, own⟩ := List.mem_map.mp mem
      exact unfed p hp own
    have none : (targets.map Prod.fst).filter (fun c => decide (feedOf s c = f)) = [] := by
      refine List.filter_eq_nil_iff.mpr fun c hc own => ?_
      obtain ⟨p, hp, rfl⟩ := List.mem_map.mp hc
      exact unfed p hp (of_decide_eq_true own)
    have same : u.queue f = s.queue f := by
      rw [queues]
      show { s.queue f with fans := (s.queue f).fans ++ (targets.map Prod.fst).filter fun c => decide (feedOf s c = f) } = _
      rw [none, List.append_nil]
    obtain ⟨queue, kept⟩ := examineTouched_other lawful out
    rw [same] at queue kept
    refine ⟨queue, fun c waits => (kept c waits).trans (others c fun mem => ?_)⟩
    obtain ⟨p, hp, rfl⟩ := List.mem_map.mp mem
    exact unqueued p hp f waits
  · refine (examineTouched_fans lawful _ fun f waits => ?_).trans (others c out)
    rw [queues] at waits
    rcases List.mem_append.mp waits with waits | joins
    · exact law.not_mem f state waits
    · exact out (List.mem_filter.mp joins).1
  · have held (f : Feed) : (u.queue f).permit ≠ none := by
      rw [queues]
      cases f with
      | a => exact heldA
      | b => exact heldB
    rw [examineTouched_stands _ held]
    exact ⟨onlyChanges_trans (onlyChanges_mono (taken_onlyChanges s i) (by simp)) frame, sends⟩

end Sys2Proof.Machine

/-! The zone dampers: requests, end switches and travel timers (R99 to R105). -/

namespace Sys2Proof.Machine

open State

variable {s t u : State} {c : Chan} {y z : Zone} {i : Instr} {d d' : DamperRecord} {l k : List Instr} {state : DamperState}
  {request : DamperRequest}

/-! ### One replacement -/

theorem mem_conditionSends_active {kind : HazardKind} {n : Nat} : .conditionActiveReport kind n ∈ conditionSends false true kind n := by
  simp [conditionSends]

theorem mem_conditionSends_clear {kind : HazardKind} {n : Nat} : .conditionClearReport kind n ∈ conditionSends true false kind n := by
  simp [conditionSends]

/-- A damper's record in another state, with its condition brought up to date (R104). -/
def movedRecord (d : DamperRecord) (state : DamperState) (timer : Option Nat) : DamperRecord :=
  { d with state := state, timer := timer, jamCondition := jamAfter d.jamCondition state }

/-- What a damper's change of state sends (R104, R105). -/
def moveSends (z : Zone) (d : DamperRecord) (state : DamperState) : List Instr :=
  conditionSends d.jamCondition (jamAfter d.jamCondition state) .damperJammed z.val ++
    ((if (d.state == .jammed) != (state == .jammed) then [.evaluationRequest z] else []) ++
     (if state == .opened && d.state != .opened then bothFeeds.map (.damperOpenReport z) else []))

theorem moveDamper_eq (s : State) (z : Zone) (d : DamperRecord) (state : DamperState) (timer : Option Nat) :
    moveDamper s z d state timer = (s.setDamper z (movedRecord d state timer)).emit (moveSends z d state) := by
  unfold moveSends
  rw [← emit_emit, ← reportChange_sends]
  rfl

theorem setDamper_self (s : State) (z : Zone) : s.setDamper z s.dampers[z] = s := by
  unfold setDamper
  simp

/-- A damper's record alone was replaced. -/
theorem damper_taken (form : t = ((s.taken i).setDamper z d).emit l) :
    onlyChanges [.dampers, .inFlight] s t ∧ sent i s t l ∧ t.dampers = s.dampers.set z d ∧ t.dampers[z] = d ∧
      ∀ y : Zone, y ≠ z → t.dampers[y] = s.dampers[y] := by
  subst form
  exact ⟨onlyChanges_trans (onlyChanges_mono (taken_onlyChanges s i) (by simp))
    (onlyChanges_trans (onlyChanges_mono (setDamper_onlyChanges _ _ _) (by simp)) (onlyChanges_mono (emit_onlyChanges _ _) (by simp))),
    rfl, rfl, Vector.getElem_set_self _, fun y other => Vector.getElem_set_ne z.isLt y.isLt fun same => other (Fin.ext same.symm)⟩

theorem reading_open_iff : reading s z = .fullyOpen ↔ s.pins.openSwitch[z] = true ∧ s.pins.closedSwitch[z] = false := by
  unfold reading readingOf
  cases s.pins.openSwitch[z] <;> cases s.pins.closedSwitch[z] <;> simp

theorem reading_closed_iff : reading s z = .fullyClosed ↔ s.pins.openSwitch[z] = false ∧ s.pins.closedSwitch[z] = true := by
  unfold reading readingOf
  cases s.pins.openSwitch[z] <;> cases s.pins.closedSwitch[z] <;> simp

/-- The change of state that begins a travel open, or ends one at once (R101). -/
def openMove (s : State) (z : Zone) : DamperState × Option Nat :=
  if reading s z = .fullyOpen then (.opened, none) else (.opening, some s.store.cfg.zones[z].damperTimeout)

/-- The change of state that begins a travel closed, or ends one at once (R102). -/
def closeMove (s : State) (z : Zone) : DamperState × Option Nat :=
  if reading s z = .fullyClosed then (.closed, none) else (.closing, some s.store.cfg.zones[z].damperTimeout)

theorem beginOpen_eq (s : State) (z : Zone) (d : DamperRecord) :
    beginOpen s z d = (s.setDamper z (movedRecord d (openMove s z).1 (openMove s z).2)).emit (moveSends z d (openMove s z).1) := by
  rw [← moveDamper_eq]
  unfold beginOpen openMove
  split <;> rfl

theorem beginClose_eq (s : State) (z : Zone) (d : DamperRecord) :
    beginClose s z d = (s.setDamper z (movedRecord d (closeMove s z).1 (closeMove s z).2)).emit (moveSends z d (closeMove s z).1) := by
  rw [← moveDamper_eq]
  unfold beginClose closeMove
  split <;> rfl

/-! ### Requests -/

/-- A damper's record and what is sent once a request that differs from the stored one is taken (R100 to R102). -/
def requestTaken (s : State) (z : Zone) (request : DamperRequest) : DamperRecord × List Instr :=
  let d := { s.dampers[z] with request := request }
  if request = .noRequest then ({ d with closePending := false }, [])
  else if request = .close then
    if d.state = .closed ∨ d.state = .closing then (d, [])
    else if d.blocking = [] then (movedRecord d (closeMove s z).1 (closeMove s z).2, moveSends z d (closeMove s z).1)
    else ({ d with closePending := true }, [])
  else
    let d := { d with closePending := false }
    if d.state = .opening ∨ d.state = .opened then (d, [])
    else (movedRecord d (openMove s z).1 (openMove s z).2, moveSends z d (openMove s z).1)

theorem takeOpen_eq (opens : request = .openPlain ∨ request = .openForced) :
    takeOpen s z { s.dampers[z] with request := request } =
      (s.setDamper z (requestTaken s z request).1).emit (requestTaken s z request).2 := by
  have other : request ≠ .noRequest ∧ request ≠ .close := by rcases opens with rfl | rfl <;> exact ⟨nofun, nofun⟩
  unfold requestTaken takeOpen
  dsimp only
  rw [if_neg other.1, if_neg other.2]
  cases s.dampers[z].state with
  | opening => exact (emit_nil _).symm
  | opened => exact (emit_nil _).symm
  | closed => exact beginOpen_eq s z _
  | closing => exact beginOpen_eq s z _
  | jammed => exact beginOpen_eq s z _

/-- A close request, by the state of the damper and its blocking set (R102). -/
theorem requestTaken_close (s : State) (z : Zone) :
    (s.dampers[z].state = .closed ∨ s.dampers[z].state = .closing →
      requestTaken s z .close = ({ s.dampers[z] with request := .close }, [])) ∧
      (¬(s.dampers[z].state = .closed ∨ s.dampers[z].state = .closing) →
        (s.dampers[z].blocking ≠ [] →
          requestTaken s z .close = ({ s.dampers[z] with request := .close, closePending := true }, [])) ∧
        (s.dampers[z].blocking = [] → requestTaken s z .close =
          (movedRecord { s.dampers[z] with request := .close } (closeMove s z).1 (closeMove s z).2,
            moveSends z { s.dampers[z] with request := .close } (closeMove s z).1))) := by
  have first : ¬ DamperRequest.close = .noRequest := nofun
  unfold requestTaken
  dsimp only
  rw [if_neg first, if_pos rfl]
  exact ⟨fun state => if_pos state, fun state => ⟨fun blocked => (if_neg state).trans (if_neg blocked),
    fun free => (if_neg state).trans (if_pos free)⟩⟩

theorem takeClose_eq (s : State) (z : Zone) :
    takeClose s z { s.dampers[z] with request := .close } =
      (s.setDamper z (requestTaken s z .close).1).emit (requestTaken s z .close).2 := by
  obtain ⟨stays, moves⟩ := requestTaken_close s z
  by_cases state : s.dampers[z].state = .closed ∨ s.dampers[z].state = .closing
  · rw [stays state, emit_nil]
    unfold takeClose
    dsimp only
    rcases state with k | k <;> rw [k]
  have waits (d : DamperRecord) (same : d.state = s.dampers[z].state) : takeClose s z d =
      if d.blocking.isEmpty then beginClose s z d else s.setDamper z { d with closePending := true } := by
    unfold takeClose
    rw [← same] at state
    cases k : d.state with
    | closed => exact absurd (.inl k) state
    | closing => exact absurd (.inr k) state
    | _ => rfl
  obtain ⟨blocked, free⟩ := moves state
  rw [waits { s.dampers[z] with request := .close } rfl]
  by_cases empty : s.dampers[z].blocking = []
  · rw [free empty, ← beginClose_eq]
    exact if_pos (List.isEmpty_iff.mpr empty)
  · rw [blocked empty, emit_nil]
    exact if_neg fun k => empty (List.isEmpty_iff.mp k)

theorem execDamperRequest_eq (power : s.powered = true) (z : Zone) (request : DamperRequest) :
    (s.dampers[z].request = request →
      exec (.damperRequest z request) s = .next (s.taken (.damperRequest z request))) ∧
      (s.dampers[z].request ≠ request → exec (.damperRequest z request) s =
        .next (((s.taken (.damperRequest z request)).setDamper z (requestTaken (s.taken (.damperRequest z request)) z request).1).emit
          (requestTaken (s.taken (.damperRequest z request)) z request).2)) := by
  have run : execDamperRequest z request s = _ := onEvent_of_powered power
  refine ⟨fun same => run.trans (congrArg _ (if_pos same)), fun other => run.trans (congrArg _ ((if_neg other).trans ?_))⟩
  cases request with
  | openPlain => exact takeOpen_eq (s := s.taken (.damperRequest z .openPlain)) (.inl rfl)
  | openForced => exact takeOpen_eq (s := s.taken (.damperRequest z .openForced)) (.inr rfl)
  | close => exact takeClose_eq (s.taken (.damperRequest z .close)) z
  | noRequest => exact (emit_nil _).symm

theorem requestTaken_noRequest (s : State) (z : Zone) :
    requestTaken s z .noRequest = ({ s.dampers[z] with request := .noRequest, closePending := false }, []) := rfl

/-- An open request, by the state of the damper (R101). -/
theorem requestTaken_open (opens : request = .openPlain ∨ request = .openForced) :
    (s.dampers[z].state = .opening ∨ s.dampers[z].state = .opened →
      requestTaken s z request = ({ s.dampers[z] with request := request, closePending := false }, [])) ∧
      (¬(s.dampers[z].state = .opening ∨ s.dampers[z].state = .opened) → requestTaken s z request =
        (movedRecord { s.dampers[z] with request := request, closePending := false } (openMove s z).1 (openMove s z).2,
          moveSends z { s.dampers[z] with request := request, closePending := false } (openMove s z).1)) := by
  have other : request ≠ .noRequest ∧ request ≠ .close := by rcases opens with rfl | rfl <;> exact ⟨nofun, nofun⟩
  unfold requestTaken
  dsimp only
  rw [if_neg other.1, if_neg other.2]
  exact ⟨fun state => if_pos state, fun state => if_neg state⟩

theorem requestTaken_keeps (s : State) (z : Zone) (request : DamperRequest) :
    (requestTaken s z request).1.request = request ∧ (requestTaken s z request).1.blocking = s.dampers[z].blocking := by
  unfold requestTaken
  dsimp only
  split_ifs <;> exact ⟨rfl, rfl⟩

/-- A damper that comes to OPEN is reported to both Start Queues (R105). -/
theorem mem_moveSends_opened (other : d.state ≠ .opened) (f : Feed) : .damperOpenReport z f ∈ moveSends z d .opened := by
  refine List.mem_append_right _ (List.mem_append_right _ ?_)
  rw [if_pos (by simp [other])]
  cases f <;> simp [bothFeeds]

theorem openMove_open (switches : s.pins.openSwitch[z] = true ∧ s.pins.closedSwitch[z] = false) : openMove s z = (.opened, none) :=
  if_pos (reading_open_iff.mpr switches)

theorem openMove_other (switches : ¬(s.pins.openSwitch[z] = true ∧ s.pins.closedSwitch[z] = false)) :
    openMove s z = (.opening, some s.store.cfg.zones[z].damperTimeout) := if_neg fun k => switches (reading_open_iff.mp k)

theorem closeMove_closed (switches : s.pins.openSwitch[z] = false ∧ s.pins.closedSwitch[z] = true) : closeMove s z = (.closed, none) :=
  if_pos (reading_closed_iff.mpr switches)

theorem closeMove_other (switches : ¬(s.pins.openSwitch[z] = false ∧ s.pins.closedSwitch[z] = true)) :
    closeMove s z = (.closing, some s.store.cfg.zones[z].damperTimeout) := if_neg fun k => switches (reading_closed_iff.mp k)

/-- Settles O38. -/
theorem damperRequestsAreTaken : Obligations.DamperRequestsAreTaken := by
  intro s z request power
  obtain ⟨unchanged, changed⟩ := execDamperRequest_eq power z request
  by_cases same : s.dampers[z].request = request
  · have run := unchanged same
    refine ⟨_, run, [], (List.append_nil _).symm, onlyChanges_mono (taken_onlyChanges s _) (by simp), fun _ _ => rfl, rfl, same,
      fun _ => rfl, fun k => absurd same k, fun k => absurd same k, fun k => absurd same k⟩
  have run := changed same
  generalize Instr.damperRequest z request = i at run ⊢
  obtain ⟨request', blocking⟩ := requestTaken_keeps (s.taken i) z request
  obtain ⟨frame, sends, -, own, others⟩ := damper_taken (s := s) (i := i) (z := z) (d := (requestTaken (s.taken i) z request).1)
    (l := (requestTaken (s.taken i) z request).2) rfl
  refine ⟨_, run, _, sends, frame, others, ?_⟩
  rw [own]
  refine ⟨blocking, request', fun k => absurd k same, fun _ opens => ?_, ?_, ?_⟩
  · obtain ⟨stays, moves⟩ := requestTaken_open (s := s.taken i) (z := z) opens
    by_cases state : s.dampers[z].state = .opening ∨ s.dampers[z].state = .opened
    · rw [stays state]
      refine ⟨rfl, fun _ => ⟨rfl, rfl⟩, fun moving => ?_⟩
      rcases state with k | k <;> rw [k] at moving <;> exact absurd moving (by decide)
    · have shut : s.dampers[z].state ≠ .opened := fun k => state (.inr k)
      rw [moves state]
      refine ⟨rfl, fun k => absurd k state, fun _ => ⟨fun switches => ?_, fun switches => ?_⟩⟩
      · rw [openMove_open (s := s.taken i) switches]
        exact ⟨rfl, rfl, mem_moveSends_opened shut .a, mem_moveSends_opened shut .b⟩
      · rw [openMove_other (s := s.taken i) switches]
        exact ⟨rfl, rfl⟩
  · rintro - rfl
    obtain ⟨stays, moves⟩ := requestTaken_close (s.taken i) z
    refine ⟨fun state => congrArg Prod.fst (stays state), fun state => ?_⟩
    have moving : ¬(s.dampers[z].state = .closed ∨ s.dampers[z].state = .closing) := by
      rcases state with k | k | k <;> rw [k] <;> decide
    obtain ⟨blocked, free⟩ := moves moving
    refine ⟨fun waits => congrArg Prod.fst (blocked waits), fun empty => ?_⟩
    rw [free empty]
    refine ⟨fun switches => ?_, fun switches => ?_⟩
    · rw [closeMove_closed (s := s.taken i) switches]
      exact ⟨rfl, rfl⟩
    · rw [closeMove_other (s := s.taken i) switches]
      exact ⟨rfl, rfl⟩
  · rintro - rfl
    rfl

/-! ### End switches and travel timers -/

/-- The switches of a damper read anew, the event taken. -/
def switched (s : State) (i : Instr) (z : Zone) (openSwitch closedSwitch : Bool) : State :=
  setSwitches (s.taken i) z openSwitch closedSwitch

theorem reading_switched (openSwitch closedSwitch : Bool) :
    reading (switched s i z openSwitch closedSwitch) z = readingOf openSwitch closedSwitch := by
  unfold reading switched setSwitches
  simp

/-- The state a damper comes to by a reading (R103). -/
def switchedState (s : State) (z : Zone) (openSwitch closedSwitch : Bool) : DamperState :=
  afterSwitch s.dampers[z].state s.dampers[z].request (readingOf openSwitch closedSwitch)

/-- A changed reading moves the damper where its state changes, and nothing otherwise (R103). -/
theorem execEndSwitchChange_eq (power : s.powered = true) (z : Zone) (openSwitch closedSwitch : Bool) :
    (readingOf openSwitch closedSwitch = reading s z ∨ switchedState s z openSwitch closedSwitch = s.dampers[z].state →
      exec (.endSwitchChange z openSwitch closedSwitch) s =
        .next (switched s (.endSwitchChange z openSwitch closedSwitch) z openSwitch closedSwitch)) ∧
      (readingOf openSwitch closedSwitch ≠ reading s z → switchedState s z openSwitch closedSwitch ≠ s.dampers[z].state →
        exec (.endSwitchChange z openSwitch closedSwitch) s =
          .next (((switched s (.endSwitchChange z openSwitch closedSwitch) z openSwitch closedSwitch).setDamper z
            (movedRecord s.dampers[z] (switchedState s z openSwitch closedSwitch) none)).emit
              (moveSends z s.dampers[z] (switchedState s z openSwitch closedSwitch)))) := by
  have run : exec (.endSwitchChange z openSwitch closedSwitch) s =
      .next (if s.powered && reading s z !=
          reading (switched s (.endSwitchChange z openSwitch closedSwitch) z openSwitch closedSwitch) z then
        switchEvent (switched s (.endSwitchChange z openSwitch closedSwitch) z openSwitch closedSwitch) z
        else switched s (.endSwitchChange z openSwitch closedSwitch) z openSwitch closedSwitch) := rfl
  generalize Instr.endSwitchChange z openSwitch closedSwitch = i at run ⊢
  rw [reading_switched, power, Bool.true_and] at run
  have event : switchEvent (switched s i z openSwitch closedSwitch) z =
      if switchedState s z openSwitch closedSwitch = s.dampers[z].state then switched s i z openSwitch closedSwitch
      else moveDamper (switched s i z openSwitch closedSwitch) z s.dampers[z] (switchedState s z openSwitch closedSwitch) none := by
    unfold switchEvent switchedState
    rw [reading_switched]
    rfl
  refine ⟨fun stays => run.trans (congrArg _ ?_), fun changed moves => run.trans (congrArg _ ?_)⟩
  · by_cases same : readingOf openSwitch closedSwitch = reading s z
    · exact if_neg (by simp [same])
    · rw [if_pos (by simpa using Ne.symm same), event, if_pos (stays.resolve_left same)]
  · rw [if_pos (by simpa using Ne.symm changed), event, if_neg moves, moveDamper_eq]

/-- The table of R103 by the state of the damper. -/
theorem afterSwitch_table (request : DamperRequest) (r : SwitchReading) :
    afterSwitch .closed request r = (if r = .fullyClosed then .closed else .jammed) ∧
      afterSwitch .opened request r = (if r = .fullyOpen then .opened else .jammed) ∧
      afterSwitch .opening request r = (if r = .fullyOpen then .opened else .opening) ∧
      afterSwitch .closing request r = (if r = .fullyClosed then .closed else .closing) ∧
      afterSwitch .jammed request r =
        (if r = .fullyOpen ∧ request ≠ .close then .opened
        else if r = .fullyClosed ∧ (request = .close ∨ request = .noRequest) then .closed else .jammed) := by
  cases r with
  | fullyOpen => cases request <;> exact ⟨rfl, rfl, rfl, rfl, rfl⟩
  | fullyClosed => cases request <;> exact ⟨rfl, rfl, rfl, rfl, rfl⟩
  | between => exact ⟨rfl, rfl, rfl, rfl, rfl⟩

/-- What a damper that becomes JAMMED sends (R104, R105). -/
theorem moveSends_jammed (state : d.state ≠ .jammed) :
    moveSends z d .jammed = (if d.jamCondition then [] else [.conditionActiveReport .damperJammed z.val]) ++ [.evaluationRequest z] := by
  unfold moveSends
  rw [if_pos (by simp [state]), if_neg nofun]
  cases d.jamCondition <;> rfl

/-- A damper that enters or leaves JAMMED asks its zone to evaluate (R105). -/
theorem mem_moveSends_evaluation (changes : ¬(d.state = .jammed ↔ state = .jammed)) : .evaluationRequest z ∈ moveSends z d state := by
  refine List.mem_append_right _ (List.mem_append_left _ ?_)
  rw [if_pos]
  · exact List.mem_cons_self
  · by_cases j : d.state = .jammed
    · rw [j, bne_iff_ne, beq_self_eq_true]
      exact fun k => changes ⟨fun _ => (beq_iff_eq.mp k.symm), fun _ => j⟩
    · rw [beq_eq_false_iff_ne.mpr j, Bool.false_bne]
      exact beq_iff_eq.mpr (by_contra fun k => changes ⟨fun h => absurd h j, fun h => absurd h k⟩)

/-- Settles O39: a changed reading leaves the damper in the state of R103's table. -/
theorem endSwitchesMoveDamper : Obligations.EndSwitchesMoveDamper := by
  intro s z openSwitch closedSwitch power
  obtain ⟨unchanged, changed⟩ := execEndSwitchChange_eq power z openSwitch closedSwitch
  obtain ⟨closed, opened, opening, closing, jammed⟩ := afterSwitch_table s.dampers[z].request (readingOf openSwitch closedSwitch)
  have next {state : DamperState} (k : s.dampers[z].state = state) : switchedState s z openSwitch closedSwitch =
      afterSwitch state s.dampers[z].request (readingOf openSwitch closedSwitch) := by
    unfold switchedState
    rw [k]
  have setting (i : Instr) : onlyChanges [.dampers, .pins, .inFlight] s (switched s i z openSwitch closedSwitch) :=
    onlyChanges_trans (onlyChanges_mono (taken_onlyChanges s i) (by simp)) (onlyChanges_mono (setPins_onlyChanges _ _) (by simp))
  by_cases stays : readingOf openSwitch closedSwitch = reading s z ∨ switchedState s z openSwitch closedSwitch = s.dampers[z].state
  · refine ⟨_, unchanged stays, [], (List.append_nil _).symm, setting _, rfl, fun _ _ => rfl, fun _ => rfl, fun differs => ?_, rfl, rfl,
      fun a b => absurd b a, fun a b => absurd b a, fun a => absurd rfl a, fun a b => absurd a b⟩
    have same := stays.resolve_left differs
    refine ⟨fun state => ?_, fun state => ?_, fun state => ⟨fun full => ?_, fun _ => rfl⟩, fun state => ⟨fun full => ?_, fun _ => rfl⟩,
      fun state => ?_⟩
    · exact (same.symm.trans (next state)).trans closed
    · exact (same.symm.trans (next state)).trans opened
    · exact nomatch state.symm.trans ((same.symm.trans (next state)).trans (opening.trans (if_pos full)))
    · exact nomatch state.symm.trans ((same.symm.trans (next state)).trans (closing.trans (if_pos full)))
    · exact (same.symm.trans (next state)).trans jammed
  · obtain ⟨differs, moves⟩ := not_or.mp stays
    have run := changed differs moves
    generalize Instr.endSwitchChange z openSwitch closedSwitch = i at run ⊢
    generalize form : ((switched s i z openSwitch closedSwitch).setDamper z
      (movedRecord s.dampers[z] (switchedState s z openSwitch closedSwitch) none)).emit
        (moveSends z s.dampers[z] (switchedState s z openSwitch closedSwitch)) = t at run
    have own : t.dampers[z] = movedRecord s.dampers[z] (switchedState s z openSwitch closedSwitch) none := by
      rw [← form]
      exact Vector.getElem_set_self _
    have others (y : Zone) (other : y ≠ z) : t.dampers[y] = s.dampers[y] := by
      rw [← form]
      exact Vector.getElem_set_ne z.isLt y.isLt fun same => other (Fin.ext same.symm)
    have frame : onlyChanges [.dampers, .pins, .inFlight] s t := by
      rw [← form]
      exact onlyChanges_trans (setting i) (onlyChanges_trans (onlyChanges_mono (setDamper_onlyChanges _ _ _) (by simp))
        (onlyChanges_mono (emit_onlyChanges _ _) (by simp)))
    refine ⟨t, run, moveSends z s.dampers[z] (switchedState s z openSwitch closedSwitch), by rw [← form]; rfl, frame,
      by rw [← form]; rfl, others, fun same => absurd same differs, fun _ => ?_, ?_⟩
    · rw [own]
      refine ⟨fun state => (next state).trans closed, fun state => (next state).trans opened,
        fun state => ⟨fun full => ⟨(next state).trans (opening.trans (if_pos full)), rfl⟩, fun part => ?_⟩,
        fun state => ⟨fun full => ⟨(next state).trans (closing.trans (if_pos full)), rfl⟩, fun part => ?_⟩,
        fun state => (next state).trans jammed⟩
      · exact absurd ((next state).trans ((opening.trans (if_neg part)).trans state.symm)) moves
      · exact absurd ((next state).trans ((closing.trans (if_neg part)).trans state.symm)) moves
    · rw [own]
      refine ⟨rfl, rfl, fun free comes => ?_, fun other comes => ?_, fun _ comes => ?_, fun was leaves => ?_⟩
      · have comes : switchedState s z openSwitch closedSwitch = .jammed := comes
        rw [comes]
        refine ⟨rfl, mem_moveSends_evaluation fun k => free (k.mpr rfl), rfl, fun clear => ?_⟩
        rw [moveSends_jammed free, clear]
        exact List.mem_cons_self
      · have comes : switchedState s z openSwitch closedSwitch = .opened := comes
        rw [comes]
        exact ⟨mem_moveSends_opened other .a, mem_moveSends_opened other .b⟩
      · have comes : switchedState s z openSwitch closedSwitch = .opened ∨ switchedState s z openSwitch closedSwitch = .closed := comes
        have clears (before : Bool) : jamAfter before (switchedState s z openSwitch closedSwitch) = false := by
          rcases comes with k | k <;> rw [k] <;> rfl
        refine ⟨rfl, ?_, ?_, clears _, fun active => List.mem_append_left _ ?_⟩
        · show (switchedState s z openSwitch closedSwitch == .opening) = false
          rcases comes with k | k <;> rw [k] <;> rfl
        · show (switchedState s z openSwitch closedSwitch == .closing) = false
          rcases comes with k | k <;> rw [k] <;> rfl
        · rw [clears, active]
          exact mem_conditionSends_clear
      · exact mem_moveSends_evaluation fun k => leaves (k.mp was)

end Sys2Proof.Machine

/-! The changeover gates: commands, feedback and travel timers (R106 to R109). -/

namespace Sys2Proof.Machine

open State

variable {s t u : State} {c d : Chan} {y z : Zone} {i : Instr} {g g' : GateRecord} {l k : List Instr} {state : GateState}
  {target : GateTarget} {band : GateBand}

/-! ### One replacement -/

/-- A gate's record in another state, with its condition brought up to date (R108). -/
def movedGate (g : GateRecord) (state : GateState) (timer : Option Nat) : GateRecord :=
  { g with state := state, timer := timer, jamCondition := gateJamAfter g.jamCondition state }

/-- What a gate's change of state sends (R108, R109). -/
def gateSends (c : Chan) (g : GateRecord) (state : GateState) : List Instr :=
  conditionSends g.jamCondition (gateJamAfter g.jamCondition state) .gateJammed c.val ++
    ((if (g.state == .jammed) != (state == .jammed) then [.gateJamReport c] else []) ++
     (if state.isAt && g.state != state then bothFeeds.map (.gateAtReport c) else []))

theorem moveGate_eq (s : State) (c : Chan) (g : GateRecord) (state : GateState) (timer : Option Nat) :
    moveGate s c g state timer = (s.setGate c (movedGate g state timer)).emit (gateSends c g state) := by
  unfold gateSends
  rw [← emit_emit, ← reportChange_sends]
  rfl

theorem setGate_self (s : State) (c : Chan) : s.setGate c s.gates[c] = s := by
  unfold setGate
  simp

/-- A gate's record alone was replaced. -/
theorem gate_taken (form : t = ((s.taken i).setGate c g).emit l) :
    onlyChanges [.gates, .inFlight] s t ∧ sent i s t l ∧ t.gates = s.gates.set c g ∧ t.gates[c] = g ∧
      ∀ d : Chan, d ≠ c → t.gates[d] = s.gates[d] := by
  subst form
  exact ⟨onlyChanges_trans (onlyChanges_mono (taken_onlyChanges s i) (by simp))
    (onlyChanges_trans (onlyChanges_mono (setGate_onlyChanges _ _ _) (by simp)) (onlyChanges_mono (emit_onlyChanges _ _) (by simp))),
    rfl, rfl, Vector.getElem_set_self _, fun d other => Vector.getElem_set_ne c.isLt d.isLt fun same => other (Fin.ext same.symm)⟩

/-- What a gate that becomes JAMMED sends (R108, R109). -/
theorem gateSends_jammed (state : g.state ≠ .jammed) :
    gateSends c g .jammed = (if g.jamCondition then [] else [.conditionActiveReport .gateJammed c.val]) ++ [.gateJamReport c] := by
  unfold gateSends
  rw [if_pos (by simp [state]), if_neg nofun]
  cases g.jamCondition <;> rfl

/-- Settles O40: a travel that runs out is a change of state to JAMMED. -/
theorem travelTimeoutsJam : Obligations.TravelTimeoutsJam := by
  intro s power
  refine ⟨fun z moving => ?_, fun c inUse travelling => ?_⟩
  · have free : s.dampers[z].state ≠ .jammed := by rcases moving with k | k <;> rw [k] <;> nofun
    have run : exec (.damperTravelTimeout z) s = .next (moveDamper (s.taken (.damperTravelTimeout z)) z s.dampers[z] .jammed none) := by
      show execDamperTravelTimeout z s = _
      unfold execDamperTravelTimeout
      rw [onEvent_of_powered power]
      rcases moving with k | k
      · rw [show (s.taken (.damperTravelTimeout z)).dampers[z].state = .opening from k]
        rfl
      · rw [show (s.taken (.damperTravelTimeout z)).dampers[z].state = .closing from k]
        rfl
    obtain ⟨frame, sends, dampers, -⟩ := damper_taken (moveDamper_eq (s.taken (.damperTravelTimeout z)) z s.dampers[z] .jammed none)
    exact ⟨_, run, frame, dampers, by rw [← moveSends_jammed free]; exact sends⟩
  · have free : s.gates[c].state ≠ .jammed := by rw [travelling]; nofun
    have run : exec (.gateTravelTimeout c) s = .next (moveGate (s.taken (.gateTravelTimeout c)) c s.gates[c] .jammed none) :=
      (onEvent_of_powered power : execGateTravelTimeout c s = _).trans
        (congrArg _ (if_pos (by rw [show (s.taken (.gateTravelTimeout c)).gates[c] = s.gates[c] from rfl, inUse, travelling]; rfl)))
    obtain ⟨frame, sends, gates, -⟩ := gate_taken (moveGate_eq (s.taken (.gateTravelTimeout c)) c s.gates[c] .jammed none)
    exact ⟨_, run, frame, gates, by rw [← gateSends_jammed free]; exact sends⟩

/-! ### Commands -/

/-- A gate's record and what is sent once a target is taken (R107, R109). -/
def targetReached (c : Chan) (g : GateRecord) (wasPending : Bool) : GateRecord × List Instr :=
  if g.state = GateTarget.reached g.target then
    ({ g with pending := false }, if wasPending && g.state.isAt then bothFeeds.map (.gateAtReport c) else [])
  else (movedGate { g with pending := false, output := g.target } .travelling (some 90),
    gateSends c { g with pending := false, output := g.target } .travelling)

theorem takeGateTarget_eq (s : State) (c : Chan) (g : GateRecord) (wasPending : Bool) :
    takeGateTarget s c g wasPending = (s.setGate c (targetReached c g wasPending).1).emit (targetReached c g wasPending).2 := by
  unfold takeGateTarget targetReached
  dsimp only
  by_cases reached : g.state = GateTarget.reached g.target
  · rw [if_pos reached, if_pos reached]
  · rw [if_neg reached, if_neg reached]
    exact moveGate_eq s c _ _ _

theorem free_iff : g.free = true ↔ g.lastReport ≠ .starting ∧ g.lastReport ≠ .running ∧ g.lastReport ≠ .stopping ∧
    g.lastReport ≠ .service ∧ g.answered = false := by
  unfold GateRecord.free
  cases g.lastReport <;> simp [FanState.letsGateMove]

/-- A command by the use of the gate, the stored target and the last report of its fan (R107, R108). -/
theorem execGateCommand_eq (power : s.powered = true) (c : Chan) (target : GateTarget) :
    (s.gates[c].inUse = false ∨ s.gates[c].target = target ∧ s.gates[c].state ≠ .jammed →
      exec (.gateCommand c target) s = .next (s.taken (.gateCommand c target))) ∧
      (s.gates[c].inUse = true → ¬(s.gates[c].target = target ∧ s.gates[c].state ≠ .jammed) →
        (({ s.gates[c] with target := target } : GateRecord).free = true → exec (.gateCommand c target) s =
          .next (takeGateTarget (s.taken (.gateCommand c target)) c { s.gates[c] with target := target } false)) ∧
        (¬({ s.gates[c] with target := target } : GateRecord).free = true → exec (.gateCommand c target) s =
          .next ((s.taken (.gateCommand c target)).setGate c { s.gates[c] with target := target, pending := true }))) := by
  have run : exec (.gateCommand c target) s = _ := (onEvent_of_powered power : execGateCommand c target s = _)
  refine ⟨fun idle => ?_, fun inUse other => ⟨fun free => ?_, fun held => ?_⟩⟩
  · cases inUse : s.gates[c].inUse with
    | false => exact run.trans (congrArg _ (if_pos (by rw [show (s.taken (.gateCommand c target)).gates[c].inUse = false from inUse]; rfl)))
    | true =>
      have used : ¬ (!(s.taken (.gateCommand c target)).gates[c].inUse) = true := by
        rw [show (s.taken (.gateCommand c target)).gates[c].inUse = true from inUse]
        nofun
      exact run.trans (congrArg _ ((if_neg used).trans (if_pos (idle.resolve_left fun out => nomatch inUse.symm.trans out))))
  all_goals
    have used : ¬ (!(s.taken (.gateCommand c target)).gates[c].inUse) = true := by
      rw [show (s.taken (.gateCommand c target)).gates[c].inUse = true from inUse]
      nofun
  · exact run.trans (congrArg _ ((if_neg used).trans ((if_neg other).trans (if_pos free))))
  · exact run.trans (congrArg _ ((if_neg used).trans ((if_neg other).trans (if_neg held))))

theorem atZone_reached (z : Zone) : GateTarget.reached (.zone z) = .atZone z := rfl

/-- Settles O41: a command is discarded, held pending, or taken. -/
theorem gateCommandsMoveGate : Obligations.GateCommandsMoveGate := by
  intro s c target power
  obtain ⟨idle, commanded⟩ := execGateCommand_eq power c target
  by_cases rests : s.gates[c].inUse = false ∨ s.gates[c].target = target ∧ s.gates[c].state ≠ .jammed
  · refine ⟨_, idle rests, onlyChanges_mono (taken_onlyChanges s _) (by simp), fun _ => rfl, fun _ _ => rfl, fun inUse differs => ?_⟩
    obtain ⟨same, free⟩ := rests.resolve_left fun out => nomatch inUse.symm.trans out
    exact absurd differs (not_or.mpr ⟨not_not.mpr same, free⟩)
  obtain ⟨unused, other⟩ := not_or.mp rests
  obtain ⟨taken, held⟩ := commanded (Bool.eq_true_of_not_eq_false unused) other
  have never : s.gates[c].target = target → ¬ s.gates[c].state ≠ .jammed := fun same free => other ⟨same, free⟩
  by_cases free : ({ s.gates[c] with target := target } : GateRecord).free = true
  · obtain ⟨frame, -, gates, -, -⟩ := gate_taken (takeGateTarget_eq (s.taken (.gateCommand c target)) c
      { s.gates[c] with target := target } false)
    refine ⟨_, taken free, frame, fun out => absurd out unused, fun same k => absurd k (never same), fun _ _ => ⟨fun busy => ?_,
      fun _ _ _ _ _ => ⟨?_, fun moves => ?_⟩⟩⟩
    · obtain ⟨starting, running, stopping, service, answered⟩ := free_iff.mp free
      rcases busy with k | k | k | k | k
      · exact absurd k starting
      · exact absurd k running
      · exact absurd k stopping
      · exact absurd k service
      · exact nomatch answered.symm.trans k
    · rintro z rfl rests
      rw [gates, show targetReached c { s.gates[c] with target := .zone z } false = _ from if_pos rests]
    · rw [gates, show targetReached c { s.gates[c] with target := target } false = _ from if_neg moves]
      rfl
  · obtain ⟨frame, -, gates, -, -⟩ := gate_taken (s := s) (i := .gateCommand c target) (c := c)
      (g := { s.gates[c] with target := target, pending := true }) (l := []) (emit_nil _).symm
    refine ⟨_, held free, frame, fun out => absurd out unused, fun same k => absurd k (never same), fun _ _ => ⟨fun _ => gates,
      fun starting running stopping service answered => absurd (free_iff.mpr ⟨starting, running, stopping, service, answered⟩) free⟩⟩

/-! ### Feedback -/

/-- The feedback of a gate read anew, the event taken. -/
def felt (s : State) (i : Instr) (c : Chan) (band : GateBand) : State := setFeedback (s.taken i) c band

/-- A changed band moves a gate in use where its state changes, and nothing otherwise (R108). -/
theorem execGateFeedbackBandChange_eq (power : s.powered = true) (c : Chan) (band : GateBand) :
    (s.gates[c].inUse = false ∨ s.pins.feedback[c] = band ∨ afterBand s.gates[c] band = s.gates[c].state →
      exec (.gateFeedbackBandChange c band) s = .next (felt s (.gateFeedbackBandChange c band) c band)) ∧
      (s.gates[c].inUse = true → s.pins.feedback[c] ≠ band → afterBand s.gates[c] band ≠ s.gates[c].state →
        exec (.gateFeedbackBandChange c band) s =
          .next (((felt s (.gateFeedbackBandChange c band) c band).setGate c
            (movedGate s.gates[c] (afterBand s.gates[c] band) none)).emit (gateSends c s.gates[c] (afterBand s.gates[c] band)))) := by
  have run : exec (.gateFeedbackBandChange c band) s =
      .next (if s.powered && s.pins.feedback[c] != band then bandEvent (felt s (.gateFeedbackBandChange c band) c band) c band
        else felt s (.gateFeedbackBandChange c band) c band) := rfl
  generalize Instr.gateFeedbackBandChange c band = i at run ⊢
  rw [power, Bool.true_and] at run
  have event : bandEvent (felt s i c band) c band =
      if !s.gates[c].inUse || afterBand s.gates[c] band = s.gates[c].state then felt s i c band
      else moveGate (felt s i c band) c s.gates[c] (afterBand s.gates[c] band) none := rfl
  refine ⟨fun stays => run.trans (congrArg _ ?_), fun inUse changed moves => run.trans (congrArg _ ?_)⟩
  · by_cases same : s.pins.feedback[c] = band
    · exact if_neg (by simp [same])
    · refine (if_pos (by simpa using same)).trans (event.trans (if_pos ?_))
      rw [Bool.or_eq_true, Bool.not_eq_true', decide_eq_true_eq]
      exact stays.imp_right fun k => k.resolve_left same
  · refine (if_pos (by simpa using changed)).trans (event.trans ((if_neg ?_).trans (moveGate_eq _ _ _ _ _)))
    rw [Bool.or_eq_true, Bool.not_eq_true', decide_eq_true_eq]
    exact not_or.mpr ⟨fun out => (nomatch inUse.symm.trans out), moves⟩

/-- The table of R108 by the state of the gate. -/
theorem afterBand_table (g : GateRecord) (band : GateBand) :
    (g.state = .travelling ∨ g.state = .jammed →
      afterBand g band = if band = GateTarget.band g.output then GateTarget.reached g.output else g.state) ∧
      (∀ z, g.state = .atZone z → afterBand g band = if band = .zone z then .atZone z else .jammed) ∧
      (g.state = .closed → afterBand g band = if band = .closed then .closed else .jammed) := by
  refine ⟨fun state => ?_, fun z state => ?_, fun state => ?_⟩
  · rcases state with k | k <;> unfold afterBand <;> rw [k]
  · unfold afterBand
    rw [state]
  · unfold afterBand
    rw [state]

/-- A gate that reaches a zone's band is reported to both Start Queues (R109). -/
theorem mem_gateSends_at (other : g.state ≠ .atZone z) (f : Feed) : .gateAtReport c f ∈ gateSends c g (.atZone z) := by
  refine List.mem_append_right _ (List.mem_append_right _ ?_)
  rw [if_pos (by simp [GateState.isAt, other])]
  cases f <;> simp [bothFeeds]

/-- Settles O42. -/
theorem gateFeedbackSetsPosition : Obligations.GateFeedbackSetsPosition := by
  intro s c band power
  obtain ⟨unchanged, changed⟩ := execGateFeedbackBandChange_eq power c band
  obtain ⟨moving, atZone, closed⟩ := afterBand_table s.gates[c] band
  have setting (i : Instr) : onlyChanges [.gates, .pins, .inFlight] s (felt s i c band) :=
    onlyChanges_trans (onlyChanges_mono (taken_onlyChanges s i) (by simp)) (onlyChanges_mono (setPins_onlyChanges _ _) (by simp))
  by_cases stays : s.gates[c].inUse = false ∨ s.pins.feedback[c] = band ∨ afterBand s.gates[c] band = s.gates[c].state
  · refine ⟨_, unchanged stays, [], (List.append_nil _).symm, setting _, rfl, fun _ _ => rfl, fun _ => rfl, fun inUse differs => ?_⟩
    have same := (stays.resolve_left fun out => nomatch inUse.symm.trans out).resolve_left differs
    refine ⟨fun state => ⟨?_, ?_, fun _ => rfl⟩, fun z state leaves => ?_, fun state leaves => ?_⟩
    · rintro z output rfl
      rw [moving state, output] at same
      have reached := (if_pos rfl).symm.trans same
      rcases state with k | k <;> exact nomatch reached.trans k
    · rintro output rfl
      rw [moving state, output] at same
      have reached := (if_pos rfl).symm.trans same
      rcases state with k | k <;> exact nomatch reached.trans k
    · exact nomatch ((atZone z state).trans (if_neg leaves)).symm.trans (same.trans state)
    · exact nomatch ((closed state).trans (if_neg leaves)).symm.trans (same.trans state)
  · obtain ⟨used, rest⟩ := not_or.mp stays
    obtain ⟨differs, moves⟩ := not_or.mp rest
    have run := changed (Bool.eq_true_of_not_eq_false used) differs moves
    generalize Instr.gateFeedbackBandChange c band = i at run ⊢
    generalize form : ((felt s i c band).setGate c (movedGate s.gates[c] (afterBand s.gates[c] band) none)).emit
      (gateSends c s.gates[c] (afterBand s.gates[c] band)) = t at run
    have own : t.gates[c] = movedGate s.gates[c] (afterBand s.gates[c] band) none := by
      rw [← form]
      exact Vector.getElem_set_self _
    have others (d : Chan) (other : d ≠ c) : t.gates[d] = s.gates[d] := by
      rw [← form]
      exact Vector.getElem_set_ne c.isLt d.isLt fun same => other (Fin.ext same.symm)
    have frame : onlyChanges [.gates, .pins, .inFlight] s t := by
      rw [← form]
      exact onlyChanges_trans (setting i) (onlyChanges_trans (onlyChanges_mono (setGate_onlyChanges _ _ _) (by simp))
        (onlyChanges_mono (emit_onlyChanges _ _) (by simp)))
    refine ⟨t, run, gateSends c s.gates[c] (afterBand s.gates[c] band), by rw [← form]; rfl, frame, by rw [← form]; rfl, others,
      fun none => absurd none (not_or.mpr ⟨used, differs⟩), fun _ _ => ⟨fun state => ⟨?_, ?_, fun apart => ?_⟩, fun z state leaves => ?_,
        fun state leaves => ?_⟩⟩
    · rintro z output rfl
      have comes : afterBand s.gates[c] (.zone z) = .atZone z := by
        rw [moving state, output]
        exact if_pos rfl
      rw [own, comes]
      have free : s.gates[c].state ≠ .atZone z := by rcases state with k | k <;> rw [k] <;> nofun
      exact ⟨rfl, rfl, rfl, mem_gateSends_at free .a, mem_gateSends_at free .b⟩
    · rintro output rfl
      have comes : afterBand s.gates[c] .closed = .closed := by
        rw [moving state, output]
        exact if_pos rfl
      rw [own, comes]
      exact ⟨rfl, rfl, rfl⟩
    · exact absurd ((moving state).trans (if_neg apart)) moves
    · have comes := (atZone z state).trans (if_neg leaves)
      rw [own, comes, gateSends_jammed (by rw [state]; nofun)]
      exact ⟨rfl, rfl, List.mem_append_right _ List.mem_cons_self⟩
    · have comes := (closed state).trans (if_neg leaves)
      rw [own, comes, gateSends_jammed (by rw [state]; nofun)]
      exact ⟨rfl, rfl, List.mem_append_right _ List.mem_cons_self⟩

end Sys2Proof.Machine

/-! A fan's state report at the dampers' blocking sets and at its gate (R102, R106, R107). -/

namespace Sys2Proof.Machine

open State

variable {s t u : State} {c d : Chan} {y z : Zone} {i : Instr} {l k : List Instr}

/-! ### The blocking sets -/

/-- A damper's record once a fan that no longer turns has left its blocking set (R102). -/
def leftRecord (s : State) (c : Chan) (z : Zone) : DamperRecord :=
  if c ∈ s.dampers[z].blocking then
    let d := { s.dampers[z] with blocking := s.dampers[z].blocking.filter (· != c) }
    if d.blocking = [] ∧ d.closePending = true then movedRecord { d with closePending := false } (closeMove s z).1 (closeMove s z).2
    else d
  else s.dampers[z]

/-- What is sent as a fan leaves a damper's blocking set (R102, R105). -/
def leftSends (s : State) (c : Chan) (z : Zone) : List Instr :=
  if c ∈ s.dampers[z].blocking then
    let d := { s.dampers[z] with blocking := s.dampers[z].blocking.filter (· != c) }
    if d.blocking = [] ∧ d.closePending = true then moveSends z { d with closePending := false } (closeMove s z).1 else []
  else []

theorem leaveBlocking_eq (c : Chan) (s : State) (z : Zone) :
    leaveBlocking c s z = (s.setDamper z (leftRecord s c z)).emit (leftSends s c z) := by
  unfold leaveBlocking leftRecord leftSends
  dsimp only
  by_cases mem : c ∈ s.dampers[z].blocking
  · rw [if_pos mem, if_pos mem, if_pos (List.contains_iff_mem.mpr mem)]
    by_cases last : s.dampers[z].blocking.filter (· != c) = [] ∧ s.dampers[z].closePending = true
    · rw [if_pos last, if_pos last, if_pos (by rw [last.1, last.2]; rfl), beginClose_eq]
    · rw [if_neg last, if_neg last, if_neg, emit_nil]
      rw [Bool.and_eq_true, List.isEmpty_iff]
      exact last
  · rw [if_neg mem, if_neg mem, if_neg fun k => mem (List.contains_iff_mem.mp k), setDamper_self, emit_nil]

theorem leaveBlocking_none (out : c ∉ s.dampers[z].blocking) : leaveBlocking c s z = s := by
  unfold leaveBlocking
  dsimp only
  exact if_neg fun k => out (List.contains_iff_mem.mp k)

theorem leaveBlocking_fold_none (zs : List Zone) (out : ∀ y : Zone, c ∉ s.dampers[y].blocking) : zs.foldl (leaveBlocking c) s = s := by
  induction zs with
  | nil => rfl
  | cons z zs ih => rw [List.foldl_cons, leaveBlocking_none (out z), ih]

/-- A fan leaves the blocking sets of some dampers, each once. -/
theorem leaveBlocking_fold (c : Chan) (zs : List Zone) : ∀ s : State, zs.Nodup →
    onlyChanges [.dampers, .inFlight] s (zs.foldl (leaveBlocking c) s) ∧
      (∀ z ∈ zs, (zs.foldl (leaveBlocking c) s).dampers[z] = leftRecord s c z) ∧
      (∀ z, z ∉ zs → (zs.foldl (leaveBlocking c) s).dampers[z] = s.dampers[z]) ∧
      (zs.foldl (leaveBlocking c) s).inFlight = s.inFlight ++ zs.flatMap (leftSends s c) := by
  induction zs with
  | nil => exact fun s _ => ⟨onlyChanges_refl _ _, by simp, fun _ _ => rfl, by simp⟩
  | cons z zs ih =>
    intro s once
    obtain ⟨out, once⟩ := List.nodup_cons.mp once
    obtain ⟨frame, own, others, sends⟩ := ih (leaveBlocking c s z) once
    have form := leaveBlocking_eq c s z
    have first : onlyChanges [.dampers, .inFlight] s (leaveBlocking c s z) := by
      rw [form]
      exact onlyChanges_trans (onlyChanges_mono (setDamper_onlyChanges _ _ _) (by simp))
        (onlyChanges_mono (emit_onlyChanges _ _) (by simp))
    have self : (leaveBlocking c s z).dampers[z] = leftRecord s c z := by
      rw [form]
      exact Vector.getElem_set_self _
    have apart (y : Zone) (other : y ≠ z) : (leaveBlocking c s z).dampers[y] = s.dampers[y] := by
      rw [form]
      exact Vector.getElem_set_ne z.isLt y.isLt fun same => other (Fin.ext same.symm)
    have move (y : Zone) : closeMove (leaveBlocking c s z) y = closeMove s y := by
      unfold closeMove reading
      rw [first .pins (by decide), first .store (by decide)]
    have record (y : Zone) (other : y ≠ z) : leftRecord (leaveBlocking c s z) c y = leftRecord s c y := by
      unfold leftRecord
      rw [apart y other, move]
    have sent' (y : Zone) (other : y ≠ z) : leftSends (leaveBlocking c s z) c y = leftSends s c y := by
      unfold leftSends
      rw [apart y other, move]
    refine ⟨onlyChanges_trans first frame, fun y hy => ?_, fun y hy => ?_, ?_⟩
    · rw [List.foldl_cons]
      by_cases same : y = z
      · rw [same, others z out, self]
      · rw [own y ((List.mem_cons.mp hy).resolve_left same), record y same]
    · obtain ⟨different, hy⟩ := not_or.mp (mt List.mem_cons.mpr hy)
      rw [List.foldl_cons, others y hy, apart y different]
    · have later : zs.flatMap (leftSends (leaveBlocking c s z) c) = zs.flatMap (leftSends s c) :=
        List.flatMap_congr fun y hy => sent' y fun same => out (same ▸ hy)
      rw [List.foldl_cons, sends, later, form, List.flatMap_cons, ← List.append_assoc]
      rfl

/-! ### The report, by the fan's role and its gate -/

theorem enterBlocking_other (role : ∀ z, s.store.cfg.channels[c].role ≠ .zone z) : enterBlocking s c = s := by
  unfold enterBlocking State.chan
  cases k : s.store.cfg.channels[c].role with
  | zone z => exact absurd k (role z)
  | _ => rfl

theorem reportToDampers_none (role : ∀ z, s.store.cfg.channels[c].role ≠ .zone z) (out : ∀ y : Zone, c ∉ s.dampers[y].blocking) :
    reportToDampers s c = s := by
  unfold reportToDampers
  rw [leaveBlocking_fold_none _ out, enterBlocking_other role, ite_self]

theorem reportToDampers_turning (turns : s.fans[c].state = .starting ∨ s.fans[c].state = .running)
    (role : s.store.cfg.channels[c].role = .zone z) :
    reportToDampers s c = s.setDamper z { s.dampers[z] with blocking := s.dampers[z].blocking.insert c } := by
  unfold reportToDampers
  rw [if_pos (by rcases turns with k | k <;> rw [k] <;> rfl)]
  unfold enterBlocking State.chan
  rw [role]

theorem reportToDampers_resting (starting : s.fans[c].state ≠ .starting) (running : s.fans[c].state ≠ .running) :
    reportToDampers s c = allZones.foldl (leaveBlocking c) s := by
  unfold reportToDampers
  refine if_neg ?_
  cases k : s.fans[c].state with
  | starting => exact absurd k starting
  | running => exact absurd k running
  | _ => nofun

/-- A report changes dampers alone, and sends what it sends. -/
theorem reportToDampers_sends (s : State) (c : Chan) :
    ∃ k, onlyChanges [.dampers, .inFlight] s (reportToDampers s c) ∧ (reportToDampers s c).inFlight = s.inFlight ++ k := by
  by_cases turns : s.fans[c].state = .starting ∨ s.fans[c].state = .running
  · by_cases own : ∃ z, s.store.cfg.channels[c].role = .zone z
    · obtain ⟨z, role⟩ := own
      rw [reportToDampers_turning turns role]
      exact ⟨[], onlyChanges_mono (setDamper_onlyChanges _ _ _) (by simp), (List.append_nil _).symm⟩
    · have same : reportToDampers s c = s := by
        unfold reportToDampers
        rw [if_pos (by rcases turns with k | k <;> rw [k] <;> rfl)]
        exact enterBlocking_other fun z role => own ⟨z, role⟩
      rw [same]
      exact ⟨[], onlyChanges_refl _ _, (List.append_nil _).symm⟩
  · obtain ⟨starting, running⟩ := not_or.mp turns
    obtain ⟨frame, -, -, sends⟩ := leaveBlocking_fold c allZones s (List.nodup_finRange 8)
    rw [reportToDampers_resting starting running]
    exact ⟨_, frame, sends⟩

/-- A gate's record with its fan's report (R107). -/
def reportedGate (s : State) (c : Chan) : GateRecord := { s.gates[c] with lastReport := s.fans[c].state, answered := false }

theorem reportToGate_unused (unused : s.gates[c].inUse = false) : reportToGate s c = s := by
  unfold reportToGate
  exact if_pos (by rw [unused]; rfl)

theorem reportToGate_moves (inUse : s.gates[c].inUse = true) (pending : s.gates[c].pending = true)
    (lets : s.fans[c].state.letsGateMove = true) : reportToGate s c = takeGateTarget s c (reportedGate s c) true := by
  have used : ¬ (!s.gates[c].inUse) = true := by rw [inUse]; nofun
  exact (if_neg used).trans (if_pos (Bool.and_eq_true_iff.mpr ⟨pending, lets⟩))

theorem reportToGate_stores (inUse : s.gates[c].inUse = true)
    (waits : ¬(s.gates[c].pending = true ∧ s.fans[c].state.letsGateMove = true)) : reportToGate s c = s.setGate c (reportedGate s c) := by
  have used : ¬ (!s.gates[c].inUse) = true := by rw [inUse]; nofun
  exact (if_neg used).trans (if_neg fun k => waits (Bool.and_eq_true_iff.mp k))

/-- The state a report finds, the use of the gate brought up to date (R106). -/
def gateSynced (s : State) (c : Chan) : State := if s.fans[c].state = .service then s else syncGate s c

theorem execFanStateReport_eq (power : s.powered = true) (c : Chan) :
    exec (.fanStateReport c) s =
      .next (reportToGate (reportToDampers (gateSynced (s.taken (.fanStateReport c)) c) c) c) :=
  (onEvent_of_powered power : execFanStateReport c s = _)

theorem gateSynced_stays (agrees : s.gates[c].inUse = true ↔ ∃ reach, s.store.cfg.channels[c].role = .standby reach) :
    gateSynced s c = s := by
  unfold gateSynced
  rw [syncGate_stays agrees, ite_self]

/-- The record of a damper that the last turning fan of a pending close leaves (R102). -/
theorem leftRecord_last (mem : c ∈ s.dampers[y].blocking) (pending : s.dampers[y].closePending = true)
    (last : ∀ d ∈ s.dampers[y].blocking, d = c) :
    (leftRecord s c y).closePending = false ∧ (leftRecord s c y).state = (closeMove s y).1 ∧
      (leftRecord s c y).timer = (closeMove s y).2 := by
  have empty : s.dampers[y].blocking.filter (· != c) = [] :=
    List.filter_eq_nil_iff.mpr fun d hd => by simpa using last d hd
  unfold leftRecord
  dsimp only
  rw [if_pos mem, if_pos ⟨empty, pending⟩]
  exact ⟨rfl, rfl, rfl⟩

/-- The record of a damper that a fan leaves while no close begins (R102). -/
theorem leftRecord_stays (stays : s.dampers[y].closePending = false ∨ ∃ d ∈ s.dampers[y].blocking, d ≠ c) :
    (leftRecord s c y).state = s.dampers[y].state ∧ (leftRecord s c y).closePending = s.dampers[y].closePending := by
  have keeps : ¬(s.dampers[y].blocking.filter (· != c) = [] ∧ s.dampers[y].closePending = true) := fun ⟨empty, pending⟩ => by
    rcases stays with k | ⟨d, hd, other⟩
    · exact nomatch k.symm.trans pending
    · exact absurd (List.filter_eq_nil_iff.mp empty d hd) (by simpa using other)
  unfold leftRecord
  dsimp only
  split_ifs <;> exact ⟨rfl, rfl⟩

theorem leftRecord_blocking (s : State) (c : Chan) (y : Zone) :
    c ∉ (leftRecord s c y).blocking ∧ ∀ d : Chan, d ≠ c → (d ∈ (leftRecord s c y).blocking ↔ d ∈ s.dampers[y].blocking) := by
  have filtered : c ∉ s.dampers[y].blocking.filter (· != c) ∧
      ∀ d : Chan, d ≠ c → (d ∈ s.dampers[y].blocking.filter (· != c) ↔ d ∈ s.dampers[y].blocking) :=
    ⟨fun waits => absurd (List.mem_filter.mp waits).2 (by simp), fun d other => mem_filter_other _ other⟩
  unfold leftRecord
  dsimp only
  split_ifs with mem
  · exact filtered
  · exact filtered
  · exact ⟨mem, fun _ _ => Iff.rfl⟩

/-- Settles O43, by the fan's role and the use of its gate. -/
theorem fanStateReportsReachDampersAndGates : Obligations.FanStateReportsReachDampersAndGates := by
  intro s c power
  have run := execFanStateReport_eq power c
  generalize Instr.fanStateReport c = i at run ⊢
  have standby {reach : BitVec 8} (role : s.store.cfg.channels[c].role = .standby reach) (z : Zone) :
      s.store.cfg.channels[c].role ≠ .zone z := fun k => nomatch role.symm.trans k
  have plain {reach : BitVec 8} (role : s.store.cfg.channels[c].role = .standby reach) (inUse : s.gates[c].inUse = true)
      (out : ∀ y : Zone, c ∉ s.dampers[y].blocking) : exec i s = .next (reportToGate (s.taken i) c) := by
    rw [run, gateSynced_stays (s := s.taken i) ⟨fun _ => ⟨reach, role⟩, fun _ => inUse⟩,
      reportToDampers_none (s := s.taken i) (standby role) out]
  refine ⟨fun z unused role => ?_, fun reach unused role off out => ?_, fun reach role inUse pending out => ⟨fun lets => ?_, fun keeps => ?_⟩,
    fun reach role inUse pending out => ?_, fun inUse service role => ?_⟩
  · have agrees : (s.taken i).gates[c].inUse = true ↔ ∃ reach, (s.taken i).store.cfg.channels[c].role = .standby reach :=
      ⟨fun k => (nomatch unused.symm.trans k), fun ⟨reach, k⟩ => (nomatch role.symm.trans k)⟩
    rw [gateSynced_stays agrees] at run
    by_cases turns : s.fans[c].state = .starting ∨ s.fans[c].state = .running
    · rw [reportToDampers_turning (s := s.taken i) turns role, reportToGate_unused (s := (s.taken i).setDamper z _) unused] at run
      obtain ⟨frame, -, dampers, -⟩ := damper_taken (s := s) (i := i) (z := z)
        (d := { s.dampers[z] with blocking := s.dampers[z].blocking.insert c }) (l := []) (emit_nil _).symm
      exact ⟨_, run, frame, fun _ => dampers, fun starting running => absurd turns (not_or.mpr ⟨starting, running⟩)⟩
    · obtain ⟨starting, running⟩ := not_or.mp turns
      obtain ⟨frame, own, -, -⟩ := leaveBlocking_fold c allZones (s.taken i) (List.nodup_finRange 8)
      rw [reportToDampers_resting (s := s.taken i) starting running, reportToGate_unused
        (by rw [frame .gates (by decide)]; exact unused)] at run
      have record (y : Zone) : (allZones.foldl (leaveBlocking c) (s.taken i)).dampers[y] = leftRecord (s.taken i) c y :=
        own y (List.mem_finRange y)
      refine ⟨_, run, onlyChanges_trans (onlyChanges_mono (taken_onlyChanges s i) (by simp)) frame, fun k => absurd k turns, fun _ _ y => ?_⟩
      rw [record]
      obtain ⟨left, others⟩ := leftRecord_blocking (s.taken i) c y
      refine ⟨left, others, fun out => if_neg out, fun mem pending last => ?_, fun _ stays => leftRecord_stays (s := s.taken i) stays⟩
      obtain ⟨ended, state, timer⟩ := leftRecord_last (s := s.taken i) mem pending last
      refine ⟨ended, fun switches => state.trans ?_, fun switches => ?_⟩
      · rw [closeMove_closed (s := s.taken i) switches]
      · rw [state, timer, closeMove_other (s := s.taken i) switches]
        exact ⟨rfl, rfl⟩
  · have synced : gateSynced (s.taken i) c = (s.taken i).setGate c (gateFromFeedback s.pins.feedback[c] .off) := by
      have form := syncGate_enters (s := s.taken i) role unused
      rw [show (s.taken i).fans[c].state = .off from off] at form
      exact (if_neg (by rw [show (s.taken i).fans[c].state = .off from off]; nofun)).trans form
    have gate : ((s.taken i).setGate c (gateFromFeedback s.pins.feedback[c] .off)).gates[c] = gateFromFeedback s.pins.feedback[c] .off :=
      Vector.getElem_set_self _
    rw [synced, reportToDampers_none (s := (s.taken i).setGate c _) (standby role) out, reportToGate_stores] at run
    · have own (v : State) (g : GateRecord) : (v.setGate c g).gates[c] = g := Vector.getElem_set_self _
      refine ⟨_, run, ?_⟩
      rw [own]
      unfold reportedGate
      rw [gate]
      refine ⟨?_, off, ?_⟩
      · cases s.pins.feedback[c] <;> rfl
      · cases s.pins.feedback[c] <;> rfl
    · rw [gate]
      cases s.pins.feedback[c] <;> rfl
    · rw [gate]
      cases s.pins.feedback[c] <;> exact fun k => nomatch k.1
  · have moves : s.fans[c].state.letsGateMove = true := by rcases lets with k | k | k | k | k <;> rw [k] <;> rfl
    have run := plain role inUse out
    rw [reportToGate_moves (s := s.taken i) inUse pending moves, takeGateTarget_eq] at run
    obtain ⟨frame, sends, -, own, -⟩ := gate_taken (s := s) (i := i) (c := c) (g := (targetReached c (reportedGate (s.taken i) c) true).1)
      (l := (targetReached c (reportedGate (s.taken i) c) true).2) rfl
    refine ⟨_, run, _, sends, frame, ?_⟩
    rw [own]
    by_cases reached : s.gates[c].state = GateTarget.reached s.gates[c].target
    · rw [show targetReached c (reportedGate (s.taken i) c) true = _ from if_pos reached]
      refine ⟨rfl, rfl, rfl, fun moves => absurd reached moves, fun z _ rests => ⟨rests, ?_⟩⟩
      have at_ : (true && (reportedGate (s.taken i) c).state.isAt) = true := by
        rw [show (reportedGate (s.taken i) c).state = .atZone z from rests]
        rfl
      rw [if_pos at_]
      exact ⟨by simp [bothFeeds], by simp [bothFeeds]⟩
    · rw [show targetReached c (reportedGate (s.taken i) c) true = _ from if_neg reached]
      exact ⟨rfl, rfl, rfl, fun _ => ⟨rfl, rfl, rfl⟩, fun z target rests => absurd (rests.trans (congrArg GateTarget.reached target).symm) reached⟩
  · have stays : s.fans[c].state.letsGateMove = false := by rcases keeps with k | k | k | k <;> rw [k] <;> rfl
    have run := plain role inUse out
    rw [reportToGate_stores (s := s.taken i) inUse fun k => (nomatch stays.symm.trans k.2)] at run
    obtain ⟨frame, -, -, own, -⟩ := gate_taken (s := s) (i := i) (c := c) (g := reportedGate (s.taken i) c) (l := []) (emit_nil _).symm
    refine ⟨_, run, frame, ?_⟩
    rw [own]
    exact ⟨pending, rfl, rfl⟩
  · have run := plain role inUse out
    rw [reportToGate_stores (s := s.taken i) inUse fun k => (nomatch pending.symm.trans k.1)] at run
    obtain ⟨frame, sends, gates, -⟩ := gate_taken (s := s) (i := i) (c := c) (g := reportedGate (s.taken i) c) (l := []) (emit_nil _).symm
    exact ⟨_, run, frame, sends, gates⟩
  · have synced : gateSynced (s.taken i) c = ((s.taken i).setGate c GateRecord.unused).emit
        (conditionSends s.gates[c].jamCondition false .gateJammed c.val) :=
      (if_neg service).trans (syncGate_leaves (s := s.taken i) role inUse)
    obtain ⟨frame, sends, gates, own, -⟩ := gate_taken synced
    generalize gateSynced (s.taken i) c = u at run frame sends gates own
    obtain ⟨k, later, after⟩ := reportToDampers_sends u c
    have unused : (reportToDampers u c).gates[c].inUse = false := by
      rw [later .gates (by decide), own]
      rfl
    rw [reportToGate_unused unused] at run
    refine ⟨_, run, _, by rw [sent, after, show u.inFlight = _ from sends, List.append_assoc],
      onlyChanges_trans (onlyChanges_mono frame (by simp)) (onlyChanges_mono later (by simp)), ?_, fun active => ?_⟩
    · rw [later .gates (by decide), gates]
      rfl
    · rw [active]
      exact List.mem_append_left _ mem_conditionSends_clear

end Sys2Proof.Machine

/-! The standby allocator: what a run's decision of the grants leaves (R112 to R114). -/

namespace Sys2Proof.Machine

open State

variable {s t u : State} {c d : Chan} {y z : Zone} {i : Instr} {rs : List StandbyEntry} {g h m : Grants}
  {calls : List (Zone × StandbyCall)} {r : Zone × StandbyCall}

/-! ### A decision does not depend on what is in flight -/

theorem roundTaken_taken (i : Instr) (rest : List (Zone × StandbyCall)) (g h : Grants) :
    roundTaken (s.taken i) calls rest g h ↔ roundTaken s calls rest g h := by
  induction rest generalizing g with
  | nil => exact Iff.rfl
  | cons r rest ih =>
    unfold roundTaken
    simp only [ih]
    exact Iff.rfl

theorem roundsTaken_taken (i : Instr) (rounds : List Grants) (g h : Grants) :
    roundsTaken (s.taken i) calls rounds g h ↔ roundsTaken s calls rounds g h := by
  induction rounds generalizing g with
  | nil => exact Iff.rfl
  | cons m rest ih =>
    unfold roundsTaken
    simp only [ih, roundTaken_taken]
    exact Iff.rfl

theorem fansTaken_taken (i : Instr) (r : Zone × StandbyCall) (fans : List Chan) (g h : Grants) :
    fansTaken (s.taken i) calls r fans g h ↔ fansTaken s calls r fans g h := by
  induction fans generalizing g with
  | nil => exact Iff.rfl
  | cons c rest ih =>
    unfold fansTaken
    simp only [ih]
    exact Iff.rfl

theorem servedInTurn_taken (i : Instr) (rest : List (Zone × StandbyCall)) (g h : Grants) :
    servedInTurn (s.taken i) calls rest g h ↔ servedInTurn s calls rest g h := by
  induction rest generalizing g with
  | nil => exact Iff.rfl
  | cons r rest ih =>
    unfold servedInTurn
    simp only [ih, fansTaken_taken]

theorem grantsDecided_taken (i : Instr) : grantsDecided (s.taken i) calls g h ↔ grantsDecided s calls g h := by
  unfold grantsDecided
  simp only [roundsTaken_taken, servedInTurn_taken]
  exact Iff.rfl

/-! ### The fan a request takes -/

/-- A request of one class preempts those of lower ones, where it is FIRE or GAS-ALARM (R113, R114). -/
theorem preempts_iff {a b : StandbyCall} : preempts a b = true ↔ classRank a ≤ 1 ∧ classRank a < classRank b := by
  rcases a with _ | ⟨cls, _⟩
  · rcases b with _ | ⟨cls', _⟩
    · simp [preempts, classRank]
    · cases cls' <;> simp [preempts, classRank]
  · rcases b with _ | ⟨cls', _⟩
    · cases cls <;> simp [preempts, classRank]
    · cases cls <;> cases cls' <;> simp [preempts, classRank]

/-- Of some fans, one is preferred. -/
theorem exists_preferred {p : Chan → Prop} (some_ : ∃ c, p c) (s : State) (z : Zone) : ∃ c, preferredFor s z p c := by
  classical
  have sorted : (allChans.filter fun c => decide (p c)).Pairwise (· < ·) := sorted_allChans.filter _
  cases found : preferAt s z (allChans.filter fun c => decide (p c)) with
  | none =>
    obtain ⟨c, hc⟩ := some_
    have empty := preferAt_eq_none.mp found
    exact absurd (List.mem_filter.mpr ⟨List.mem_finRange c, decide_eq_true hc⟩) (empty ▸ List.not_mem_nil)
  | some c =>
    refine ⟨c, ?_⟩
    have prefers := (preferAt_eq_some sorted).mp found
    have same (d : Chan) : d ∈ allChans.filter (fun c => decide (p c)) ↔ p d := by
      simp [allChans]
    unfold preferredFor at prefers ⊢
    simpa only [same] using prefers

/-- Of some requests, one is the youngest of the lowest class. -/
theorem exists_youngest {p : Zone × StandbyCall → Prop} (calls : List (Zone × StandbyCall)) (some_ : ∃ r ∈ calls, p r) :
    ∃ holder older younger, p holder ∧ calls = older ++ holder :: younger ∧
      (∀ d ∈ older, p d → classRank d.2 ≤ classRank holder.2) ∧ ∀ d ∈ younger, p d → classRank d.2 < classRank holder.2 := by
  induction calls with
  | nil =>
    obtain ⟨r, hr, -⟩ := some_
    exact absurd hr List.not_mem_nil
  | cons a rest ih =>
    by_cases later : ∃ r ∈ rest, p r
    · obtain ⟨holder, older, younger, ok, rfl, above, below⟩ := ih later
      by_cases lower : p a ∧ classRank holder.2 < classRank a.2
      · refine ⟨a, [], older ++ holder :: younger, lower.1, rfl, by simp, fun d hd pd => ?_⟩
        rcases List.mem_append.mp hd with hd | hd
        · exact Nat.lt_of_le_of_lt (above d hd pd) lower.2
        · rcases List.mem_cons.mp hd with rfl | hd
          · exact lower.2
          · exact Nat.lt_trans (below d hd pd) lower.2
      · refine ⟨holder, a :: older, younger, ok, rfl, fun d hd pd => ?_, below⟩
        rcases List.mem_cons.mp hd with rfl | hd
        · exact Nat.le_of_not_lt fun less => lower ⟨pd, less⟩
        · exact above d hd pd
    · obtain ⟨r, hr, pr⟩ := some_
      have first : r = a := (List.mem_cons.mp hr).resolve_right fun hr => later ⟨r, hr, pr⟩
      exact ⟨a, [], rest, first ▸ pr, rfl, by simp, fun d hd pd => absurd ⟨d, hd, pd⟩ later⟩

/-- A request that takes no fan finds none free in its reach, and no holder that can lose one to it (R113, R114). -/
theorem none_picked (none : ∀ c, ¬ pickedFor s calls g r c) :
    (∀ c, ¬ freeIn s g r.1 c) ∧ ∀ holder ∈ calls, ¬ canLose s g r holder := by
  have free : ∀ c, ¬ freeIn s g r.1 c := fun c hc => by
    obtain ⟨d, prefers⟩ := exists_preferred ⟨c, hc⟩ s r.1
    exact none d (.inl prefers)
  refine ⟨free, fun holder mem loses => ?_⟩
  obtain ⟨youngest, older, younger, can, split, above, below⟩ := exists_youngest calls (p := canLose s g r) ⟨holder, mem, loses⟩
  obtain ⟨d, prefers⟩ := exists_preferred can.2 s r.1
  exact none d (.inr ⟨free, youngest, ⟨can, older, younger, split, above, below⟩, prefers⟩)

/-! ### What a fan taken keeps -/

/-- Every grant can stand (R111). -/
def grantsStand (s : State) (calls : List (Zone × StandbyCall)) (g : Grants) : Prop :=
  ∀ (c : Chan) (z : Zone), g[c] = some z → usableFan s c ∧ inReach s c z ∧ ∃ call, (z, call) ∈ calls

/-- The grants to zones of some calls are kept, no fan becomes free, and the grants can still stand. -/
def keepsGrants (s : State) (calls : List (Zone × StandbyCall)) (kept : StandbyCall → Prop) (g h : Grants) : Prop :=
  (∀ (c : Chan) (z : Zone) (call : StandbyCall), g[c] = some z → (z, call) ∈ calls → kept call → h[c] = some z) ∧
    (∀ c : Chan, g[c] ≠ none → h[c] ≠ none) ∧ (grantsStand s calls g → grantsStand s calls h)

variable {kept : StandbyCall → Prop}

theorem keepsGrants_refl : keepsGrants s calls kept g g := ⟨fun _ _ _ k _ _ => k, fun _ k => k, id⟩

theorem keepsGrants_trans (first : keepsGrants s calls kept g m) (second : keepsGrants s calls kept m h) : keepsGrants s calls kept g h :=
  ⟨fun c z call k mem keep => second.1 c z call (first.1 c z call k mem keep) mem keep, fun c k => second.2.1 c (first.2.1 c k),
    fun k => second.2.2 (first.2.2 k)⟩

/-- A zone's calls agree in a list of one call a zone. -/
theorem call_unique (once : (calls.map Prod.fst).Nodup) {a b : StandbyCall} (ha : (z, a) ∈ calls) (hb : (z, b) ∈ calls) : a = b :=
  congrArg Prod.snd (List.inj_on_of_nodup_map once ha hb rfl)

/-- A fan a request takes was free, or held by a call it preempts. -/
theorem held_of_picked (picked : pickedFor s calls g r c) :
    g[c] = none ∧ usableFan s c ∧ inReach s c r.1 ∨
      ∃ holder ∈ calls, preempts r.2 holder.2 = true ∧ g[c] = some holder.1 ∧ inReach s c r.1 := by
  rcases picked with ⟨⟨usable, free, reach⟩, -⟩ | ⟨-, holder, ⟨⟨loses, -⟩, older, younger, split, -⟩, ⟨held, reach⟩, -⟩
  · exact .inl ⟨free, usable, reach⟩
  · exact .inr ⟨holder, by rw [split]; simp, loses, held, reach⟩

/-- A fan taken by a request keeps the grants to every call the request does not preempt. -/
theorem set_keepsGrants (once : (calls.map Prod.fst).Nodup) (mem : r ∈ calls) (spares : ∀ call, kept call → preempts r.2 call = false)
    (picked : pickedFor s calls g r c) : keepsGrants s calls kept g (g.set c (some r.1)) := by
  have held := held_of_picked picked
  refine ⟨fun d z call k hz keep => ?_, fun d k => ?_, fun stand d z k => ?_⟩
  · rw [get_set]
    by_cases same : d = c
    · rw [same] at k
      rcases held with ⟨free, -⟩ | ⟨holder, hh, loses, holds, -⟩
      · exact nomatch free.symm.trans k
      · have zone : holder.1 = z := Option.some.inj (holds.symm.trans k)
        have mem' : (z, holder.2) ∈ calls := by rw [← zone]; exact hh
        have eq : holder.2 = call := call_unique once mem' hz
        rw [eq] at loses
        exact nomatch (spares call keep).symm.trans loses
    · rw [if_neg same]
      exact k
  · rw [get_set]
    split
    · nofun
    · exact k
  · rw [get_set] at k
    by_cases same : d = c
    · rw [if_pos same] at k
      rw [same, ← Option.some.inj k]
      rcases held with ⟨-, usable, reach⟩ | ⟨holder, hh, -, holds, reach⟩
      · exact ⟨usable, reach, r.2, mem⟩
      · exact ⟨(stand c _ holds).1, reach, r.2, mem⟩
    · rw [if_neg same] at k
      exact stand d z k

theorem roundTaken_keeps (once : (calls.map Prod.fst).Nodup) (rest : List (Zone × StandbyCall)) (mem : ∀ r ∈ rest, r ∈ calls)
    (spares : ∀ r ∈ rest, ∀ call, kept call → preempts r.2 call = false) :
    ∀ g, roundTaken s calls rest g h → keepsGrants s calls kept g h := by
  induction rest with
  | nil => rintro g rfl; exact keepsGrants_refl
  | cons r rest ih =>
    have ih := ih (fun r hr => mem r (List.mem_cons_of_mem _ hr)) fun r hr => spares r (List.mem_cons_of_mem _ hr)
    rintro g (⟨c, picked, later⟩ | ⟨-, later⟩)
    · exact keepsGrants_trans (set_keepsGrants once (mem r List.mem_cons_self) (spares r List.mem_cons_self) picked) (ih _ later)
    · exact ih g later

theorem roundsTaken_keeps (once : (calls.map Prod.fst).Nodup) (spares : ∀ r ∈ firesOf calls, ∀ call, kept call → preempts r.2 call = false)
    (rounds : List Grants) : ∀ g, roundsTaken s calls rounds g h → keepsGrants s calls kept g h := by
  induction rounds with
  | nil => rintro g ⟨rfl, -⟩; exact keepsGrants_refl
  | cons m rest ih =>
    rintro g ⟨-, round, later⟩
    exact keepsGrants_trans (roundTaken_keeps once _ (fun r hr => (List.mem_filter.mp hr).1) spares g round) (ih m later)

/-- When the rounds end, no FIRE request takes a fan (R113). -/
theorem roundsTaken_ends (rounds : List Grants) : ∀ g, roundsTaken s calls rounds g h →
    ∀ r ∈ firesOf calls, ∀ c, ¬ pickedFor s calls h r c := by
  induction rounds with
  | nil => rintro g ⟨rfl, none⟩; exact none
  | cons m rest ih => rintro g ⟨-, -, later⟩; exact ih m later

theorem fansTaken_keeps (once : (calls.map Prod.fst).Nodup) (mem : r ∈ calls) (spares : ∀ call, kept call → preempts r.2 call = false)
    (fans : List Chan) : ∀ g, fansTaken s calls r fans g h → keepsGrants s calls kept g h := by
  induction fans with
  | nil => rintro g ⟨rfl, -⟩; exact keepsGrants_refl
  | cons c rest ih =>
    rintro g ⟨-, picked, later⟩
    exact keepsGrants_trans (set_keepsGrants once mem spares picked) (ih _ later)

/-- A request that was served is covered or takes no more (R114). -/
theorem fansTaken_ends (fans : List Chan) : ∀ g, fansTaken s calls r fans g h → coveredIn s h r ∨ ∀ c, ¬ pickedFor s calls h r c := by
  induction fans with
  | nil => rintro g ⟨rfl, ends⟩; exact ends
  | cons c rest ih => rintro g ⟨-, -, later⟩; exact ih _ later

theorem servedInTurn_keeps (once : (calls.map Prod.fst).Nodup) (rest : List (Zone × StandbyCall)) (mem : ∀ r ∈ rest, r ∈ calls)
    (spares : ∀ r ∈ rest, ∀ call, kept call → preempts r.2 call = false) :
    ∀ g, servedInTurn s calls rest g h → keepsGrants s calls kept g h := by
  induction rest with
  | nil => rintro g rfl; exact keepsGrants_refl
  | cons r rest ih =>
    have ih := ih (fun r hr => mem r (List.mem_cons_of_mem _ hr)) fun r hr => spares r (List.mem_cons_of_mem _ hr)
    rintro g ⟨fans, m, served, later⟩
    exact keepsGrants_trans (fansTaken_keeps once (mem r List.mem_cons_self) (spares r List.mem_cons_self) fans g served) (ih m later)

/-- A request in a list is served in its turn: covered or with no more to take, before the requests of no higher class behind it (R114). -/
theorem servedInTurn_at (rest : List (Zone × StandbyCall)) (hr : r ∈ rest) (sorted : rest.Pairwise fun a b => classRank a.2 ≤ classRank b.2) :
    ∀ g, servedInTurn s calls rest g h → ∃ before later m, (∀ a ∈ before, a ∈ rest) ∧
      (∀ a ∈ later, a ∈ rest ∧ classRank r.2 ≤ classRank a.2) ∧ servedInTurn s calls before g m ∧
      (coveredIn s m r ∨ ∀ c, ¬ pickedFor s calls m r c) ∧ servedInTurn s calls later m h := by
  induction rest with
  | nil => exact absurd hr List.not_mem_nil
  | cons a rest ih =>
    obtain ⟨below, sorted⟩ := List.pairwise_cons.mp sorted
    rintro g ⟨fans, n, served, later⟩
    rcases List.mem_cons.mp hr with rfl | hr
    · exact ⟨[r], rest, n, by simp, fun a ha => ⟨List.mem_cons_of_mem _ ha, below a ha⟩, ⟨fans, n, served, rfl⟩,
        fansTaken_ends fans g served, later⟩
    · obtain ⟨before, behind, m, first, last, prefix_, ends, tail⟩ := ih hr sorted n later
      refine ⟨a :: before, behind, m, fun b hb => ?_, fun b hb => ⟨List.mem_cons_of_mem _ (last b hb).1, (last b hb).2⟩,
        ⟨fans, n, served, prefix_⟩, ends, tail⟩
      rcases List.mem_cons.mp hb with rfl | hb
      · exact List.mem_cons_self
      · exact List.mem_cons_of_mem _ (first b hb)

/-! ### What a run leaves no request to ask for -/

theorem mem_firesOf : r ∈ firesOf calls ↔ r ∈ calls ∧ r.2 = .fire := by simp [firesOf]

/-- The requests of the three lower classes, in their order (R114). -/
theorem flows_sorted (calls : List (Zone × StandbyCall)) :
    (callsOfClass calls 1 ++ callsOfClass calls 2 ++ callsOfClass calls 3).Pairwise fun a b => classRank a.2 ≤ classRank b.2 := by
  have rank {n : Nat} {a : Zone × StandbyCall} (ha : a ∈ callsOfClass calls n) : classRank a.2 = n := by
    simpa using (List.mem_filter.mp ha).2
  have own (n : Nat) : (callsOfClass calls n).Pairwise fun a b => classRank a.2 ≤ classRank b.2 :=
    List.pairwise_iff_forall_sublist.mpr fun {a b} sub => by
      rw [rank (sub.subset (by simp)), rank (sub.subset (show b ∈ [a, b] by simp))]
  refine List.pairwise_append.mpr ⟨List.pairwise_append.mpr ⟨own 1, own 2, fun a ha b hb => ?_⟩, own 3, fun a ha b hb => ?_⟩
  · rw [rank ha, rank hb]
    decide
  · rw [rank hb]
    rcases List.mem_append.mp ha with ha | ha <;> rw [rank ha] <;> decide

theorem mem_flows : r ∈ callsOfClass calls 1 ++ callsOfClass calls 2 ++ callsOfClass calls 3 ↔ r ∈ calls ∧ r.2 ≠ .fire := by
  have rank : classRank r.2 = 1 ∨ classRank r.2 = 2 ∨ classRank r.2 = 3 ↔ r.2 ≠ .fire := by
    rcases r with ⟨z, _ | ⟨cls, _⟩⟩
    · simp [classRank]
    · cases cls <;> simp [classRank]
  simp only [callsOfClass, List.mem_append, List.mem_filter, beq_iff_eq, ← rank]
  tauto

/-- A request covered by some grants is covered where its fans are kept. -/
theorem coveredIn_mono (keeps : ∀ c : Chan, g[c] = some r.1 → h[c] = some r.1) (covered : coveredIn s g r) : coveredIn s h r := by
  obtain ⟨cls, amount, flow, enough⟩ := covered
  refine ⟨cls, amount, flow, enough.trans ?_⟩
  refine List.Sublist.sum_le_sum (List.Sublist.map _ (List.monotone_filter_right _ fun c held => ?_)) fun _ _ => Nat.zero_le _
  simpa using keeps c (by simpa using held)

/-- A fan in the reach of a request that takes no more is granted to a call the request does not preempt. -/
theorem held_of_none_picked (stand : grantsStand s calls g) (none : ∀ c, ¬ pickedFor s calls g r c) (usable : usableFan s c)
    (reach : inReach s c r.1) : ∃ a ∈ calls, g[c] = some a.1 ∧ preempts r.2 a.2 = false := by
  obtain ⟨free, lose⟩ := none_picked none
  cases held : g[c] with
  | none => exact absurd ⟨usable, held, reach⟩ (free c)
  | some z =>
    obtain ⟨-, -, call, mem⟩ := stand c z held
    exact ⟨(z, call), mem, rfl, Bool.eq_false_iff.mpr fun loses => lose _ mem ⟨loses, c, held, reach⟩⟩

/-- The grants a run decides can stand, and serve every request that can be served (R113, R114). -/
theorem served_of_decided (once : (calls.map Prod.fst).Nodup) (decided : grantsDecided s calls g h) :
    grantsStand s calls h ∧
      (∀ r ∈ calls, ¬ coveredIn s h r → ∀ c, usableFan s c → inReach s c r.1 → h[c] ≠ none) ∧
      (∀ r ∈ calls, r.2 = .fire → (∀ c, usableFan s c → inReach s c r.1 → ∃ a ∈ calls, a.2 = .fire ∧ h[c] = some a.1) ∧
        ∀ c, g[c] = some r.1 → usableFan s c → inReach s c r.1 → h[c] = some r.1) ∧
      ∀ r ∈ calls, ∀ amount, r.2 = .flow .gasAlarm amount → ¬ coveredIn s h r → ∀ c, usableFan s c → inReach s c r.1 →
        ∃ a ∈ calls, h[c] = some a.1 ∧ (a.2 = .fire ∨ ∃ n, a.2 = .flow .gasAlarm n) := by
  obtain ⟨stood, kept, fired, rounds, ended, released, fires, flows⟩ := decided
  have standStood : grantsStand s calls stood := fun c z k => ((ended c z).mp k).2
  have standKept : grantsStand s calls kept := fun c z k => standStood c z ((released c z).mp k).1
  have inFlows (a) (ha : a ∈ callsOfClass calls 1 ++ callsOfClass calls 2 ++ callsOfClass calls 3) : a ∈ calls ∧ a.2 ≠ .fire :=
    mem_flows.mp ha
  have round : keepsGrants s calls (· = .fire) kept fired := roundsTaken_keeps once (fun r hr call fire => by
    rw [(mem_firesOf.mp hr).2, fire]
    rfl) rounds kept fires
  have turns : keepsGrants s calls (· = .fire) fired h := servedInTurn_keeps once _ (fun a ha => (inFlows a ha).1)
    (fun a _ call fire => Bool.eq_false_iff.mpr fun loses => by
      rw [fire] at loses
      exact absurd (preempts_iff.mp loses).2 (Nat.not_lt_zero _)) fired flows
  have standFired : grantsStand s calls fired := round.2.2 standKept
  have served (r) (hr : r ∈ calls) (fire : r.2 = .fire) (c) (usable : usableFan s c) (reach : inReach s c r.1) :
      ∃ a ∈ calls, a.2 = .fire ∧ h[c] = some a.1 := by
    obtain ⟨a, ha, held, spared⟩ := held_of_none_picked standFired (roundsTaken_ends rounds kept fires r (mem_firesOf.mpr ⟨hr, fire⟩))
      usable reach
    have also : a.2 = .fire := by
      rw [fire] at spared
      cases k : a.2 with
      | fire => rfl
      | flow cls n =>
        rw [k] at spared
        exact nomatch spared
    exact ⟨a, ha, also, turns.1 c a.1 a.2 held ha also⟩
  have behind (r) (hr : r ∈ calls) (flow : r.2 ≠ .fire) (open_ : ¬ coveredIn s h r) : ∃ m later,
      (∀ a ∈ later, a ∈ calls ∧ classRank r.2 ≤ classRank a.2) ∧ servedInTurn s calls later m h ∧
        ∀ c, usableFan s c → inReach s c r.1 → ∃ a ∈ calls, m[c] = some a.1 ∧ preempts r.2 a.2 = false := by
    obtain ⟨before, later, m, first, last, prefix_, ends, tail⟩ := servedInTurn_at _ (mem_flows.mpr ⟨hr, flow⟩) (flows_sorted calls) fired flows
    have last (a) (ha : a ∈ later) : a ∈ calls ∧ classRank r.2 ≤ classRank a.2 := ⟨(inFlows a (last a ha).1).1, (last a ha).2⟩
    have standM : grantsStand s calls m := (servedInTurn_keeps (kept := fun _ => False) once _ (fun a ha => (inFlows a (first a ha)).1)
      (fun _ _ _ => False.elim) fired prefix_).2.2 standFired
    have keeps : keepsGrants s calls (· = r.2) m h := servedInTurn_keeps once _ (fun a ha => (last a ha).1)
      (fun a ha call same => Bool.eq_false_iff.mpr fun loses => by
        rw [same] at loses
        exact absurd (preempts_iff.mp loses).2 (Nat.not_lt.mpr (last a ha).2)) m tail
    have none := ends.resolve_left fun covered => open_ (coveredIn_mono (fun c held => keeps.1 c r.1 r.2 held hr rfl) covered)
    exact ⟨m, later, last, tail, fun c usable reach => held_of_none_picked standM none usable reach⟩
  refine ⟨turns.2.2 standFired, fun r hr open_ c usable reach => ?_, fun r hr fire => ⟨served r hr fire, fun c held usable reach => ?_⟩,
    fun r hr amount gas open_ c usable reach => ?_⟩
  · by_cases fire : r.2 = .fire
    · obtain ⟨a, -, -, held⟩ := served r hr fire c usable reach
      rw [held]
      nofun
    · obtain ⟨m, later, last, tail, holds⟩ := behind r hr fire open_
      obtain ⟨a, -, held, -⟩ := holds c usable reach
      refine (servedInTurn_keeps (kept := fun _ => False) once _ (fun a ha => (last a ha).1) (fun _ _ _ => False.elim) m tail).2.1 c ?_
      rw [held]
      nofun
  · have stands := (ended c r.1).mpr ⟨held, usable, reach, r.2, hr⟩
    have keeps := (released c r.1).mpr ⟨stands, fun cls amount flow => nomatch (call_unique once hr flow).symm.trans fire⟩
    exact turns.1 c r.1 r.2 (round.1 c r.1 r.2 keeps hr fire) hr fire
  · obtain ⟨m, later, last, tail, holds⟩ := behind r hr (by rw [gas]; nofun) open_
    obtain ⟨a, ha, held, spared⟩ := holds c usable reach
    have rank : classRank r.2 = 1 := by rw [gas]; rfl
    have low : classRank a.2 ≤ 1 := Nat.le_of_not_lt fun high =>
      nomatch spared.symm.trans (preempts_iff.mpr ⟨by omega, by omega⟩)
    have keeps : keepsGrants s calls (fun call => classRank call ≤ 1) m h := servedInTurn_keeps once _ (fun b hb => (last b hb).1)
      (fun b hb call low => Bool.eq_false_iff.mpr fun loses => by
        have higher := (last b hb).2
        have lower := (preempts_iff.mp loses).2
        omega) m tail
    refine ⟨a, ha, keeps.1 c a.1 a.2 held ha low, ?_⟩
    rcases k : a.2 with _ | ⟨cls, n⟩
    · exact .inl rfl
    · rw [k] at low
      cases cls with
      | gasAlarm => exact .inr ⟨n, rfl⟩
      | failureCover => exact absurd (show 2 ≤ 1 from low) (by decide)
      | shortfall => exact absurd (show 3 ≤ 1 from low) (by decide)

end Sys2Proof.Machine

/-! The events an allocator runs on, its cover timers and its restart (R110, R112, R115 to R118). -/

namespace Sys2Proof.Machine

open State

variable {s t u : State} {c d : Chan} {y z : Zone} {i : Instr} {rs : List StandbyEntry} {g h : Grants} {l k : List Instr}
  {call : StandbyCall} {e : StandbyEntry}

/-! ### The request list -/

theorem sameClass_iff {a b : StandbyCall} : sameClass a b = true ↔ classRank a = classRank b := by
  rcases a with _ | ⟨cls, _⟩
  · rcases b with _ | ⟨cls', _⟩
    · simp [sameClass]
    · cases cls' <;> simp [sameClass, classRank]
  · rcases b with _ | ⟨cls', _⟩
    · cases cls <;> simp [sameClass, classRank]
    · cases cls <;> cases cls' <;> simp [sameClass, classRank]

theorem requestOf_callsIn (rs : List StandbyEntry) (z : Zone) :
    (callsIn rs).find? (fun e => e.1 == z) = (requestOf rs z).map fun e => (e.zone, e.call) := by
  unfold callsIn requestOf
  rw [List.find?_map]
  rfl

theorem requestOf_spec (found : requestOf rs z = some e) : e ∈ rs ∧ e.zone = z := by
  have test := List.find?_some found
  exact ⟨List.mem_of_find?_eq_some found, by simpa using test⟩

theorem requestOf_none (none : requestOf rs z = none) (e : StandbyEntry) (he : e ∈ rs) : e.zone ≠ z := by
  simpa using List.find?_eq_none.mp none e he

theorem requestOf_eq (once : (rs.map StandbyEntry.zone).Nodup) (he : e ∈ rs) : requestOf rs e.zone = some e := by
  cases found : requestOf rs e.zone with
  | none => exact absurd rfl (requestOf_none found e he)
  | some d =>
    obtain ⟨hd, same⟩ := requestOf_spec found
    rw [entry_unique once hd he same]

/-- A call's place in the list is that of R110. -/
theorem callsIn_placeCall (rs : List StandbyEntry) (z : Zone) (call : StandbyCall) :
    callsIn (placeCall rs z call) = called (callsIn rs) z call := by
  unfold placeCall called
  rw [requestOf_callsIn]
  cases found : requestOf rs z with
  | none => simp [callsIn]
  | some e =>
    obtain ⟨he, zone⟩ := requestOf_spec found
    have moved : callsIn ((rs.filter fun d => d.zone != z) ++ [{ e with call := call }]) =
        (callsIn rs).filter (fun d => d.1 != z) ++ [(z, call)] := by
      simp [callsIn, List.filter_map, Function.comp_def, zone]
    have replaced : callsIn (rs.map fun d => if d.zone = z then { d with call := call } else d) =
        (callsIn rs).map fun d => if d.1 = z then (z, call) else d := by
      unfold callsIn
      rw [List.map_map, List.map_map]
      refine List.map_congr_left fun d _ => ?_
      by_cases own : d.zone = z
      · simp [own]
      · simp [own]
    show callsIn (if classRank e.call = classRank call then _ else _) = if sameClass e.call call then _ else _
    by_cases same : classRank e.call = classRank call
    · rw [if_pos same, if_pos (sameClass_iff.mpr same), replaced]
    · rw [if_neg same, if_neg fun k => same (sameClass_iff.mp k), moved]

/-- The cover timers of a list are those of the allocator's requests; a request of no zone there has none (R110, R117). -/
def coversKept (a : Allocator) (rs : List StandbyEntry) : Prop :=
  (rs.map StandbyEntry.zone).Nodup ∧
    ∀ e ∈ rs, (∀ d ∈ a.requests, d.zone = e.zone → d.cover = e.cover) ∧
      (e.cover = none ∨ ∃ d ∈ a.requests, d.zone = e.zone ∧ d.cover = e.cover)

theorem coversKept_filter {a : Allocator} (law : (a.requests.map StandbyEntry.zone).Nodup) (p : StandbyEntry → Bool) :
    coversKept a (a.requests.filter p) := by
  refine ⟨(List.filter_sublist.map _).nodup law, fun e he => ?_⟩
  have mem := (List.mem_filter.mp he).1
  exact ⟨fun d hd same => by rw [entry_unique law hd mem same], .inr ⟨e, mem, rfl, rfl⟩⟩

theorem coversKept_self {a : Allocator} (law : (a.requests.map StandbyEntry.zone).Nodup) : coversKept a a.requests := by
  have kept := coversKept_filter law fun _ => true
  rwa [List.filter_true] at kept

theorem coversKept_placeCall {a : Allocator} (law : (a.requests.map StandbyEntry.zone).Nodup) (z : Zone) (call : StandbyCall) :
    coversKept a (placeCall a.requests z call) := by
  obtain ⟨_, keptSelf⟩ := coversKept_self law
  unfold placeCall
  cases found : requestOf a.requests z with
  | none =>
    have fresh := requestOf_none found
    refine ⟨?_, fun e he => ?_⟩
    · rw [List.map_append]
      refine List.nodup_append.mpr ⟨law, by simp, fun b hb b' hb' same => ?_⟩
      obtain ⟨d, hd, rfl⟩ := List.mem_map.mp hb
      exact fresh d hd (same.trans (by simpa using hb'))
    · rcases List.mem_append.mp he with he | he
      · exact keptSelf e he
      · rw [List.mem_singleton.mp he]
        exact ⟨fun d hd same => absurd same (fresh d hd), .inl rfl⟩
  | some e =>
    obtain ⟨mem, zone⟩ := requestOf_spec found
    dsimp only
    split
    · refine ⟨?_, fun b hb => ?_⟩
      · rw [List.map_map, show (StandbyEntry.zone ∘ fun d => if d.zone = z then { d with call := call } else d) = StandbyEntry.zone from
          funext fun d => by simp only [Function.comp]; split <;> rfl]
        exact law
      · obtain ⟨d, hd, rfl⟩ := List.mem_map.mp hb
        split
        · exact keptSelf d hd
        · exact keptSelf d hd
    · obtain ⟨once, kept⟩ := coversKept_filter law fun d => d.zone != z
      refine ⟨?_, fun b hb => ?_⟩
      · rw [List.map_append]
        refine List.nodup_append.mpr ⟨once, by simp, fun b hb b' hb' same => ?_⟩
        obtain ⟨d, hd, rfl⟩ := List.mem_map.mp hb
        have other : d.zone ≠ z := by simpa using (List.mem_filter.mp hd).2
        exact other (same.trans ((by simpa using hb' : b' = e.zone).trans zone))
      · rcases List.mem_append.mp hb with hb | hb
        · exact kept b hb
        · rw [List.mem_singleton.mp hb]
          exact keptSelf e mem

/-! ### Cover timers and conditions after a run -/

/-- A request after a run: its cover timer runs exactly while it is not covered (R117). -/
theorem coverAfter_eq (s : State) (g : Grants) (e : StandbyEntry) :
    coverAfter s g e =
      { e with cover := if e.call = .fire ∨ covered s g e = true then none else some (e.cover.getD 60) } := by
  rcases e with ⟨zone, _ | ⟨cls, amount⟩, cover⟩
  · exact congrArg (StandbyEntry.mk zone .fire) (if_pos (.inl rfl)).symm
  · by_cases done : covered s g ⟨zone, .flow cls amount, cover⟩ = true
    · exact (if_pos done).trans (congrArg (StandbyEntry.mk zone (.flow cls amount)) (if_pos (.inr done)).symm)
    · exact (if_neg done).trans (congrArg (StandbyEntry.mk zone (.flow cls amount)) (if_neg (not_or.mpr ⟨nofun, done⟩)).symm)

/-- A SHORTFALL condition after a run is one that stood, of an uncovered request that is not FIRE (R117). -/
theorem shortfallAfter_iff (once : (rs.map StandbyEntry.zone).Nodup) (before : Bool) :
    shortfallAfter s rs g before z = true ↔ before = true ∧ ∃ e ∈ rs, e.zone = z ∧ e.call ≠ .fire ∧ ¬ covered s g e = true := by
  unfold shortfallAfter
  cases found : requestOf rs z with
  | none => exact ⟨nofun, fun ⟨_, e, he, zone, _⟩ => absurd zone (requestOf_none found e he)⟩
  | some e =>
    obtain ⟨he, zone⟩ := requestOf_spec found
    have own : (before && e.call != .fire && !covered s g e) = true ↔ before = true ∧ e.call ≠ .fire ∧ ¬ covered s g e = true := by
      simp [and_assoc]
    refine own.trans (and_congr_right fun _ => ⟨fun k => ⟨e, he, zone, k⟩, ?_⟩)
    rintro ⟨d, hd, same, k⟩
    rwa [entry_unique once hd he (same.trans zone.symm)] at k

/-! ### Differences -/

theorem parkTarget_spec (s : State) (c : Chan) {l : List Instr} (sent : parking s c ⊆ l) : parked s c l := by
  have reach := reachesZone_iff (s := s) (c := c) (z := s.store.cfg.channels[c].homeZone)
  have command (target : GateTarget) (k : parkTarget s c = some target) : .gateCommand c target ∈ l := by
    refine sent ?_
    unfold parking
    rw [k]
    exact List.mem_cons_self
  refine ⟨fun policy => command _ ?_, fun policy home => command _ ?_, fun policy away => command _ ?_, fun policy jammed => command _ ?_⟩
  · unfold parkTarget State.cfg
    rw [policy]
  · unfold parkTarget State.cfg
    rw [policy]
    exact congrArg some (if_pos (reach.mpr home))
  · unfold parkTarget State.cfg
    rw [policy]
    exact congrArg some (if_neg fun k => away (reach.mp k))
  · unfold parkTarget State.cfg
    rw [policy]
    exact if_pos jammed

theorem mem_parking {j : Instr} (mem : j ∈ parking s c) : ∃ target, j = .gateCommand c target := by
  obtain ⟨target, -, rfl⟩ := List.mem_map.mp mem
  exact ⟨target, rfl⟩

/-- The events one fan's difference sends concern that fan, and none is sent for a grant that stands (R115). -/
theorem mem_grantActions {j : Instr} {before after : Option Zone} (mem : j ∈ grantActions s c before after) :
    before ≠ after ∧ ((∃ target, j = .gateCommand c target) ∨ j = .standbyOffTarget c ∨ (∃ f, j = .grantReport c f) ∨
      ∃ z, j = .evaluationRequest z) := by
  have reports : j ∈ grantReports c → ∃ f, j = .grantReport c f := fun k => by
    obtain ⟨f, -, rfl⟩ := List.mem_map.mp k
    exact ⟨f, rfl⟩
  cases before with
  | none =>
    cases after with
    | none => exact absurd mem List.not_mem_nil
    | some z =>
      refine ⟨nofun, ?_⟩
      simp only [grantActions, List.mem_append, List.mem_singleton] at mem
      rcases mem with (rfl | k) | rfl
      · exact .inl ⟨_, rfl⟩
      · exact .inr (.inr (.inl (reports k)))
      · exact .inr (.inr (.inr ⟨z, rfl⟩))
  | some y =>
    cases after with
    | none =>
      refine ⟨nofun, ?_⟩
      simp only [grantActions, List.mem_append, List.mem_singleton] at mem
      rcases mem with ((rfl | k) | k) | rfl
      · exact .inr (.inl rfl)
      · exact .inl (mem_parking k)
      · exact .inr (.inr (.inl (reports k)))
      · exact .inr (.inr (.inr ⟨y, rfl⟩))
    | some z =>
      by_cases same : y = z
      · rw [grantActions, if_pos same] at mem
        exact absurd mem List.not_mem_nil
      · rw [grantActions, if_neg same] at mem
        refine ⟨fun k => same (Option.some.inj k), ?_⟩
        simp only [List.mem_append, List.mem_cons, List.not_mem_nil, or_false] at mem
        rcases mem with ((rfl | rfl) | k) | rfl | rfl
        · exact .inr (.inl rfl)
        · exact .inl ⟨_, rfl⟩
        · exact .inr (.inr (.inl (reports k)))
        · exact .inr (.inr (.inr ⟨y, rfl⟩))
        · exact .inr (.inr (.inr ⟨z, rfl⟩))

theorem mem_grantReports (c : Chan) (f : Feed) : .grantReport c f ∈ grantReports c := by
  cases f <;> simp [grantReports, bothFeeds]

/-- The actions of one fan's difference are those of R115. -/
theorem grantActions_spec (s : State) (c : Chan) (before after : Option Zone) :
    (∀ z, before ≠ after → after = some z → .gateCommand c (.zone z) ∈ grantActions s c before after) ∧
      (before ≠ after → ∀ f, .grantReport c f ∈ grantActions s c before after) ∧
      (before ≠ after → before.isSome = true → .standbyOffTarget c ∈ grantActions s c before after) ∧
      (∀ z, before ≠ after → before = some z ∨ after = some z → .evaluationRequest z ∈ grantActions s c before after) ∧
      (before.isSome = true → after = none → parking s c ⊆ grantActions s c before after) := by
  cases before with
  | none =>
    cases after with
    | none => exact ⟨fun _ k => absurd rfl k, fun k => absurd rfl k, nofun, fun _ k => absurd rfl k, nofun⟩
    | some y =>
      refine ⟨fun z _ k => ?_, fun _ f => ?_, fun _ => nofun, fun z _ k => ?_, nofun⟩
      · cases k
        simp [grantActions]
      · simp [grantActions, mem_grantReports]
      · rcases k with k | k
        · exact nomatch k
        · cases k
          simp [grantActions]
  | some x =>
    cases after with
    | none =>
      refine ⟨fun _ _ => nofun, fun _ f => ?_, fun _ _ => ?_, fun z _ k => ?_, fun _ _ j hj => ?_⟩
      · simp [grantActions, mem_grantReports]
      · simp [grantActions]
      · rcases k with k | k
        · cases k
          simp [grantActions]
        · exact nomatch k
      · simp [grantActions, hj]
    | some y =>
      by_cases same : x = y
      · cases same
        exact ⟨fun _ k => absurd rfl k, fun k => absurd rfl k, fun k => absurd rfl k, fun _ k => absurd rfl k, fun _ => nofun⟩
      · refine ⟨fun z _ k => ?_, fun _ f => ?_, fun _ _ => ?_, fun z _ k => ?_, fun _ => nofun⟩
        · cases k
          simp [grantActions, same]
        · simp [grantActions, same, mem_grantReports]
        · simp [grantActions, same]
        · rcases k with k | k <;> cases k <;> simp [grantActions, same]

/-! ### The run -/

/-- The events of a run carry out the differences of every fan (R115). -/
theorem carriedOut_differences (s : State) (before after : Grants) (c : Chan) {extra : List Instr}
    (other : ∀ j ∈ extra, j ≠ .standbyOffTarget c ∧ ∀ f, j ≠ .grantReport c f) :
    carriedOut s c before[c] after[c] (differences s before after ++ extra) := by
  have own {j : Instr} (hj : j ∈ grantActions s c before[c] after[c]) : j ∈ differences s before after ++ extra :=
    List.mem_append_left _ (List.mem_flatMap.mpr ⟨c, List.mem_finRange c, hj⟩)
  obtain ⟨gate, reports, off, evaluates, parks⟩ := grantActions_spec s c before[c] after[c]
  have silent (j : Instr) (kind : j = .standbyOffTarget c ∨ ∃ f, j = .grantReport c f) (same : before[c] = after[c]) :
      j ∉ differences s before after ++ extra := fun mem => by
    rcases List.mem_append.mp mem with mem | mem
    · obtain ⟨d, -, hd⟩ := List.mem_flatMap.mp mem
      obtain ⟨differs, form⟩ := mem_grantActions hd
      have eq : d = c := by
        rcases kind with rfl | ⟨f, rfl⟩ <;> rcases form with ⟨_, k⟩ | k | ⟨_, k⟩ | ⟨_, k⟩ <;> cases k <;> rfl
      exact differs (eq ▸ same)
    · rcases kind with rfl | ⟨f, rfl⟩
      · exact (other _ mem).1 rfl
      · exact (other _ mem).2 f rfl
  exact ⟨fun z differs some_ => own (gate z differs some_), fun differs => ⟨own (reports differs .a), own (reports differs .b)⟩,
    fun differs held => own (off differs held), fun z differs either => own (evaluates z differs either),
    fun held ends => parkTarget_spec s c fun j hj => own (parks held ends hj),
    fun same => ⟨silent _ (.inl rfl) same, silent _ (.inr ⟨.a, rfl⟩) same, silent _ (.inr ⟨.b, rfl⟩) same⟩⟩

theorem mem_shortfallClears {before after : Vector Bool 8} {j : Instr} :
    j ∈ shortfallClears before after ↔ ∃ z : Zone, before[z] = true ∧ after[z] = false ∧ j = .conditionClearReport .shortfall z.val := by
  unfold shortfallClears
  rw [List.mem_map]
  refine ⟨fun ⟨z, hz, eq⟩ => ?_, fun ⟨z, was, is, eq⟩ => ⟨z, ?_, eq.symm⟩⟩
  · obtain ⟨was, is⟩ := Bool.and_eq_true_iff.mp (List.mem_filter.mp hz).2
    exact ⟨z, was, by simpa using is, eq.symm⟩
  · exact List.mem_filter.mpr ⟨List.mem_finRange z, by rw [was, is]; rfl⟩

/-- The allocator after a run on a list of requests. -/
def runAlloc (s : State) (rs : List StandbyEntry) : Allocator :=
  { requests := rs.map (coverAfter s (decideGrants s rs s.alloc.grants)), grants := decideGrants s rs s.alloc.grants
    shortfall := Vector.ofFn fun z : Zone => shortfallAfter s rs (decideGrants s rs s.alloc.grants) s.alloc.shortfall[z] z }

/-- What a run sends (R115, R117). -/
def runSends (s : State) (rs : List StandbyEntry) : List Instr :=
  differences s s.alloc.grants (runAlloc s rs).grants ++ shortfallClears s.alloc.shortfall (runAlloc s rs).shortfall

theorem runOn_eq (s : State) (rs : List StandbyEntry) : runOn s rs = (s.setAlloc (runAlloc s rs)).emit (runSends s rs) := rfl

theorem callsIn_run (s : State) (rs : List StandbyEntry) : callsOf (runAlloc s rs) = callsIn rs := by
  unfold callsOf callsIn runAlloc
  rw [List.map_map]
  exact List.map_congr_left fun e _ => by simp only [Function.comp, coverAfter_eq]

theorem callsIn_nodup (once : (rs.map StandbyEntry.zone).Nodup) : ((callsIn rs).map Prod.fst).Nodup := by
  unfold callsIn
  rw [List.map_map]
  exact once

theorem run_decided (s : State) (once : (rs.map StandbyEntry.zone).Nodup) :
    grantsDecided s (callsIn rs) s.alloc.grants (runAlloc s rs).grants := decideGrants_spec s rs once _

theorem run_covered {a : Allocator} (grants : a.grants = g) (e : StandbyEntry) : covered s g e = true ↔ isCovered s a e := by
  subst grants
  exact covered_iff

/-- The list, grants, cover timers and conditions after a run are those of R112 and R117. -/
theorem ran_of_run {a : Allocator} {extra : List Instr} (kept : coversKept s.alloc rs) (run : a = runAlloc (s.taken i) rs)
    (frame : onlyChanges [.alloc, .inFlight] s t) (alloc : t.alloc = a) (sends : sent i s t (runSends (s.taken i) rs ++ extra))
    (gates : ∀ j ∈ extra, ∃ c target, j = Instr.gateCommand c target) : ranOn i s t (callsIn rs) := by
  obtain ⟨once, covers⟩ := kept
  obtain ⟨stand, -⟩ := served_of_decided (callsIn_nodup once) ((grantsDecided_taken i).mp (run_decided (s.taken i) once))
  have calls : callsOf t.alloc = callsIn rs := by rw [alloc, run, callsIn_run]
  have covered_ (e : StandbyEntry) : covered (s.taken i) (runAlloc (s.taken i) rs).grants e = true ↔ isCovered s t.alloc e :=
    run_covered (s := s) (by rw [alloc, run]) e
  have requests : t.alloc.requests = rs.map (coverAfter (s.taken i) (runAlloc (s.taken i) rs).grants) := by rw [alloc, run]; rfl
  have grants : t.alloc.grants = (runAlloc (s.taken i) rs).grants := by rw [alloc, run]
  have entry (e) (he : e ∈ t.alloc.requests) : ∃ b ∈ rs, e =
      { b with cover := if b.call = .fire ∨ covered (s.taken i) (runAlloc (s.taken i) rs).grants b = true then none
          else some (b.cover.getD 60) } := by
    rw [requests] at he
    obtain ⟨b, hb, rfl⟩ := List.mem_map.mp he
    exact ⟨b, hb, coverAfter_eq _ _ _⟩
  refine ⟨frame, calls, fun c z held => ?_, fun e he => ?_, fun z => ?_, _, sends, fun c => ?_, fun z => ⟨fun mem => ?_, ?_⟩⟩
  · rw [grants] at held
    obtain ⟨usable, reach, call, mem⟩ := stand c z held
    rw [← calls] at mem
    obtain ⟨e, he, eq⟩ := List.mem_map.mp mem
    exact ⟨usable, reach, e, he, congrArg Prod.fst eq⟩
  · obtain ⟨b, hb, rfl⟩ := entry e he
    obtain ⟨same, source⟩ := covers b hb
    have test := or_congr (Iff.rfl (a := b.call = .fire)) (covered_ b)
    by_cases done : b.call = .fire ∨ covered (s.taken i) (runAlloc (s.taken i) rs).grants b = true
    · dsimp only
      rw [if_pos done]
      exact ⟨⟨fun _ => test.mp done, fun _ => rfl⟩, nofun, fun _ _ _ _ k => absurd rfl k, fun _ k => absurd rfl k⟩
    · dsimp only
      rw [if_neg done]
      refine ⟨⟨nofun, fun k => absurd (test.mpr k) done⟩, fun n hn => ?_, fun d hd zone runs _ => ?_, fun none _ => ?_⟩
      · rw [← Option.some.inj hn]
        rcases source with k | ⟨d, hd, zone, k⟩
        · exact .inl (by rw [k]; rfl)
        · cases cover : b.cover with
          | none => exact .inl rfl
          | some m => exact .inr ⟨d, hd, zone, k.trans cover⟩
      · rw [same d hd zone] at runs ⊢
        cases cover : b.cover with
        | none => exact absurd cover runs
        | some m => rfl
      · rcases source with k | ⟨d, hd, zone, k⟩
        · rw [k]
          rfl
        · rw [← k, none d hd zone]
          rfl
  · have own : t.alloc.shortfall[z] =
        shortfallAfter (s.taken i) rs (runAlloc (s.taken i) rs).grants s.alloc.shortfall[z] z := by
      rw [alloc, run]
      exact Vector.getElem_ofFn _
    rw [own, shortfallAfter_iff once]
    refine and_congr_right fun _ => ⟨?_, ?_⟩
    · rintro ⟨b, hb, zone, flow, open_⟩
      refine ⟨_, requests ▸ List.mem_map_of_mem hb, ?_⟩
      rw [coverAfter_eq]
      exact ⟨zone, flow, fun k => open_ ((covered_ b).mpr k)⟩
    · rintro ⟨e, he, zone, flow, open_⟩
      obtain ⟨b, hb, rfl⟩ := entry e he
      exact ⟨b, hb, zone, flow, fun k => open_ ((covered_ b).mp k)⟩
  · rw [runSends, List.append_assoc, grants]
    refine carriedOut_differences (s.taken i) s.alloc.grants _ c fun j hj => ?_
    rcases List.mem_append.mp hj with hj | hj
    · obtain ⟨z, -, -, rfl⟩ := mem_shortfallClears.mp hj
      exact ⟨nofun, fun _ => nofun⟩
    · obtain ⟨c, target, rfl⟩ := gates j hj
      exact ⟨nofun, fun _ => nofun⟩
  · rcases List.mem_append.mp mem with mem | mem
    · rcases List.mem_append.mp mem with mem | mem
      · obtain ⟨d, -, hd⟩ := List.mem_flatMap.mp mem
        obtain ⟨-, form⟩ := mem_grantActions hd
        rcases form with ⟨_, k⟩ | k | ⟨_, k⟩ | ⟨_, k⟩ <;> exact nomatch k
      · obtain ⟨y, -, -, k⟩ := mem_shortfallClears.mp mem
        exact nomatch k
    · obtain ⟨c, target, k⟩ := gates _ mem
      exact nomatch k
  · have after : t.alloc.shortfall = (runAlloc (s.taken i) rs).shortfall := by rw [alloc, run]
    rw [after]
    refine ⟨fun mem => ?_, fun ⟨was, is⟩ => List.mem_append_left _ (List.mem_append_right _ (mem_shortfallClears.mpr ⟨z, was, is, rfl⟩))⟩
    rcases List.mem_append.mp mem with mem | mem
    · rcases List.mem_append.mp mem with mem | mem
      · obtain ⟨d, -, hd⟩ := List.mem_flatMap.mp mem
        obtain ⟨-, form⟩ := mem_grantActions hd
        rcases form with ⟨_, k⟩ | k | ⟨_, k⟩ | ⟨_, k⟩ <;> exact nomatch k
      · obtain ⟨y, was, is, k⟩ := mem_shortfallClears.mp mem
        have eq : z = y := Fin.ext (Instr.conditionClearReport.inj k).2
        exact ⟨eq ▸ was, eq ▸ is⟩
    · obtain ⟨c, target, k⟩ := gates _ mem
      exact nomatch k

/-- An event whose effect is a run on a list of requests, and commands to gates after it. -/
theorem run_ran {extra : List Instr} (kept : coversKept s.alloc rs) (gates : ∀ j ∈ extra, ∃ c target, j = Instr.gateCommand c target) :
    ranOn i s ((runOn (s.taken i) rs).emit extra) (callsIn rs) := by
  rw [runOn_eq, emit_emit]
  refine ran_of_run (a := runAlloc (s.taken i) rs) kept rfl ?_ rfl rfl gates
  exact onlyChanges_trans (onlyChanges_mono (taken_onlyChanges s i) (by simp))
    (onlyChanges_trans (onlyChanges_mono (setAlloc_onlyChanges _ _) (by simp)) (onlyChanges_mono (emit_onlyChanges _ _) (by simp)))

/-- The list an allocator event runs on. -/
def runsOn (a : Allocator) : Instr → List StandbyEntry
  | .standbyRequestRaise z call | .standbyRequestChange z call => placeCall a.requests z call
  | .standbyRequestWithdraw z => a.requests.filter fun e => e.zone != z
  | _ => a.requests

/-- The events that are followed by a run (R112). -/
def isRun : Instr → Bool
  | .standbyRequestRaise _ _ | .standbyRequestChange _ _ | .standbyRequestWithdraw _ | .gateJamReport _ | .standbyAvailabilityReport _ _ => true
  | _ => false

/-- The commands to gates that follow the run: the proof of a jammed gate after service (R116). -/
def provesGate (s : State) : Instr → List Instr
  | .standbyAvailabilityReport c left => proveGate s c left
  | _ => []

theorem runsOn_kept (i : Instr) (once : (s.alloc.requests.map (·.zone)).Nodup) : coversKept s.alloc (runsOn s.alloc i) := by
  unfold runsOn
  split
  · exact coversKept_placeCall once _ _
  · exact coversKept_placeCall once _ _
  · exact coversKept_filter once _
  · exact coversKept_self once

theorem provesGate_commands (i : Instr) : ∀ j ∈ provesGate s i, ∃ c target, j = Instr.gateCommand c target := by
  intro j mem
  unfold provesGate at mem
  split at mem
  · rename_i c left
    unfold proveGate at mem
    split at mem
    · exact ⟨c, mem_parking mem⟩
    · exact absurd mem List.not_mem_nil
  · exact absurd mem List.not_mem_nil

/-- Every such event is a run on its list. -/
theorem exec_isRun (power : s.powered = true) (k : isRun i = true) :
    exec i s = .next ((runOn (s.taken i) (runsOn s.alloc i)).emit (provesGate (runOn (s.taken i) (runsOn s.alloc i)) i)) := by
  cases i with
  | standbyRequestRaise z call =>
    exact (onEvent_of_powered power : execStandbyRequestRaise z call s = _).trans (by rw [show provesGate _ _ = [] from rfl, emit_nil]; rfl)
  | standbyRequestChange z call =>
    exact (onEvent_of_powered power : execStandbyRequestChange z call s = _).trans (by rw [show provesGate _ _ = [] from rfl, emit_nil]; rfl)
  | standbyRequestWithdraw z =>
    exact (onEvent_of_powered power : execStandbyRequestWithdraw z s = _).trans (by rw [show provesGate _ _ = [] from rfl, emit_nil]; rfl)
  | gateJamReport c =>
    exact (onEvent_of_powered power : execGateJamReport c s = _).trans (by rw [show provesGate _ _ = [] from rfl, emit_nil]; rfl)
  | standbyAvailabilityReport c left => exact (onEvent_of_powered power : execStandbyAvailabilityReport c left s = _)
  | _ => exact nomatch k

theorem isRun_ran (law : AllocLaw s.alloc) (i : Instr) :
    ranOn i s ((runOn (s.taken i) (runsOn s.alloc i)).emit (provesGate (runOn (s.taken i) (runsOn s.alloc i)) i))
      (callsIn (runsOn s.alloc i)) :=
  run_ran (runsOn_kept i law.1) (provesGate_commands i)

/-- Settles O44: every event of the allocator is a run on a list that keeps the cover timers. -/
theorem allocationRunsOnItsEvents : Obligations.AllocationRunsOnItsEvents := by
  intro s power law
  refine ⟨fun z call => ?_, fun z => ?_, fun c => ⟨_, exec_isRun power rfl, isRun_ran law _⟩, fun c left => ?_⟩
  · rw [show called (callsOf s.alloc) z call = callsIn (placeCall s.alloc.requests z call) from (callsIn_placeCall _ z call).symm]
    exact ⟨⟨_, exec_isRun power rfl, isRun_ran law (.standbyRequestRaise z call)⟩,
      ⟨_, exec_isRun power rfl, isRun_ran law (.standbyRequestChange z call)⟩⟩
  · have filtered : (callsOf s.alloc).filter (fun e => e.1 != z) = callsIn (s.alloc.requests.filter fun e => e.zone != z) := by
      simp [callsOf, callsIn, List.filter_map, Function.comp_def]
    rw [filtered]
    exact ⟨_, exec_isRun power rfl, isRun_ran law (.standbyRequestWithdraw z)⟩
  · have ran := isRun_ran law (.standbyAvailabilityReport c left)
    refine ⟨_, exec_isRun power rfl, ran, fun out jammed ungranted => ?_⟩
    subst out
    refine ⟨_, ?_, parkTarget_spec s c (List.subset_append_right (runSends (s.taken (.standbyAvailabilityReport c true)) s.alloc.requests) _)⟩
    have free : (runOn (s.taken (.standbyAvailabilityReport c true)) s.alloc.requests).alloc.grants[c] = none := ungranted
    have stuck : (runOn (s.taken (.standbyAvailabilityReport c true)) s.alloc.requests).gates[c].state = .jammed := jammed
    have proves : proveGate (runOn (s.taken (.standbyAvailabilityReport c true)) s.alloc.requests) c true = parking s c :=
      if_pos (by rw [free, stuck]; rfl)
    show ((runOn (s.taken _) s.alloc.requests).emit (proveGate (runOn (s.taken (.standbyAvailabilityReport c true)) s.alloc.requests) c true)).inFlight = _
    rw [proves, runOn_eq, emit_emit]
    rfl

/-- A run serves its list in the steps of R112 to R114. -/
theorem served_of_run (once : (rs.map StandbyEntry.zone).Nodup) (alloc : t.alloc = runAlloc (s.taken i) rs) :
    servedBy s t ∧ grantsDecided s (callsOf t.alloc) s.alloc.grants t.alloc.grants := by
  have decided : grantsDecided s (callsIn rs) s.alloc.grants t.alloc.grants := by
    rw [alloc]
    exact (grantsDecided_taken i).mp (run_decided (s.taken i) once)
  have calls : callsOf t.alloc = callsIn rs := by rw [alloc, callsIn_run]
  obtain ⟨-, uncovered, fires, alarms⟩ := served_of_decided (callsIn_nodup once) decided
  rw [← calls] at decided uncovered fires alarms
  have inCalls {e : StandbyEntry} (he : e ∈ t.alloc.requests) : (e.zone, e.call) ∈ callsOf t.alloc := List.mem_map_of_mem he
  refine ⟨⟨fun e he open_ => uncovered _ (inCalls he) open_, fun e he fire => ?_, fun e he amount call open_ c usable reach => ?_⟩, decided⟩
  · obtain ⟨reached, stays⟩ := fires _ (inCalls he) fire
    refine ⟨fun c usable reach => ?_, stays⟩
    obtain ⟨a, ha, call, held⟩ := reached c usable reach
    obtain ⟨d, hd, rfl⟩ := List.mem_map.mp ha
    exact ⟨d, hd, call, held⟩
  · obtain ⟨a, ha, held, call⟩ := alarms _ (inCalls he) amount call open_ c usable reach
    obtain ⟨d, hd, rfl⟩ := List.mem_map.mp ha
    exact ⟨d, hd, held, call⟩

/-- Settles O45: every event of the allocator is a run. -/
theorem allocationRunServesRequests : Obligations.AllocationRunServesRequests := by
  intro i s t power law events next
  have k : isRun i = true := by
    obtain ⟨z, call, rfl | rfl⟩ | ⟨z, rfl⟩ | ⟨c, rfl⟩ | ⟨c, left, rfl⟩ := events <;> rfl
  obtain rfl := Host.Outcome.next.inj ((exec_isRun power k).symm.trans next)
  exact served_of_run (runsOn_kept i law.1).1 rfl

/-! ### The cover timer and the restart -/

theorem coverOf_request (once : (rs.map StandbyEntry.zone).Nodup) (mem : e ∈ rs) : (requestOf rs e.zone).bind (·.cover) = e.cover := by
  rw [requestOf_eq once mem]
  rfl

theorem coverOf_none (idle : ∀ e ∈ rs, e.zone = z → e.cover = none) : (requestOf rs z).bind (·.cover) = none := by
  cases found : requestOf rs z with
  | none => rfl
  | some e => exact idle e (requestOf_spec found).1 (requestOf_spec found).2

theorem coverTimerExpiry_running (power : s.powered = true) (timer : (requestOf s.alloc.requests z).bind (·.cover) = some n) :
    exec (.coverTimerExpiry z) s = .next (((s.taken (.coverTimerExpiry z)).setAlloc { s.alloc with
      requests := s.alloc.requests.map fun d => if d.zone = z then { d with cover := none } else d
      shortfall := s.alloc.shortfall.set z true }).reportChange s.alloc.shortfall[z] true .shortfall z.val) := by
  have at_ : (requestOf (s.taken (.coverTimerExpiry z)).alloc.requests z).bind (·.cover) = some n := timer
  refine (onEvent_of_powered power : execCoverTimerExpiry z s = _).trans ?_
  simp only [at_]
  rfl

theorem coverTimerExpiry_idle (power : s.powered = true) (idle : (requestOf s.alloc.requests z).bind (·.cover) = none) :
    exec (.coverTimerExpiry z) s = .next (s.taken (.coverTimerExpiry z)) := by
  have at_ : (requestOf (s.taken (.coverTimerExpiry z)).alloc.requests z).bind (·.cover) = none := idle
  refine (onEvent_of_powered power : execCoverTimerExpiry z s = _).trans ?_
  simp only [at_]

/-- What the restart sends (R118). -/
def allocRestartSends (s : State) : List Instr :=
  restartActions s ++ shortfallClears s.alloc.shortfall Allocator.initial.shortfall ++ allZones.map .standbyClearedReport

theorem mem_restartActions (granted : s.alloc.grants[c] ≠ none) : [.standbyOffTarget c] ++ parking s c ++ grantReports c ⊆ restartActions s := by
  intro j mem
  refine List.mem_flatMap.mpr ⟨c, List.mem_finRange c, ?_⟩
  cases held : s.alloc.grants[c] with
  | none => exact absurd held granted
  | some z => exact mem

/-- The restart ends every grant of a fan as R115 does, and tells every zone. -/
theorem allocRestartSends_spec (s : State) :
    (∀ c : Chan, s.alloc.grants[c] ≠ none → .standbyOffTarget c ∈ allocRestartSends s ∧ parked s c (allocRestartSends s) ∧
      .grantReport c .a ∈ allocRestartSends s ∧ .grantReport c .b ∈ allocRestartSends s) ∧
    ∀ z : Zone, .standbyClearedReport z ∈ allocRestartSends s ∧
      (s.alloc.shortfall[z] = true → .conditionClearReport .shortfall z.val ∈ allocRestartSends s) := by
  refine ⟨fun c granted => ?_, fun z => ⟨?_, fun active => ?_⟩⟩
  · have within : [.standbyOffTarget c] ++ parking s c ++ grantReports c ⊆ allocRestartSends s :=
      fun j mem => List.mem_append_left _ (List.mem_append_left _ (mem_restartActions granted mem))
    refine ⟨within (by simp), parkTarget_spec s c fun j mem => within (by simp [mem]), within ?_, within ?_⟩ <;>
      exact List.mem_append_right _ (List.mem_map_of_mem (by decide))
  · exact List.mem_append_right _ (List.mem_map_of_mem (List.mem_finRange z))
  · refine List.mem_append_left _ (List.mem_append_right _ (mem_shortfallClears.mpr ⟨z, active, ?_, rfl⟩))
    exact Vector.getElem_replicate _

/-- Settles O46. -/
theorem coverTimerAndAllocatorRestart : Obligations.CoverTimerAndAllocatorRestart := by
  intro s power
  refine ⟨fun z e n law mem zone cover => ?_, fun z idle => ?_, ?_⟩
  · subst zone
    refine ⟨_, coverTimerExpiry_running power ((coverOf_request law.1 mem).trans cover), ?_, ?_, ?_⟩
    · rw [reportChange_eq]
      exact onlyChanges_trans (onlyChanges_mono (taken_onlyChanges s _) (by simp))
        (onlyChanges_trans (onlyChanges_mono (setAlloc_onlyChanges _ _) (by simp)) (onlyChanges_mono (emit_onlyChanges _ _) (by simp)))
    · rw [reportChange_eq]
      rfl
    · rw [reportChange_eq]
      refine congrArg (s.inFlight.erase (.coverTimerExpiry e.zone) ++ ·) ?_
      cases s.alloc.shortfall[e.zone] <;> rfl
  · exact ⟨_, coverTimerExpiry_idle power (coverOf_none idle), taken_onlyChanges s _⟩
  · obtain ⟨fans, zones⟩ := allocRestartSends_spec (s.taken .allocatorRestart)
    refine ⟨_, (onEvent_of_powered power : execAllocatorRestart s = _), ?_, rfl, fun c => Vector.getElem_replicate _,
      fun z => Vector.getElem_replicate _, allocRestartSends (s.taken .allocatorRestart), rfl, fans, zones⟩
    exact onlyChanges_trans (onlyChanges_mono (taken_onlyChanges s _) (by simp))
      (onlyChanges_trans (onlyChanges_mono (setAlloc_onlyChanges _ _) (by simp)) (onlyChanges_mono (emit_onlyChanges _ _) (by simp)))

end Sys2Proof.Machine

/-!
The polling cycle (R119, R121, R127, R131): how one head takes its configured zone, and what a cycle's start leaves of the whole line.
-/

namespace Sys2Proof.Machine

open State

variable {s t : State} {cfg : Cfg} {l : SensorLine} {h k : HeadAddr} {hs : List HeadAddr} {z : Zone}

/-! ### One head takes its configured zone -/

/-- A head's record once its configured zone is in force (R127). -/
def headInForce (r : HeadRecord) (zone : Option Zone) : HeadRecord := if r.zone = zone then r else headApplied r zone

theorem headApplied_zone (r : HeadRecord) (zone : Option Zone) : (headApplied r zone).zone = zone := by
  unfold headApplied
  split
  · next empty => exact empty.symm
  · rfl

theorem headInForce_zone (r : HeadRecord) (zone : Option Zone) : (headInForce r zone).zone = zone := by
  unfold headInForce
  split
  · assumption
  · exact headApplied_zone r zone

/-- The line once a head has another zone in force: its record, the reply window that closes with it, and the ZONE-BLIND conditions of the zone
it left and of the one it joined (R127, R131). -/
def rezoned (l : SensorLine) (h : HeadAddr) (zone : Option Zone) : SensorLine :=
  { l with
    heads := l.heads.set h (headApplied l.heads[h] zone)
    window := if zone = none ∧ l.window = some h then none else l.window }

def SensorLine.assessed (l : SensorLine) (zone : Option Zone) : SensorLine := { l with zoneBlind := blindAssessed l zone }

def lineApplied (cfg : Cfg) (l : SensorLine) (h : HeadAddr) : SensorLine :=
  if l.heads[h].zone = cfg.heads[h] then l
  else ((rezoned l h cfg.heads[h]).assessed l.heads[h].zone).assessed cfg.heads[h]

/-- What that sends (R127, R129, R131). -/
def applySends (cfg : Cfg) (l : SensorLine) (h : HeadAddr) : List Instr :=
  if l.heads[h].zone = cfg.heads[h] then []
  else
    (if cfg.heads[h] = none ∧ l.heads[h].state = .lost then [.conditionClearReport .sensorLost h.val] else []) ++
      (blindReports (rezoned l h cfg.heads[h]) l.heads[h].zone ++
        (blindReports ((rezoned l h cfg.heads[h]).assessed l.heads[h].zone) cfg.heads[h] ++
          if l.heads[h].state.counts then zoneRequests l.heads[h].zone ++ zoneRequests cfg.heads[h] else []))

theorem setSensors_setSensors (l m : SensorLine) : (s.setSensors l).setSensors m = s.setSensors m := rfl

theorem reassess_of (l : SensorLine) (e : List Instr) (zone : Option Zone) :
    reassess ((s.setSensors l).emit e) zone = (s.setSensors (l.assessed zone)).emit (e ++ blindReports l zone) := by
  rw [reassess_eq, ← emit_emit]
  rfl

theorem dropHead_line (s : State) (h : HeadAddr) :
    (if (s.setHead h (HeadRecord.initial none)).sensors.window = some h then
      (s.setHead h (HeadRecord.initial none)).setSensors { (s.setHead h (HeadRecord.initial none)).sensors with window := none }
    else s.setHead h (HeadRecord.initial none)) = s.setSensors (rezoned s.sensors h none) := by
  by_cases open_ : s.sensors.window = some h
  · have closes : (rezoned s.sensors h none).window = none := if_pos ⟨rfl, open_⟩
    refine (if_pos open_).trans ?_
    rw [← closes]
    rfl
  · have stays : (rezoned s.sensors h none).window = s.sensors.window := if_neg fun k => open_ k.2
    refine (if_neg open_).trans ?_
    show s.setSensors { rezoned s.sensors h none with window := s.sensors.window } = _
    rw [← stays]

theorem lost_report (s : State) (h : HeadAddr) (r : HeadRecord) :
    s.reportChange r.lost false .sensorLost h.val =
      s.emit (if (none : Option Zone) = none ∧ r.state = .lost then [.conditionClearReport .sensorLost h.val] else []) := by
  rw [reportChange_eq]
  by_cases lost : r.state = .lost
  · rw [(HeadRecord.lost_iff r).mpr lost, if_pos (⟨rfl, lost⟩ : (none : Option Zone) = none ∧ r.state = .lost)]
    rfl
  · rw [Bool.eq_false_iff.mpr fun k => lost ((HeadRecord.lost_iff r).mp k), if_neg fun k : (none : Option Zone) = none ∧ r.state = .lost => lost k.2]
    rfl

theorem requests_if (s : State) (e : List Instr) (test : Bool) (a b : Option Zone) :
    (if test then requestZone (requestZone (s.emit e) a) b else s.emit e) =
      s.emit (e ++ if test then zoneRequests a ++ zoneRequests b else []) := by
  cases test with
  | false => simp
  | true => simp only [if_true, requestZone_eq, emit_emit, List.append_assoc]

theorem dropHead_eq (s : State) (h : HeadAddr) :
    dropHead s h = (s.setSensors ((rezoned s.sensors h none).assessed s.sensors.heads[h].zone)).emit
      ((if (none : Option Zone) = none ∧ s.sensors.heads[h].state = .lost then [.conditionClearReport .sensorLost h.val] else []) ++
        (blindReports (rezoned s.sensors h none) s.sensors.heads[h].zone ++
          if s.sensors.heads[h].state.counts then zoneRequests s.sensors.heads[h].zone ++ zoneRequests none else [])) := by
  unfold dropHead
  dsimp only
  rw [dropHead_line, lost_report, reassess_of, ← List.append_assoc]
  exact requests_if _ _ _ _ none

theorem applyHeadZone_eq (s : State) (h : HeadAddr) :
    applyHeadZone s h = (s.setSensors (lineApplied s.store.cfg s.sensors h)).emit (applySends s.store.cfg s.sensors h) := by
  unfold applyHeadZone lineApplied applySends State.cfg
  by_cases same : s.sensors.heads[h].zone = s.store.cfg.heads[h]
  · rw [if_pos same, if_pos same, if_pos same, emit_nil]
    rfl
  · rw [if_neg same, if_neg same, if_neg same]
    cases zone : s.store.cfg.heads[h] with
    | none => exact dropHead_eq s h
    | some b =>
      have line : s.setHead h { s.sensors.heads[h] with zone := some b } = (s.setSensors (rezoned s.sensors h (some b))).emit [] := by
        rw [emit_nil]
        unfold rezoned headApplied
        rw [if_neg nofun, if_neg nofun]
        rfl
      dsimp only
      have silent : ¬ (some b = none ∧ s.sensors.heads[h].state = .lost) := fun k => nomatch k.1
      rw [line, reassess_of, reassess_of, requests_if, if_neg silent]
      simp only [List.nil_append, List.append_assoc]

/-! ### What one head's change leaves of the line -/

theorem blindAssessed_ne (l : SensorLine) {zone : Option Zone} (other : zone ≠ some z) : (blindAssessed l zone)[z] = l.zoneBlind[z] := by
  cases zone with
  | none => rfl
  | some y => exact Vector.getElem_set_ne y.isLt z.isLt fun k => other (congrArg some (Fin.ext k))

theorem assessed_zoneBlind (l : SensorLine) (zone : Option Zone) (z : Zone) (was : zone ≠ some z → l.zoneBlind[z] = blind l.heads z) :
    (l.assessed zone).zoneBlind[z] = blind l.heads z := by
  by_cases own : zone = some z
  · subst own
    exact blindAssessed_some l z
  · exact (blindAssessed_ne l own).trans (was own)

/-- A head of another zone, before and after, has no part in a zone's blindness (R131). -/
theorem blind_set_other (heads : Vector HeadRecord 32) (h : HeadAddr) (r : HeadRecord) (before : heads[h].zone ≠ some z)
    (after : r.zone ≠ some z) : blind (heads.set h r) z = blind heads z := by
  have heads_ (k : HeadAddr) : (heads.set h r)[k] = if k = h then r else heads[k] := by
    by_cases same : k = h
    · rw [if_pos same, same]
      exact heads_set_self heads h r
    · rw [if_neg same]
      exact Vector.getElem_set_ne h.isLt k.isLt fun eq => same (Fin.ext eq.symm)
  have own : (allHeads.filter fun k => (heads.set h r)[k].zone == some z) = allHeads.filter fun k => heads[k].zone == some z := by
    refine List.filter_congr fun k _ => ?_
    rw [heads_ k]
    split
    · next same => rw [same, beq_eq_false_iff_ne.mpr after, beq_eq_false_iff_ne.mpr before]
    · rfl
  unfold blind
  rw [own]
  dsimp only
  congr 1
  rw [Bool.eq_iff_iff]
  simp only [List.all_eq_true]
  refine forall₂_congr fun k hk => ?_
  have mine : heads[k].zone = some z := by simpa using (List.mem_filter.mp hk).2
  rw [heads_ k, if_neg fun same : k = h => before (same ▸ mine)]

theorem lineApplied_heads (cfg : Cfg) (l : SensorLine) (h k : HeadAddr) :
    (lineApplied cfg l h).heads[k] = if k = h then headInForce l.heads[h] cfg.heads[h] else l.heads[k] := by
  unfold lineApplied headInForce
  by_cases same : l.heads[h].zone = cfg.heads[h]
  · rw [if_pos same, if_pos same]
    split
    · next eq => rw [eq]
    · rfl
  · rw [if_neg same, if_neg same]
    split
    · next eq => rw [eq]; exact heads_set_self _ _ _
    · next ne => exact Vector.getElem_set_ne h.isLt k.isLt fun eq => ne (Fin.ext eq.symm)

theorem lineApplied_due (cfg : Cfg) (l : SensorLine) (h : HeadAddr) : (lineApplied cfg l h).due = l.due := by
  unfold lineApplied
  split <;> rfl

theorem lineApplied_window (cfg : Cfg) (l : SensorLine) (h : HeadAddr) :
    (lineApplied cfg l h).window =
      if l.heads[h].zone ≠ cfg.heads[h] ∧ cfg.heads[h] = none ∧ l.window = some h then none else l.window := by
  unfold lineApplied
  by_cases same : l.heads[h].zone = cfg.heads[h]
  · rw [if_pos same, if_neg fun k => k.1 same]
  · rw [if_neg same]
    by_cases closes : cfg.heads[h] = none ∧ l.window = some h
    · rw [if_pos ⟨same, closes⟩]
      exact if_pos closes
    · rw [if_neg fun k => closes k.2]
      exact if_neg closes

theorem lineApplied_blind (law : ∀ z : Zone, l.zoneBlind[z] = blind l.heads z) (z : Zone) :
    (lineApplied cfg l h).zoneBlind[z] = blind (lineApplied cfg l h).heads z := by
  unfold lineApplied
  split
  · exact law z
  · refine assessed_zoneBlind ((rezoned l h cfg.heads[h]).assessed l.heads[h].zone) cfg.heads[h] z fun joined => ?_
    refine assessed_zoneBlind (rezoned l h cfg.heads[h]) l.heads[h].zone z fun left => ?_
    exact (law z).trans (blind_set_other l.heads h _ left (by rw [headApplied_zone]; exact joined)).symm

/-! ### What one head's change sends -/

theorem headPoll_notMem_blindReports (l : SensorLine) (zone : Option Zone) : .headPoll ∉ blindReports l zone := fun k => by
  obtain ⟨_, _, k | k⟩ := condition_of_mem_blindReports k <;> cases k

theorem evaluationRequest_notMem_blindReports (l : SensorLine) (zone : Option Zone) : .evaluationRequest z ∉ blindReports l zone := fun k => by
  obtain ⟨_, _, k | k⟩ := condition_of_mem_blindReports k <;> cases k

theorem headPoll_notMem_applySends (cfg : Cfg) (l : SensorLine) (h : HeadAddr) : .headPoll ∉ applySends cfg l h := by
  unfold applySends
  split
  · exact List.not_mem_nil
  · simp only [List.mem_append, not_or]
    refine ⟨?_, headPoll_notMem_blindReports _ _, headPoll_notMem_blindReports _ _, ?_⟩
    · split <;> simp
    · split <;> simp [headPoll_notMem_zoneRequests]

/-- A head that counts has the zone it leaves and the one it joins asked to evaluate (R129). -/
def joinsOrLeaves (cfg : Cfg) (l : SensorLine) (z : Zone) (h : HeadAddr) : Prop :=
  l.heads[h].zone ≠ cfg.heads[h] ∧ (l.heads[h].state = .valid ∨ l.heads[h].state = .holding) ∧
    (l.heads[h].zone = some z ∨ cfg.heads[h] = some z)

theorem evaluationRequest_mem_applySends : .evaluationRequest z ∈ applySends cfg l h ↔ joinsOrLeaves cfg l z h := by
  unfold applySends joinsOrLeaves
  by_cases same : l.heads[h].zone = cfg.heads[h]
  · rw [if_pos same]
    exact ⟨fun k => absurd k List.not_mem_nil, fun k => absurd same k.1⟩
  · have silent : .evaluationRequest z ∉ (if cfg.heads[h] = none ∧ l.heads[h].state = .lost then
        [Instr.conditionClearReport .sensorLost h.val] else []) := by split <;> simp
    rw [if_neg same, ← HeadState.counts_iff]
    simp only [List.mem_append, silent, evaluationRequest_notMem_blindReports, false_or, same, ne_eq, not_false_eq_true, true_and]
    cases l.heads[h].state.counts <;> simp [evaluationRequest_mem_zoneRequests]

theorem clear_mem_applySends (lost : l.heads[h].state = .lost) (zone : l.heads[h].zone ≠ none) (empty : cfg.heads[h] = none) :
    .conditionClearReport .sensorLost h.val ∈ applySends cfg l h := by
  unfold applySends
  rw [if_neg fun same => zone (same.trans empty), if_pos ⟨empty, lost⟩]
  exact List.mem_append_left _ List.mem_cons_self

/-! ### Every head takes its configured zone -/

def linesApplied (cfg : Cfg) (l : SensorLine) (hs : List HeadAddr) : SensorLine := hs.foldl (lineApplied cfg) l

def sendsApplied (cfg : Cfg) : SensorLine → List HeadAddr → List Instr
  | _, [] => []
  | l, h :: hs => applySends cfg l h ++ sendsApplied cfg (lineApplied cfg l h) hs

theorem applyHeadZones_eq (s : State) (hs : List HeadAddr) :
    hs.foldl applyHeadZone s =
      (s.setSensors (linesApplied s.store.cfg s.sensors hs)).emit (sendsApplied s.store.cfg s.sensors hs) := by
  induction hs generalizing s with
  | nil => exact (emit_nil (s := s.setSensors s.sensors)).symm
  | cons h hs ih =>
    rw [List.foldl_cons, ih, applyHeadZone_eq]
    exact emit_emit (s.setSensors (linesApplied s.store.cfg s.sensors (h :: hs))) (applySends s.store.cfg s.sensors h) _

theorem linesApplied_heads (cfg : Cfg) (l : SensorLine) (hs : List HeadAddr) (k : HeadAddr) :
    (linesApplied cfg l hs).heads[k] = if k ∈ hs then headInForce l.heads[k] cfg.heads[k] else l.heads[k] := by
  induction hs generalizing l with
  | nil => rfl
  | cons h hs ih =>
    refine (ih (lineApplied cfg l h)).trans ?_
    rw [lineApplied_heads]
    by_cases same : k = h
    · subst same
      have once : headInForce (headInForce l.heads[k] cfg.heads[k]) cfg.heads[k] = headInForce l.heads[k] cfg.heads[k] :=
        if_pos (headInForce_zone _ _)
      rw [if_pos rfl, if_pos List.mem_cons_self, once]
      exact ite_self _
    · rw [if_neg same]
      simp only [List.mem_cons, same, false_or]

theorem linesApplied_blind (law : ∀ z : Zone, l.zoneBlind[z] = blind l.heads z) (hs : List HeadAddr) (z : Zone) :
    (linesApplied cfg l hs).zoneBlind[z] = blind (linesApplied cfg l hs).heads z := by
  induction hs generalizing l with
  | nil => exact law z
  | cons h hs ih => exact ih (lineApplied_blind law)

theorem linesApplied_window_none (closed : l.window = none) (hs : List HeadAddr) : (linesApplied cfg l hs).window = none := by
  induction hs generalizing l with
  | nil => exact closed
  | cons h hs ih => exact ih ((lineApplied_window cfg l h).trans (by rw [closed]; exact ite_self _))

/-- The window of a head whose zone goes to none closes, and another stays open (R127, log entry 27). -/
theorem linesApplied_window_some (open_ : l.window = some k) (zone : l.heads[k].zone.isSome = true) (hs : List HeadAddr) :
    (linesApplied cfg l hs).window = if k ∈ hs ∧ cfg.heads[k] = none then none else some k := by
  induction hs generalizing l with
  | nil => rw [if_neg fun m => absurd m.1 List.not_mem_nil]; exact open_
  | cons h hs ih =>
    have window := lineApplied_window cfg l h
    by_cases same : k = h
    · subst same
      by_cases empty : cfg.heads[k] = none
      · have moves : l.heads[k].zone ≠ cfg.heads[k] := fun eq => by rw [eq, empty] at zone; exact nomatch zone
        rw [if_pos ⟨moves, empty, open_⟩] at window
        rw [if_pos ⟨List.mem_cons_self, empty⟩]
        exact linesApplied_window_none window hs
      · rw [if_neg fun m => empty m.2.1, open_] at window
        have zone' : (lineApplied cfg l k).heads[k].zone.isSome = true := by
          rw [lineApplied_heads, if_pos rfl, headInForce_zone]
          exact Option.isSome_iff_ne_none.mpr empty
        rw [if_neg fun m => empty m.2]
        exact (ih window zone').trans (if_neg fun m => empty m.2)
    · rw [open_, if_neg fun m => same (Option.some.inj m.2.2)] at window
      have zone' : (lineApplied cfg l h).heads[k].zone.isSome = true := by rw [lineApplied_heads, if_neg same]; exact zone
      refine (ih window zone').trans ?_
      simp only [List.mem_cons, same, false_or]

theorem headPoll_notMem_sendsApplied (cfg : Cfg) (l : SensorLine) (hs : List HeadAddr) : .headPoll ∉ sendsApplied cfg l hs := by
  induction hs generalizing l with
  | nil => exact List.not_mem_nil
  | cons h hs ih => exact fun k => (List.mem_append.mp k).elim (headPoll_notMem_applySends cfg l h) (ih _)

theorem evaluationRequest_mem_sendsApplied (once : hs.Nodup) :
    .evaluationRequest z ∈ sendsApplied cfg l hs ↔ ∃ h ∈ hs, joinsOrLeaves cfg l z h := by
  induction hs generalizing l with
  | nil => simp [sendsApplied]
  | cons h hs ih =>
    obtain ⟨new, rest⟩ := List.nodup_cons.mp once
    have later (k : HeadAddr) (hk : k ∈ hs) : joinsOrLeaves cfg (lineApplied cfg l h) z k ↔ joinsOrLeaves cfg l z k := by
      unfold joinsOrLeaves
      rw [lineApplied_heads, if_neg fun same : k = h => new (same ▸ hk)]
    rw [sendsApplied, List.mem_append, evaluationRequest_mem_applySends, ih rest, List.exists_mem_cons_iff]
    exact or_congr_right (exists_congr fun k => and_congr_right fun hk => later k hk)

theorem clear_mem_sendsApplied (once : hs.Nodup) (mem : h ∈ hs) (lost : l.heads[h].state = .lost) (zone : l.heads[h].zone ≠ none)
    (empty : cfg.heads[h] = none) : .conditionClearReport .sensorLost h.val ∈ sendsApplied cfg l hs := by
  induction hs generalizing l with
  | nil => exact absurd mem List.not_mem_nil
  | cons k hs ih =>
    obtain ⟨new, rest⟩ := List.nodup_cons.mp once
    rcases List.mem_cons.mp mem with rfl | mem
    · exact List.mem_append_left _ (clear_mem_applySends lost zone empty)
    · have other : (lineApplied cfg l k).heads[h] = l.heads[h] := by
        rw [lineApplied_heads, if_neg fun same : h = k => new (same ▸ mem)]
      exact List.mem_append_right _ (ih rest mem (by rw [other]; exact lost) (by rw [other]; exact zone))

/-! ### The start of a cycle -/

/-- The line after a cycle's start, in which some heads have taken their zones (R121, R127). -/
def cycleStarted (cfg : Cfg) (l : SensorLine) (hs : List HeadAddr) : SensorLine :=
  { linesApplied cfg l hs with
    due := (List.finRange 32).filter fun h : HeadAddr => cfg.heads[h].isSome, cycleTimer := 5 }

/-- What it sends. -/
def cycleSends (cfg : Cfg) (l : SensorLine) (hs : List HeadAddr) : List Instr :=
  sendsApplied cfg l hs ++ if (cycleStarted cfg l hs).window = none ∧ (cycleStarted cfg l hs).due ≠ [] then [.headPoll] else []

theorem cycleStarted_head (cfg : Cfg) (l : SensorLine) (mem : h ∈ hs) :
    (cycleStarted cfg l hs).heads[h] = headInForce l.heads[h] cfg.heads[h] :=
  (linesApplied_heads cfg l hs h).trans (if_pos mem)

theorem followPoll_eq (s : State) :
    followPoll s = s.emit (if s.sensors.window = none ∧ s.sensors.due ≠ [] then [.headPoll] else []) := by
  unfold followPoll
  cases s.sensors.window <;> cases s.sensors.due <;> simp

theorem configured_eq (s : State) (e : List Instr) (all : ∀ h : HeadAddr, h ∈ hs) :
    configuredHeads ((s.setSensors (linesApplied cfg l hs)).emit e) = (List.finRange 32).filter fun h : HeadAddr => cfg.heads[h].isSome :=
  List.filter_congr fun h _ => by
    have zone : (linesApplied cfg l hs).heads[h].zone = cfg.heads[h] :=
      (congrArg HeadRecord.zone (cycleStarted_head cfg l (all h))).trans (headInForce_zone _ _)
    exact congrArg Option.isSome zone

theorem pollCycleStart_eq (power : s.powered = true) (heads : allHeads = hs) :
    exec .pollCycleStart s =
      .next (lineEvent .pollCycleStart s (cycleStarted s.store.cfg s.sensors hs) (cycleSends s.store.cfg s.sensors hs)) := by
  have all (h : HeadAddr) : h ∈ hs := heads ▸ List.mem_finRange h
  refine (onEvent_of_powered power : execPollCycleStart s = _).trans (congrArg _ ?_)
  dsimp only
  rw [applyHeadZones_eq, heads, configured_eq _ _ all, followPoll_eq]
  exact emit_emit ((s.taken .pollCycleStart).setSensors (cycleStarted s.store.cfg s.sensors hs)) _ _

/-! ### The poll -/

theorem headPoll_opens (power : s.powered = true) (closed : s.sensors.window = none) {rest : List HeadAddr} (due : s.sensors.due = h :: rest) :
    exec .headPoll s = .next (lineEvent .headPoll s { s.sensors with window := some h, due := rest } []) := by
  refine (onEvent_of_powered power : execHeadPoll s = _).trans ?_
  simp only [taken_sensors, closed, due]
  rw [lineEvent, emit_nil]

theorem headPoll_waits (power : s.powered = true) (idle : s.sensors.window ≠ none ∨ s.sensors.due = []) :
    exec .headPoll s = .next (s.taken .headPoll) := by
  refine (onEvent_of_powered power : execHeadPoll s = _).trans ?_
  cases window : s.sensors.window with
  | some h => simp only [taken_sensors, window]
  | none =>
    have due : s.sensors.due = [] := idle.resolve_left fun k => k window
    simp only [taken_sensors, window, due]

/-- Settles O47. -/
theorem pollingCycleAppliesZonesAndPolls : Obligations.PollingCycleAppliesZonesAndPolls := by
  intro s power
  refine ⟨fun law => ?_, ?_⟩
  · obtain ⟨heads, polled, blinds⟩ := law
    obtain ⟨hs, every⟩ : ∃ hs, allHeads = hs := ⟨_, rfl⟩
    have all (h : HeadAddr) : h ∈ hs := every ▸ List.mem_finRange h
    have once : hs.Nodup := every ▸ List.nodup_finRange 32
    refine ⟨_, pollCycleStart_eq power every, lineEvent_onlyChanges _ _ _ _, rfl, fun h => cycleStarted_head _ _ (all h), rfl, fun h open_ => ?_,
      fun closed => linesApplied_window_none closed hs, fun z => ?_, _, lineEvent_sent _ _ _ _, fun h lost empty => ?_, fun z => ?_, ?_⟩
    · refine (linesApplied_window_some open_ (polled h (.inr open_)) hs).trans ?_
      simp only [all h, true_and]
    · rw [← blind_iff_isBlind]
      exact iff_of_eq (congrArg (· = true) (linesApplied_blind blinds hs z))
    · have zone : s.sensors.heads[h].zone ≠ none := fun out => by
        obtain ⟨-, -, -, -, -, -, unused⟩ := heads h
        rw [unused out] at lost
        exact nomatch lost
      exact List.mem_append_left _ (clear_mem_sendsApplied once (all h) lost zone empty)
    · have silent : .evaluationRequest z ∉ (if (cycleStarted s.store.cfg s.sensors hs).window = none ∧
          (cycleStarted s.store.cfg s.sensors hs).due ≠ [] then [Instr.headPoll] else []) := by split <;> simp
      rw [cycleSends, List.mem_append, or_iff_left silent, evaluationRequest_mem_sendsApplied once]
      exact exists_congr fun h => and_iff_right (all h)
    · rw [cycleSends, List.mem_append, or_iff_right (headPoll_notMem_sendsApplied _ _ _)]
      refine ⟨fun mem => ?_, fun next => ?_⟩
      · split at mem
        · assumption
        · exact absurd mem List.not_mem_nil
      · rw [lineEvent_sensors] at next
        rw [if_pos next]
        exact List.mem_cons_self
  · cases window : s.sensors.window with
    | some h =>
      refine ⟨_, headPoll_waits power (.inl (by rw [window]; nofun)), onlyChanges_mono (taken_onlyChanges s _) (by simp),
        (List.append_nil _).symm, nofun, fun _ => rfl⟩
    | none =>
      cases due : s.sensors.due with
      | nil =>
        exact ⟨_, headPoll_waits power (.inr due), onlyChanges_mono (taken_onlyChanges s _) (by simp), (List.append_nil _).symm, nofun,
          fun _ => rfl⟩
      | cons h rest =>
        refine ⟨_, headPoll_opens power window due, lineEvent_onlyChanges _ _ _ _, lineEvent_sent _ _ _ _, fun k more _ eq => ?_, ?_⟩
        · obtain ⟨rfl, rfl⟩ := List.cons.inj eq
          rfl
        · rintro (k | k)
          · exact absurd rfl k
          · exact nomatch k

end Sys2Proof.Machine

/-!
The contact inputs (R132 to R136): their bands, a state entered, and the events that lead there.
-/

namespace Sys2Proof.Machine

open State

variable {s t : State} {i : Instr} {z : Zone} {ohms n : Nat}

/-! ### Bands -/

theorem stateOfBand_bandOf (ohms : Nat) : stateOfBand (bandOf ohms) = contactStateFor ohms := by
  unfold bandOf contactStateFor
  by_cases short : ohms < 400
  · rw [if_pos short, if_neg (by omega), if_neg (by omega)]
    rfl
  by_cases alarm : ohms ≤ 2000
  · rw [if_neg short, if_pos alarm, if_pos (by omega)]
    rfl
  by_cases normal : ohms ≤ 12000
  · rw [if_neg short, if_neg alarm, if_pos normal, if_neg (by omega), if_pos (by omega)]
    rfl
  · rw [if_neg short, if_neg alarm, if_neg normal, if_neg (by omega), if_neg (by omega)]
    rfl

/-- Two readings of one band compare in one way with each of the three limits (R132). -/
theorem bandOf_eq_iff (a b : Nat) : bandOf a = bandOf b ↔ sameBand a b := by
  have cases_ (n : Nat) : n < 400 ∧ bandOf n = .short ∨ (400 ≤ n ∧ n ≤ 2000) ∧ bandOf n = .alarm ∨
      (2000 < n ∧ n ≤ 12000) ∧ bandOf n = .normal ∨ 12000 < n ∧ bandOf n = .opened := by
    unfold bandOf
    split
    · exact .inl ⟨‹_›, rfl⟩
    · split
      · exact .inr (.inl ⟨by omega, rfl⟩)
      · split
        · exact .inr (.inr (.inl ⟨by omega, rfl⟩))
        · exact .inr (.inr (.inr ⟨by omega, rfl⟩))
  unfold sameBand
  rcases cases_ a with ⟨ha, ea⟩ | ⟨ha, ea⟩ | ⟨ha, ea⟩ | ⟨ha, ea⟩ <;>
    rcases cases_ b with ⟨hb, eb⟩ | ⟨hb, eb⟩ | ⟨hb, eb⟩ | ⟨hb, eb⟩ <;> rw [ea, eb] <;>
    simp only [reduceCtorEq, false_iff, true_iff] <;> omega

theorem bandAgrees_iff (state : ContactState) (ohms : Nat) : bandAgrees state (bandOf ohms) = true ↔ contactStateFor ohms = state := by
  unfold bandAgrees
  rw [stateOfBand_bandOf, beq_iff_eq]

/-! ### A state entered -/

/-- What setting a zone's latch sends (R136). -/
def latchSends (f : FireInterface) (z : Zone) : List Instr :=
  if f.latches[z] = true then [] else [.conditionActiveReport .fire z.val, .evaluationRequest z]

theorem setLatch_eq (s : State) (z : Zone) :
    setLatch s z = (s.setFire { s.fire with latches := s.fire.latches.set z true }).emit (latchSends s.fire z) := by
  unfold setLatch latchSends
  cases latch : s.fire.latches[z] with
  | true =>
    have same : s.fire.latches.set z true = s.fire.latches := by rw [← latch]; exact Vector.set_getElem_self _
    rw [if_pos rfl, if_pos rfl, emit_nil, same]
    rfl
  | false => rfl

theorem contactSends_eq (s : State) (z : Zone) (state : ContactState) :
    contactSends s z state =
      (if (s.fire.contacts[z].state == .lineFault) = (state == .lineFault) then []
        else if (state == .lineFault) = true then [.conditionActiveReport .fireInputFault z.val]
        else [.conditionClearReport .fireInputFault z.val]) ++
        if state = .alarm then latchSends s.fire z else [] := by
  unfold contactSends latchSends
  congr 1
  · cases s.fire.contacts[z].state <;> cases state <;> rfl
  · cases s.fire.latches[z] <;> cases state <;> rfl

/-- A contact that comes to a state reports its fault and sets its latch (R133 to R136). -/
theorem enterContact_eq (s : State) (z : Zone) (state : ContactState) :
    enterContact s z state = (s.setFire (contactTaken s.fire z state)).emit (contactSends s z state) := by
  rw [contactSends_eq]
  unfold enterContact contactTaken
  dsimp only
  rw [reportChange_eq]
  by_cases alarm : state = .alarm
  · rw [if_pos alarm, if_pos alarm, if_pos alarm, setLatch_eq, ← emit_emit]
    rfl
  · rw [if_neg alarm, if_neg alarm, if_neg alarm, List.append_nil]
    rfl

/-! ### The events of a contact -/

theorem bandChanged_disabled (off : s.fire.contacts[z].state = .disabled) : bandChanged s z = s := by
  unfold bandChanged contact
  dsimp only
  rw [off]

theorem bandChanged_eq (on : s.fire.contacts[z].state ≠ .disabled) :
    bandChanged s z = s.setFire { s.fire with
      contacts := s.fire.contacts.set z
        { state := s.fire.contacts[z].state
          confirm := if contactStateFor s.pins.loopOhms[z] = s.fire.contacts[z].state then none else some 1 } } := by
  have agrees : (if bandAgrees s.fire.contacts[z].state (contactBand s z) then none else some Config.confirmSeconds) =
      if contactStateFor s.pins.loopOhms[z] = s.fire.contacts[z].state then none else some 1 :=
    if_congr (bandAgrees_iff _ _) rfl rfl
  unfold bandChanged contact
  rw [← agrees]
  cases state : s.fire.contacts[z].state with
  | disabled => exact absurd state on
  | normal | alarm | lineFault =>
    rw [← state]
    dsimp only
    rw [state]
    rfl

theorem contactBandChange_same (power : s.powered = true) (idle : sameBand ohms s.pins.loopOhms[z] ∨ s.fire.contacts[z].state = .disabled) :
    exec (.contactBandChange z ohms) s = .next (setLoop (s.taken (.contactBandChange z ohms)) z ohms) := by
  refine congrArg Host.Outcome.next ?_
  dsimp only
  have read : contactBand (setLoop (s.taken (.contactBandChange z ohms)) z ohms) z = bandOf ohms := congrArg bandOf (Vector.getElem_set_self _)
  rw [power, Bool.true_and, read]
  rcases idle with same | off
  · rw [if_neg]
    rw [bne_iff_ne, not_not]
    exact ((bandOf_eq_iff _ _).mpr same).symm
  · rw [bandChanged_disabled (s := setLoop (s.taken (.contactBandChange z ohms)) z ohms) off, ite_self]

theorem contactBandChange_other (power : s.powered = true) (other : ¬ sameBand ohms s.pins.loopOhms[z])
    (on : s.fire.contacts[z].state ≠ .disabled) :
    exec (.contactBandChange z ohms) s = .next ((setLoop (s.taken (.contactBandChange z ohms)) z ohms).setFire
      { s.fire with
        contacts := s.fire.contacts.set z
          { state := s.fire.contacts[z].state
            confirm := if contactStateFor ohms = s.fire.contacts[z].state then none else some 1 } }) := by
  refine congrArg Host.Outcome.next ?_
  dsimp only
  have read : contactBand (setLoop (s.taken (.contactBandChange z ohms)) z ohms) z = bandOf ohms := congrArg bandOf (Vector.getElem_set_self _)
  rw [power, Bool.true_and, read, if_pos]
  · rw [bandChanged_eq (s := setLoop (s.taken (.contactBandChange z ohms)) z ohms) on]
    have ohms_ : (setLoop (s.taken (.contactBandChange z ohms)) z ohms).pins.loopOhms[z] = ohms := Vector.getElem_set_self _
    rw [ohms_]
    rfl
  · rw [bne_iff_ne]
    exact fun same => other ((bandOf_eq_iff _ _).mp same.symm)

theorem contactConfirmationExpiry_eq (power : s.powered = true) (runs : s.fire.contacts[z].confirm = some n) :
    exec (.contactConfirmationExpiry z) s =
      .next (((s.taken (.contactConfirmationExpiry z)).setFire (contactTaken s.fire z (contactStateFor s.pins.loopOhms[z]))).emit
        (contactSends s z (contactStateFor s.pins.loopOhms[z]))) := by
  refine (onEvent_of_powered power : execContactConfirmationExpiry z s = _).trans (congrArg _ ?_)
  have running : (contact (s.taken (.contactConfirmationExpiry z)) z).confirm.isSome = true := congrArg Option.isSome runs
  rw [if_pos running, enterContact_eq, contactBand, stateOfBand_bandOf]
  rfl

theorem enableContact_off (on : s.fire.contacts[z].state ≠ .disabled) : enableContact s z false = enterContact s z .disabled := by
  unfold enableContact contact
  cases state : s.fire.contacts[z].state with
  | disabled => exact absurd state on
  | _ => rfl

theorem enableContact_on (off : s.fire.contacts[z].state = .disabled) :
    enableContact s z true = enterContact s z (contactStateFor s.pins.loopOhms[z]) := by
  unfold enableContact contact
  rw [off, ← stateOfBand_bandOf]
  rfl

/-- A write of contact enabled that passes enters a state, and is answered. -/
theorem contactEnabledWrite_eq (r : ready s) {value : Nat} (bit : value ≤ 1) (state : ContactState)
    (enters : ∀ u : State, u.fire = s.fire → u.pins = s.pins → enableContact u z (value == 1) = enterContact u z state) :
    ∃ t, exec (.contactEnabledWrite z.val value) s = .next t ∧ t.fire = contactTaken s.fire z state ∧
      t.store.cfg.zones[z].contactEnabled = (value == 1) ∧
      sent (.contactEnabledWrite z.val value) s t (contactSends s z state ++ [.responseSent]) := by
  have named : itemOf 38 z.val = some (.contactEnabled z) := by
    show (zoneOf z.val).map CfgItem.contactEnabled = _
    rw [show zoneOf z.val = some z from dif_pos z.isLt]
    rfl
  have clamped : clampValue s.cfg (.contactEnabled z) value = value :=
    clampTo_self (Nat.le_trans bit (by show 1 ≤ 65535; omega))
  have taken : takeWrite (s.taken (.contactEnabledWrite z.val value)) (.contactEnabled z) value =
      (((s.taken (.contactEnabledWrite z.val value)).setCfg (putValue s.cfg (.contactEnabled z) value)).setFire
        (contactTaken s.fire z state)).emit (contactSends s z state) := by
    show enableContact ((s.taken (.contactEnabledWrite z.val value)).setCfg (putValue s.cfg _ (clampValue s.cfg (.contactEnabled z) value))) z
      (clampValue s.cfg (.contactEnabled z) value == 1) = _
    rw [clamped]
    exact (enters ((s.taken _).setCfg _) rfl rfl).trans (enterContact_eq _ z state)
  refine ⟨_, write_taken r rfl named (decide_eq_false (by omega)) rfl, ?_, ?_, ?_⟩
  · unfold writeAnswered
    rw [taken]
    rfl
  · unfold writeAnswered
    rw [taken]
    exact congrArg ZoneCfg.contactEnabled (Cfg.setZone_zones_self _ _ _)
  · unfold writeAnswered
    rw [taken]
    exact List.append_assoc _ _ _

/-- Settles O49. -/
theorem contactInputsAreConfirmed : Obligations.ContactInputsAreConfirmed := by
  intro s z power
  refine ⟨fun ohms => ?_, fun n runs => ?_, fun r on => ?_, fun r off => ?_⟩
  · have loop : onlyChanges [.fire, .pins, .inFlight] s (setLoop (s.taken (.contactBandChange z ohms)) z ohms) :=
      onlyChanges_trans (onlyChanges_mono (taken_onlyChanges s _) (by simp)) (onlyChanges_mono (setPins_onlyChanges _ _) (by simp))
    by_cases idle : sameBand ohms s.pins.loopOhms[z] ∨ s.fire.contacts[z].state = .disabled
    · exact ⟨_, contactBandChange_same power idle, loop, (List.append_nil _).symm, rfl, fun _ => rfl, fun other on =>
        absurd idle fun k => k.elim other on⟩
    · obtain ⟨other, on⟩ := not_or.mp idle
      exact ⟨_, contactBandChange_other power other on, onlyChanges_trans loop (onlyChanges_mono (setFire_onlyChanges _ _) (by simp)),
        (List.append_nil _).symm, rfl, fun k => absurd k idle, fun _ _ => rfl⟩
  · exact ⟨_, contactConfirmationExpiry_eq power runs, onlyChanges_trans (onlyChanges_mono (taken_onlyChanges s _) (by simp))
      (onlyChanges_trans (onlyChanges_mono (setFire_onlyChanges _ _) (by simp)) (onlyChanges_mono (emit_onlyChanges _ _) (by simp))), rfl, rfl⟩
  · exact contactEnabledWrite_eq r (by omega) .disabled fun u fire _ => enableContact_off (by rw [fire]; exact on)
  · exact contactEnabledWrite_eq r (by omega) _ fun u fire pins => (enableContact_on (by rw [fire]; exact off)).trans (by rw [pins])

end Sys2Proof.Machine

/-!
The panel link (R139 to R143): what a capability word leaves of the link in each of its states, and its timers.
-/

namespace Sys2Proof.Machine

open State

variable {s t : State} {i : Instr} {f : FireInterface} {w v : CapabilityWord} {run : HeardRun}

/-! ### Words -/

theorem capabilityValid_iff : capabilityValid w = true ↔ validWord w := by
  simp only [capabilityValid, validWord, Bool.and_eq_true, decide_eq_true_eq, and_assoc]

theorem sameCapability_iff : sameCapability v w = true ↔ agrees v w := by
  simp only [sameCapability, agrees, Bool.and_eq_true, beq_iff_eq, CapabilityWord.mk.injEq, and_true, and_assoc]

theorem equalsHeard_iff (heard : f.heard = some run) : equalsHeard f w = true ↔ agrees run.word w := by
  unfold equalsHeard
  rw [heard]
  exact sameCapability_iff

/-! ### A capability word -/

/-- The link in LINKED (R142, R143). -/
def linkedUp (f : FireInterface) : FireInterface :=
  { f with
    link := .linked, capability := f.heard.map (·.word), stateTimer := none, supervision := some 35, lostCondition := false }

/-- The fire interface after a capability word (R139 to R142). -/
def wordTaken (f : FireInterface) (w : CapabilityWord) : FireInterface :=
  match f.link with
  | .hearing => if !capabilityValid w then { f with heard := none, hearingTimer := none } else if w.accept then f else hearWord f w
  | .agreeing =>
    if !capabilityValid w then backedOff f
    else if !w.accept then f
    else if equalsHeard f w then { f with link := .checking, stateTimer := some 2 }
    else backedOff f
  | .checking => if capabilityValid w && equalsHeard f w then linkedUp f else backedOff f
  | .linkDown | .linked | .backoff => f

/-- A link that comes up clears FIRE-LINK-LOST (R143). -/
def wordSends (f : FireInterface) (w : CapabilityWord) : List Instr :=
  if (f.link == .checking && (capabilityValid w && equalsHeard f w) && f.lostCondition) = true then [.conditionClearReport .fireLinkLost 0]
  else []

theorem enterLinked_eq (s : State) :
    enterLinked s = (s.setFire (linkedUp s.fire)).emit (if s.fire.lostCondition then [.conditionClearReport .fireLinkLost 0] else []) := by
  unfold enterLinked
  dsimp only
  rw [reportChange_eq]
  cases s.fire.lostCondition <;> rfl

theorem wordSends_idle (link : f.link ≠ .checking) : wordSends f w = [] := by
  unfold wordSends
  rw [beq_eq_false_iff_ne.mpr link]
  rfl

theorem wordSends_checking (link : f.link = .checking) :
    wordSends f w = if (capabilityValid w && equalsHeard f w && f.lostCondition) = true then [.conditionClearReport .fireLinkLost 0] else [] := by
  unfold wordSends
  rw [link]
  rfl

theorem takeCapability_eq (s : State) (w : CapabilityWord) :
    takeCapability s w = (s.setFire (wordTaken s.fire w)).emit (wordSends s.fire w) := by
  by_cases checking : s.fire.link = .checking
  · rw [wordSends_checking checking]
    unfold takeCapability wordTaken
    dsimp only
    rw [checking]
    dsimp only
    cases up : capabilityValid w && equalsHeard s.fire w with
    | true => exact (if_pos rfl).trans (enterLinked_eq s)
    | false => exact (emit_nil (s := s.setFire (enterBackoff s.fire))).symm
  · rw [wordSends_idle checking, emit_nil]
    unfold takeCapability wordTaken
    dsimp only
    cases link : s.fire.link with
    | checking => exact absurd link checking
    | linkDown | linked | backoff => rfl
    | hearing => cases capabilityValid w <;> cases w.accept <;> rfl
    | agreeing => cases capabilityValid w <;> cases w.accept <;> cases equalsHeard s.fire w <;> rfl

theorem capabilityWord_eq (power : s.powered = true) (w : CapabilityWord) :
    exec (.capabilityWord w) s =
      .next (((s.taken (.capabilityWord w)).setFire (wordTaken s.fire w)).emit (wordSends s.fire w)) :=
  (onEvent_of_powered power : execCapabilityWord w s = _).trans (congrArg _ (takeCapability_eq (s.taken (.capabilityWord w)) w))

theorem wordTaken_invalid (bad : ¬ validWord w) :
    (f.link = .hearing → wordTaken f w = { f with heard := none, hearingTimer := none }) ∧
      (f.link = .agreeing ∨ f.link = .checking → wordTaken f w = backedOff f) := by
  have invalid : capabilityValid w = false := Bool.eq_false_iff.mpr fun k => bad (capabilityValid_iff.mp k)
  unfold wordTaken
  rw [invalid]
  exact ⟨fun link => by rw [link]; rfl, fun link => by obtain link | link := link <;> rw [link] <;> rfl⟩

theorem wordTaken_accept (good : validWord w) (accept : w.accept = true) :
    (f.link = .hearing → wordTaken f w = f) ∧
      (f.link = .agreeing → f.heard = some run →
        (agrees run.word w → wordTaken f w = { f with link := .checking, stateTimer := some 2 }) ∧
          (¬ agrees run.word w → wordTaken f w = backedOff f)) := by
  unfold wordTaken
  rw [capabilityValid_iff.mpr good, accept]
  refine ⟨fun link => by rw [link]; rfl, fun link heard => ⟨fun same => ?_, fun other => ?_⟩⟩
  · rw [link, (equalsHeard_iff heard).mpr same]
    rfl
  · rw [link, Bool.eq_false_iff.mpr fun k => other ((equalsHeard_iff heard).mp k)]
    rfl

theorem wordTaken_plain (good : validWord w) (plain : w.accept = false) :
    (f.link = .hearing → wordTaken f w = hearWord f w) ∧ (f.link = .agreeing → wordTaken f w = f) := by
  unfold wordTaken
  rw [capabilityValid_iff.mpr good, plain]
  exact ⟨fun link => by rw [link]; rfl, fun link => by rw [link]; rfl⟩

theorem wordTaken_checking (link : f.link = .checking) (heard : f.heard = some run) (good : validWord w) :
    (agrees run.word w → wordTaken f w = linkedUp f ∧ wordSends f w = if f.lostCondition then [.conditionClearReport .fireLinkLost 0] else []) ∧
      (¬ agrees run.word w → wordTaken f w = backedOff f) := by
  rw [wordSends_checking link]
  unfold wordTaken
  rw [link, capabilityValid_iff.mpr good]
  refine ⟨fun same => ?_, fun other => ?_⟩
  · rw [(equalsHeard_iff heard).mpr same]
    exact ⟨rfl, rfl⟩
  · rw [Bool.eq_false_iff.mpr fun k => other ((equalsHeard_iff heard).mp k)]
    rfl

theorem hearWord_first (heard : f.heard = none) :
    hearWord f w = { f with heard := some { word := w, count := 1 }, hearingTimer := some 10 } := by
  unfold hearWord
  rw [heard]
  rfl

/-- A heard run is begun anew, lengthened, or complete with its third word (R140). -/
theorem hearWord_run (heard : f.heard = some run) :
    (¬ agrees run.word w → hearWord f w = { f with heard := some { word := w, count := 1 }, hearingTimer := some 10 }) ∧
      (agrees run.word w → run.count < 2 → hearWord f w = { f with heard := some { run with count := run.count + 1 } }) ∧
      (agrees run.word w → 2 ≤ run.count → hearWord f w = enterAgreeing f { run with count := 3 }) := by
  unfold hearWord
  rw [heard]
  dsimp only
  refine ⟨fun other => ?_, fun same short => ?_, fun same long => ?_⟩
  · rw [if_neg fun k => other (sameCapability_iff.mp k)]
    rfl
  · rw [if_pos (sameCapability_iff.mpr same), if_neg (by omega)]
  · rw [if_pos (sameCapability_iff.mpr same), if_pos (by omega)]

/-! ### Timers -/

/-- The fire interface after the state timer ran out (R141). -/
def stateTimedOut (f : FireInterface) : FireInterface :=
  match f.link with
  | .agreeing | .checking => backedOff f
  | .backoff => enterHearing f
  | _ => f

theorem stateTimerExpiry_eq (power : s.powered = true) :
    exec .stateTimerExpiry s = .next ((s.taken .stateTimerExpiry).setFire (stateTimedOut s.fire)) := by
  refine (onEvent_of_powered power : execStateTimerExpiry s = _).trans (congrArg _ ?_)
  unfold stateTimedOut
  show (match s.fire.link with | .agreeing | .checking => _ | .backoff => _ | _ => _) = _
  cases s.fire.link <;> rfl

theorem hearingTimerExpiry_eq (power : s.powered = true) {n : Nat} (runs : s.fire.hearingTimer = some n) :
    exec .hearingTimerExpiry s = .next ((s.taken .hearingTimerExpiry).setFire { s.fire with heard := none, hearingTimer := none }) :=
  (onEvent_of_powered power : execHearingTimerExpiry s = _).trans (congrArg _ (if_pos (congrArg Option.isSome runs)))

/-- The link lost (R142, R143). -/
def linkLostFrom (f : FireInterface) : FireInterface :=
  { f with
    link := .hearing, heard := none, hearingTimer := none, stateTimer := none, supervision := none, linkLost := true
    lostCondition := true }

theorem supervisionTimerExpiry_eq (power : s.powered = true) (link : s.fire.link = .linked) :
    exec .supervisionTimerExpiry s =
      .next (((s.taken .supervisionTimerExpiry).setFire (linkLostFrom s.fire)).emit
        (if s.fire.lostCondition then [] else [.conditionActiveReport .fireLinkLost 0])) := by
  refine (onEvent_of_powered power : execSupervisionTimerExpiry s = _).trans (congrArg _ ?_)
  refine (if_pos link).trans ?_
  rw [reportChange_eq]
  show State.emit _ (if s.fire.lostCondition = true then [] else _) = _
  cases s.fire.lostCondition <;> rfl

/-- Settles O50. -/
theorem panelLinkIsBroughtUp : Obligations.PanelLinkIsBroughtUp := by
  intro s power
  have frame {i : Instr} {f : FireInterface} {l : List Instr} : onlyChanges [.fire, .inFlight] s (((s.taken i).setFire f).emit l) :=
    onlyChanges_trans (onlyChanges_mono (taken_onlyChanges s i) (by simp))
      (onlyChanges_trans (onlyChanges_mono (setFire_onlyChanges _ _) (by simp)) (onlyChanges_mono (emit_onlyChanges _ _) (by simp)))
  have quiet {i : Instr} {f : FireInterface} : onlyChanges [.fire, .inFlight] s ((s.taken i).setFire f) :=
    emit_nil (s := (s.taken i).setFire f) ▸ frame
  refine ⟨fun w => ⟨_, capabilityWord_eq power w, frame, fun hearing => ⟨fun bad => (wordTaken_invalid bad).1 hearing,
      fun good accept => (wordTaken_accept (run := { word := w, count := 0 }) good accept).1 hearing, fun good plain => ?_⟩,
      fun run heard => ⟨fun agreeing => ⟨?_, fun good plain => (wordTaken_plain good plain).2 agreeing,
        fun good accept => ((wordTaken_accept good accept).2 agreeing heard).1⟩, fun checking => ⟨?_, fun good same => ?_⟩⟩, ?_⟩,
    ⟨_, (onEvent_of_powered power : execPanelFrameDiscarded s = _), taken_onlyChanges s _⟩,
    fun n runs => ⟨_, hearingTimerExpiry_eq power runs, quiet, rfl⟩,
    ⟨_, stateTimerExpiry_eq power, quiet, ?_, fun backoff => ?_⟩,
    fun link => ⟨_, supervisionTimerExpiry_eq power link, frame, rfl, rfl⟩⟩
  · have taken := (wordTaken_plain good plain).1 hearing
    refine ⟨fun none => taken.trans (hearWord_first none), fun run heard => ?_⟩
    obtain ⟨anew, longer, complete⟩ := hearWord_run (w := w) heard
    refine ⟨fun other => taken.trans (anew other), fun same short => taken.trans (longer same short), fun same long => ?_⟩
    have form := taken.trans (complete same long)
    exact ⟨congrArg FireInterface.link form, congrArg FireInterface.hearingTimer form, congrArg FireInterface.stateTimer form,
      congrArg FireInterface.sentWord form⟩
  · rintro (bad | ⟨accept, other⟩)
    · exact (wordTaken_invalid bad).2 (.inl agreeing)
    · by_cases good : validWord w
      · exact ((wordTaken_accept good accept).2 agreeing heard).2 other
      · exact (wordTaken_invalid good).2 (.inl agreeing)
  · rintro (bad | other)
    · exact (wordTaken_invalid bad).2 (.inr checking)
    · by_cases good : validWord w
      · exact (wordTaken_checking checking heard good).2 other
      · exact (wordTaken_invalid good).2 (.inr checking)
  · obtain ⟨up, sends⟩ := (wordTaken_checking checking heard good).1 same
    have word : s.fire.heard.map (·.word) = some run.word := congrArg (Option.map HeardRun.word) heard
    refine ⟨up.trans (by rw [linkedUp, word]), ?_⟩
    rw [← sends]
    rfl
  · rintro (link | link) <;> exact (show wordTaken s.fire w = s.fire by unfold wordTaken; rw [link])
  · rintro (link | link) <;> exact (show stateTimedOut s.fire = backedOff s.fire by unfold stateTimedOut; rw [link])
  · exact (show stateTimedOut s.fire = enterHearing s.fire by unfold stateTimedOut; rw [backoff])

end Sys2Proof.Machine

/-!
The words of a working panel link (R144 to R146), the resets of the fire latches (R137, R138), and READ-LINK (R143, R170).
-/

namespace Sys2Proof.Machine

open State

variable {s t : State} {i : Instr} {f : FireInterface} {z : Zone} {zs : List Zone}

/-! ### Latches set one after another -/

def latchesSet (latches : Vector Bool 8) (zs : List Zone) : Vector Bool 8 := zs.foldl (fun l (z : Zone) => l.set z true) latches

theorem set_latch (latches : Vector Bool 8) (z y : Zone) : (latches.set z true)[y] = if y = z then true else latches[y] := by
  by_cases same : y = z
  · subst same
    rw [if_pos rfl]
    exact Vector.getElem_set_self _
  · rw [if_neg same]
    exact Vector.getElem_set_ne z.isLt y.isLt fun k => same (Fin.ext k.symm)

theorem latchesSet_iff (latches : Vector Bool 8) (zs : List Zone) (z : Zone) :
    (latchesSet latches zs)[z] = true ↔ latches[z] = true ∨ z ∈ zs := by
  induction zs generalizing latches with
  | nil => simp [latchesSet]
  | cons y zs ih =>
    refine (ih (latches.set y true)).trans ?_
    rw [set_latch, List.mem_cons]
    by_cases same : z = y <;> simp [same]

theorem setLatches_eq (s : State) (once : zs.Nodup) :
    zs.foldl setLatch s = (s.setFire { s.fire with latches := latchesSet s.fire.latches zs }).emit (zs.flatMap (latchSends s.fire)) := by
  induction zs generalizing s with
  | nil => exact (emit_nil (s := s.setFire s.fire)).symm
  | cons y zs ih =>
    obtain ⟨new, rest⟩ := List.nodup_cons.mp once
    have later : zs.flatMap (latchSends { s.fire with latches := s.fire.latches.set y true }) = zs.flatMap (latchSends s.fire) :=
      List.flatMap_congr fun z hz => by
        unfold latchSends
        dsimp only
        rw [set_latch, if_neg fun same : z = y => new (same ▸ hz)]
    rw [List.foldl_cons, ih _ rest, setLatch_eq, List.flatMap_cons, ← later]
    exact emit_emit (s.setFire { s.fire with latches := latchesSet s.fire.latches (y :: zs) }) _ _

theorem mem_latchesSends {j : Instr} :
    j ∈ zs.flatMap (latchSends f) ↔
      ∃ z ∈ zs, f.latches[z] = false ∧ (j = .conditionActiveReport .fire z.val ∨ j = .evaluationRequest z) := by
  rw [List.mem_flatMap]
  refine exists_congr fun z => and_congr_right fun _ => ?_
  unfold latchSends
  cases f.latches[z] <;> simp

/-- A status frame asks each zone whose latch it sets to evaluate, and reports its FIRE (R136, R144). -/
theorem latchesSends_spec (f : FireInterface) (zs : List Zone) (z : Zone) :
    (.evaluationRequest z ∈ zs.flatMap (latchSends f) ↔ z ∈ zs ∧ f.latches[z] = false) ∧
      (.conditionActiveReport .fire z.val ∈ zs.flatMap (latchSends f) ↔ z ∈ zs ∧ f.latches[z] = false) := by
  simp only [mem_latchesSends]
  refine ⟨⟨?_, fun k => ⟨z, k.1, k.2, .inr rfl⟩⟩, ⟨?_, fun k => ⟨z, k.1, k.2, .inl rfl⟩⟩⟩
  · rintro ⟨y, hy, clear, k | k⟩
    · exact nomatch k
    · obtain rfl := Instr.evaluationRequest.inj k
      exact ⟨hy, clear⟩
  · rintro ⟨y, hy, clear, k | k⟩
    · obtain rfl := Fin.ext (Instr.conditionActiveReport.inj k).2
      exact ⟨hy, clear⟩
    · exact nomatch k

theorem mem_alarmZones {flags : BitVec 8} {w : CapabilityWord} (panel : f.capability = some w) :
    z ∈ alarmZones f flags ↔ flags.getLsbD z.val = true ∧ z.val < w.zoneCount := by
  unfold alarmZones
  rw [panel]
  simp [allZones]

theorem statusFrame_linked (power : s.powered = true) (flags : BitVec 8) (link : s.fire.link = .linked) :
    exec (.statusFrame flags) s =
      .next (((s.taken (.statusFrame flags)).setFire { s.fire with
        supervision := some 35, latches := latchesSet s.fire.latches (alarmZones s.fire flags) }).emit
          ((alarmZones s.fire flags).flatMap (latchSends s.fire))) := by
  refine (onEvent_of_powered power : execStatusFrame flags s = _).trans (congrArg _ ?_)
  refine (if_pos link).trans ?_
  exact setLatches_eq ((s.taken (.statusFrame flags)).setFire { s.fire with supervision := some 35 })
    ((List.nodup_finRange 8).filter _)

theorem statusFrame_discarded (power : s.powered = true) (flags : BitVec 8) (link : s.fire.link ≠ .linked) :
    exec (.statusFrame flags) s = .next (s.taken (.statusFrame flags)) :=
  (onEvent_of_powered power : execStatusFrame flags s = _).trans (congrArg _ (if_neg link))

/-! ### Commands and resets -/

theorem panelOffers_iff (feature : CapabilityWord → Bool) : panelOffers s.fire feature = true ↔ panelDeclares s feature := by
  unfold panelOffers panelDeclares
  cases s.fire.capability <;> simp

theorem serviceOffered_iff (z : Zone) :
    (panelOffers s.fire (·.fireService) && decide (z.val < (s.fire.capability.map (·.zoneCount)).getD 0)) = true ↔
      panelDeclares s fun w => w.fireService && decide (z.val < w.zoneCount) := by
  unfold panelOffers panelDeclares
  cases s.fire.capability <;> simp [and_assoc]

/-- A taken command is stored; the zone is asked to evaluate where it changed (R145). -/
theorem fireServiceCommand_taken (power : s.powered = true) (z : Zone) (word : FireServiceWord)
    (offered : panelDeclares s fun w => w.fireService && decide (z.val < w.zoneCount)) :
    exec (.fireServiceCommand z.val word) s =
      .next (((s.taken (.fireServiceCommand z.val word)).setFire
        { s.fire with commands := s.fire.commands.set z (commandAfter word) }).emit
          (if s.fire.commands[z] = commandAfter word then [] else [.evaluationRequest z])) := by
  have named : zoneOf z.val = some z := dif_pos z.isLt
  refine (onEvent_of_powered power : execFireServiceCommand z.val word s = _).trans (congrArg _ ?_)
  dsimp only
  rw [named]
  dsimp only
  have test : (panelOffers (s.taken (.fireServiceCommand z.val word)).fire (·.fireService) &&
      decide (z.val < ((s.taken (.fireServiceCommand z.val word)).fire.capability.map (·.zoneCount)).getD 0)) = true :=
    (serviceOffered_iff z).mpr offered
  rw [test, Bool.true_and]
  by_cases same : s.fire.commands[z] = commandAfter word
  · have stored : s.fire.commands.set z (commandAfter word) = s.fire.commands := by rw [← same]; exact Vector.set_getElem_self _
    rw [if_neg (by rw [bne_iff_ne]; exact fun k => k same), if_pos same, emit_nil, stored]
    rfl
  · rw [if_neg same]
    exact if_pos (bne_iff_ne.mpr same)

theorem fireServiceCommand_discarded (power : s.powered = true) (z : Zone) (word : FireServiceWord)
    (offered : ¬ panelDeclares s fun w => w.fireService && decide (z.val < w.zoneCount)) :
    exec (.fireServiceCommand z.val word) s = .next (s.taken (.fireServiceCommand z.val word)) := by
  have named : zoneOf z.val = some z := dif_pos z.isLt
  refine (onEvent_of_powered power : execFireServiceCommand z.val word s = _).trans (congrArg _ ?_)
  dsimp only
  rw [named]
  dsimp only
  have test : (panelOffers (s.taken (.fireServiceCommand z.val word)).fire (·.fireService) &&
      decide (z.val < ((s.taken (.fireServiceCommand z.val word)).fire.capability.map (·.zoneCount)).getD 0)) = false :=
    Bool.eq_false_iff.mpr fun k => offered ((serviceOffered_iff z).mp k)
  rw [test]
  rfl

theorem latchAfterReset_eq (s : State) (z : Zone) :
    latchAfterReset s z = (s.fire.latches[z] && decide (s.fire.contacts[z].state = .alarm)) := by
  unfold latchAfterReset contact
  cases s.fire.contacts[z].state <;> rfl

theorem resetActions_eq (s : State) (z : Zone) : resetActions s z = resetSends s.fire z := by
  unfold resetActions resetSends
  rw [latchAfterReset_eq]
  cases s.fire.latches[z] <;> cases s.fire.contacts[z].state <;> cases s.fire.commands[z] <;> rfl

theorem resetFire_eq (s : State) : resetFire s = (s.setFire (resetOf s.fire)).emit ((List.finRange 8).flatMap (resetSends s.fire)) := by
  unfold resetFire resetOf
  simp only [latchAfterReset_eq]
  exact congrArg (State.emit _) (List.flatMap_congr fun z _ => resetActions_eq s z)

/-! ### READ-LINK -/

/-- The window of one part of a list of parts of one width. -/
theorem window_flatMap {α β : Type} {g : α → List β} {w : Nat} (width : ∀ a, (g a).length = w) (l : List α) {k : Nat} (h : k < l.length) :
    ((l.flatMap g).drop (w * k)).take w = g l[k] := by
  induction l generalizing k with
  | nil => exact absurd h (Nat.not_lt_zero _)
  | cons a l ih =>
    rw [List.flatMap_cons]
    cases k with
    | zero =>
      rw [Nat.mul_zero, List.drop_zero]
      exact List.take_left' (width a)
    | succ k =>
      have skip : w * (k + 1) = (g a).length + w * k := by rw [width, Nat.mul_succ, Nat.add_comm]
      rw [skip, List.drop_length_add_append]
      exact ih (Nat.lt_of_succ_lt_succ h)

theorem length_flatMap_width {α β : Type} {g : α → List β} {w : Nat} (width : ∀ a, (g a).length = w) (l : List α) :
    (l.flatMap g).length = w * l.length := by
  induction l with
  | nil => rfl
  | cons a l ih => rw [List.flatMap_cons, List.length_append, width, ih, List.length_cons, Nat.mul_succ, Nat.add_comm]

/-- A zone's part of the link summary (R170). -/
def linkZone (f : FireInterface) (z : Zone) : List Byte :=
  bytesOf 1 f.contacts[z].state.code ++ flag f.latches[z] ++ field 1 (f.commands[z].map (·.code))

theorem length_linkZone (f : FireInterface) (z : Zone) : (linkZone f z).length = 3 := by simp [linkZone]

/-- The part of the link summary about the panel and the link (R170). -/
def linkHead (f : FireInterface) : List Byte :=
  bytesOf 1 f.link.code ++ flag f.capability.isSome ++
    (field 1 (f.capability.map (·.panelId)) ++ field 1 (f.capability.map (·.zoneCount)) ++
      field 1 (f.capability.map fun w => boolCode w.fireService) ++ field 1 (f.capability.map fun w => boolCode w.resetWord))

theorem length_linkHead (f : FireInterface) : (linkHead f).length = 6 := by simp [linkHead]

theorem linkSummary_eq (f : FireInterface) : linkSummary f = linkHead f ++ (flag f.linkLost ++ allZones.flatMap (linkZone f)) := by
  simp only [linkSummary, linkHead, List.append_assoc]
  rfl

theorem linkSummary_spec (f : FireInterface) :
    (linkSummary f).length = 31 ∧ (linkSummary f).take 2 = bytesOf 1 f.link.code ++ flag f.capability.isSome ∧
      (linkSummary f)[6]? = some (if f.linkLost then 1#8 else 0#8) ∧
      ∀ z : Zone, ((linkSummary f).drop (7 + 3 * z.val)).take 3 = linkZone f z := by
  rw [linkSummary_eq]
  refine ⟨?_, ?_, ?_, fun z => ?_⟩
  · rw [List.length_append, List.length_append, length_linkHead, length_flatMap_width (length_linkZone f), length_flag]
    rfl
  · rw [linkHead, List.append_assoc (bytesOf 1 f.link.code ++ flag f.capability.isSome)]
    exact List.take_left' (by simp)
  · rw [List.getElem?_append_right (by rw [length_linkHead]), length_linkHead]
    cases f.linkLost <;> rfl
  · have skip : 7 + 3 * z.val = (linkHead f ++ flag f.linkLost).length + 3 * z.val := by simp [length_linkHead]
    rw [← List.append_assoc, skip, List.drop_length_add_append]
    have at_ := window_flatMap (length_linkZone f) allZones (k := z.val) z.isLt
    rw [at_]
    exact congrArg (linkZone f) (List.getElem_finRange _)

theorem readLink_eq (s : State) :
    readLinkNow s = done (s.setFire (if s.fire.link = .linked then { s.fire with linkLost := false } else s.fire)) (linkSummary s.fire) := by
  unfold readLinkNow
  split <;> rfl

/-- Settles O51. -/
theorem fireWordsAndResets : Obligations.FireWordsAndResets := by
  intro s power
  have frame {i : Instr} {f : FireInterface} {l : List Instr} : onlyChanges [.fire, .inFlight] s (((s.taken i).setFire f).emit l) :=
    onlyChanges_trans (onlyChanges_mono (taken_onlyChanges s i) (by simp))
      (onlyChanges_trans (onlyChanges_mono (setFire_onlyChanges _ _) (by simp)) (onlyChanges_mono (emit_onlyChanges _ _) (by simp)))
  have idle {i : Instr} : onlyChanges [.fire, .inFlight] s (s.taken i) := onlyChanges_mono (taken_onlyChanges s i) (by simp)
  refine ⟨fun flags => ?_, fun z word => ?_, ?_, fun r => ?_, fun r => ?_⟩
  · by_cases link : s.fire.link = .linked
    · refine ⟨_, statusFrame_linked power flags link, frame, fun k => absurd link k, fun w _ panel => ⟨rfl, fun z => ?_, _, rfl, fun z => ?_⟩⟩
      · exact (latchesSet_iff _ _ z).trans (or_congr_right (mem_alarmZones panel))
      · have newly : z ∈ alarmZones s.fire flags ∧ s.fire.latches[z] = false ↔
            s.fire.latches[z] = false ∧ (latchesSet s.fire.latches (alarmZones s.fire flags))[z] = true := by
          rw [latchesSet_iff, and_comm]
          exact and_congr_right fun clear => ⟨.inr, fun k => k.resolve_left (by rw [clear]; nofun)⟩
        obtain ⟨request, report⟩ := latchesSends_spec s.fire (alarmZones s.fire flags) z
        exact ⟨request.trans newly, report.trans newly⟩
    · exact ⟨_, statusFrame_discarded power flags link, idle, fun _ => ⟨rfl, (List.append_nil _).symm⟩, fun _ k => absurd k link⟩
  · by_cases offered : panelDeclares s fun w => w.fireService && decide (z.val < w.zoneCount)
    · exact ⟨_, fireServiceCommand_taken power z word offered, frame, fun _ => by cases word <;> exact ⟨rfl, rfl⟩, fun k => absurd offered k⟩
    · exact ⟨_, fireServiceCommand_discarded power z word offered, idle, fun k => absurd k offered, fun _ => ⟨rfl, (List.append_nil _).symm⟩⟩
  · have run : exec .panelResetWord s = _ := (onEvent_of_powered power : execPanelResetWord s = _)
    by_cases offered : panelDeclares s (·.resetWord)
    · refine ⟨_, run.trans (congrArg _ ((if_pos ((panelOffers_iff _).mpr offered)).trans (resetFire_eq (s.taken .panelResetWord)))), frame,
        fun _ => ⟨rfl, rfl⟩, fun k => absurd offered k⟩
    · exact ⟨_, run.trans (congrArg _ (if_neg fun k => offered ((panelOffers_iff _).mp k))), idle, fun k => absurd k offered, fun _ => rfl⟩
  · by_cases link : s.fire.link = .linked
    · obtain ⟨t, eq, answer, -, only⟩ := onRequest_refused (i := .fireReset) (code := 0x3E) (status := .notNow) (f := fireResetNow) r (if_pos link)
      exact ⟨t, eq, onlyChanges_mono only (by simp), fun k => absurd link k, fun _ => ⟨only .fire (by simp), answer⟩⟩
    · obtain ⟨eq, sends, answer⟩ := request_left (i := .fireReset) (code := 0x3E) (effect := fireResetNow)
        (u := ((s.taken .fireReset).setFire (resetOf s.fire)).emit ((List.finRange 8).flatMap (resetSends s.fire))) r
        ((if_neg link).trans (by rw [resetFire_eq]; rfl)) rfl rfl
      exact ⟨_, eq, onlyChanges_mono (respond_frame _ frame (by simp)) (by simp), fun _ => ⟨rfl, answer, sends⟩, fun k => absurd k link⟩
  · obtain ⟨t, eq, rfl, answer, -, only⟩ := onRequest_answered (i := .readLink) (code := 0x24) (l := []) (f := readLinkNow) (parts := [.fire]) r
      (readLink_eq (s.taken .readLink)) (setFire_onlyChanges _ _) rfl (List.append_nil _).symm
    obtain ⟨length, head, lost, zones⟩ := linkSummary_spec s.fire
    exact ⟨_, eq, onlyChanges_mono only (by simp), rfl, _, answer, length, head, lost, zones⟩

end Sys2Proof.Machine

/-!
The hazard list: the law its operations keep (R149, R150, R156), the acknowledgements (R154, R155), and the sweep (R155, R158).
-/

namespace Sys2Proof.Machine

open State

variable {s t : State} {i : Instr} {h : HazardList} {l : List HazardEntry} {k : HazardKind × Nat} {ks : List (HazardKind × Nat)}
  {minute id : Nat} {kind : HazardKind} {source : Nat}

/-! ### The law of the entries -/

/-- What an entry is called by: its id, and its condition (R149, R150). -/
def HazardEntry.name (e : HazardEntry) : Nat × HazardKind × Nat := (e.id, e.kind, e.source)

/-- The law of the entries, without the next id and the attention output (R149, R150). -/
def EntriesLaw (l : List HazardEntry) : Prop :=
  l.length ≤ 48 ∧ (l.map HazardEntry.id).Nodup ∧ (∀ e ∈ l, 1 ≤ e.id ∧ e.id ≤ 65535) ∧ (l.map fun e => (e.kind, e.source)).Nodup

theorem HazardLaw.entries (law : HazardLaw h) : EntriesLaw h.entries := by
  obtain ⟨few, ids, range, keys, -, -⟩ := law
  exact ⟨few, ids, range, keys⟩

theorem HazardLaw.next (law : HazardLaw h) : 1 ≤ h.nextId ∧ h.nextId ≤ 65535 := by
  obtain ⟨-, -, -, -, next, -⟩ := law
  exact next

theorem HazardLaw.ids (law : HazardLaw h) : (h.entries.map HazardEntry.id).Nodup := by
  obtain ⟨-, ids, -⟩ := law
  exact ids

theorem change_law (entries : EntriesLaw l) (next : 1 ≤ h.nextId ∧ h.nextId ≤ 65535) (unlisted : Bool) : HazardLaw (h.change l unlisted) := by
  obtain ⟨few, ids, range, keys⟩ := entries
  exact ⟨few, ids, range, keys, next, change_attention_iff h l unlisted⟩

/-- Entries that leave or change their state keep the law. -/
theorem EntriesLaw.of_names {l' : List HazardEntry} (law : EntriesLaw l) (names : (l'.map HazardEntry.name).Sublist (l.map HazardEntry.name)) :
    EntriesLaw l' := by
  obtain ⟨few, ids, range, keys⟩ := law
  have idsOf (l : List HazardEntry) : l.map HazardEntry.id = (l.map HazardEntry.name).map Prod.fst := by
    rw [List.map_map]
    rfl
  have keysOf (l : List HazardEntry) : (l.map fun e => (e.kind, e.source)) = (l.map HazardEntry.name).map Prod.snd := by
    rw [List.map_map]
    rfl
  rw [idsOf] at ids
  rw [keysOf] at keys
  refine ⟨?_, ?_, fun e he => ?_, ?_⟩
  · have shorter := names.length_le
    rw [List.length_map, List.length_map] at shorter
    exact Nat.le_trans shorter few
  · rw [idsOf]
    exact ids.sublist (names.map _)
  · obtain ⟨d, hd, same⟩ := List.mem_map.mp (names.subset (List.mem_map_of_mem he))
    have id : d.id = e.id := congrArg Prod.fst same
    exact id ▸ range d hd
  · rw [keysOf]
    exact keys.sublist (names.map _)

theorem EntriesLaw.sublist {l' : List HazardEntry} (law : EntriesLaw l) (sub : l'.Sublist l) : EntriesLaw l' := law.of_names (sub.map _)

theorem names_filterMap {f : HazardEntry → Option HazardEntry} (same : ∀ e d, f e = some d → d.name = e.name) (l : List HazardEntry) :
    ((l.filterMap f).map HazardEntry.name).Sublist (l.map HazardEntry.name) := by
  induction l with
  | nil => exact List.Sublist.refl _
  | cons e l ih =>
    rw [List.filterMap_cons]
    cases kept : f e with
    | none => exact ih.cons _
    | some d =>
      rw [List.map_cons, List.map_cons, same e d kept]
      exact ih.cons_cons _

theorem acknowledged_name (e d : HazardEntry) (kept : acknowledged e = some d) : d.name = e.name := by
  unfold acknowledged at kept
  cases state : e.state with
  | activeUnack => rw [state] at kept; obtain rfl := Option.some.inj kept; rfl
  | activeAck => rw [state] at kept; obtain rfl := Option.some.inj kept; rfl
  | clearedUnack => rw [state] at kept; exact nomatch kept

theorem append_law (law : HazardLaw h) (room : h.entries.length < 48) (absent : ∀ e ∈ h.entries, ¬ entryOf e kind source) :
    HazardLaw (h.append minute kind source) := by
  obtain ⟨few, ids, range, keys, ⟨low, high⟩, -⟩ := law
  have free := takeId_firstFreeId few low high
  have inRange : 1 ≤ takeId h ∧ takeId h ≤ 65535 := by
    obtain ⟨n, eq, -, -⟩ := free
    omega
  obtain ⟨-, -, unheld, -⟩ := free
  rw [append_spec]
  refine ⟨?_, ?_, fun e he => ?_, ?_, idAfter_range inRange.1, ⟨fun _ => .inr ⟨_, List.mem_append_right _ List.mem_cons_self, nofun⟩, fun _ => rfl⟩⟩
  · rw [List.length_append]
    exact room
  · rw [List.map_append, List.nodup_append]
    refine ⟨ids, List.nodup_singleton _, fun a ha b hb same => ?_⟩
    obtain ⟨e, he, rfl⟩ := List.mem_map.mp ha
    obtain rfl := List.mem_singleton.mp hb
    exact unheld e he same
  · rcases List.mem_append.mp he with he | he
    · exact range e he
    · obtain rfl := List.mem_singleton.mp he
      exact inRange
  · rw [List.map_append, List.nodup_append]
    refine ⟨keys, List.nodup_singleton _, fun a ha b hb same => ?_⟩
    obtain ⟨e, he, rfl⟩ := List.mem_map.mp ha
    obtain rfl := List.mem_singleton.mp hb
    exact absent e he ⟨congrArg Prod.fst same, congrArg Prod.snd same⟩

/-! ### The sweep -/

/-- The conditions of a list that some entries do not hold (R155, step 3). -/
def missingFrom (l : List HazardEntry) (ks : List (HazardKind × Nat)) : List (HazardKind × Nat) :=
  ks.filter fun k => l.all fun e => !(e.kind == k.1 && e.source == k.2)

theorem unheld_iff (l : List HazardEntry) (k : HazardKind × Nat) :
    (l.all fun e => !(e.kind == k.1 && e.source == k.2)) = true ↔ ∀ e ∈ l, ¬ entryOf e k.1 k.2 := by
  simp [List.all_eq_true, entryOf, imp_iff_not_or]

theorem entryFor_isSome (h : HazardList) (k : HazardKind × Nat) : (h.entryFor k.1 k.2).isSome = true ↔ ¬ ∀ e ∈ h.entries, ¬ entryOf e k.1 k.2 := by
  unfold HazardList.entryFor
  rw [List.find?_isSome]
  simp only [isFor_iff, not_forall, not_not, exists_prop]

/-- What a sweep over some conditions leaves: the missing ones appended as far as there is room, UNLISTED set where some are left out. -/
def sweptOver (minute : Nat) (h h' : HazardList) (missing : List (HazardKind × Nat)) : Prop :=
  (∃ fresh : List HazardEntry, h'.entries = h.entries ++ fresh ∧
    fresh.map (fun e => (e.kind, e.source)) = missing.take (48 - h.entries.length) ∧
    ∀ e ∈ fresh, e.state = .activeUnack ∧ e.minute = minute) ∧
    h'.unlisted = (h.unlisted || decide (48 - h.entries.length < missing.length)) ∧ HazardLaw h'

theorem missingFrom_held (held : ¬ ∀ e ∈ l, ¬ entryOf e k.1 k.2) : missingFrom l (k :: ks) = missingFrom l ks :=
  List.filter_cons_of_neg fun all => held ((unheld_iff l k).mp all)

theorem missingFrom_absent (absent : ∀ e ∈ l, ¬ entryOf e k.1 k.2) : missingFrom l (k :: ks) = k :: missingFrom l ks :=
  List.filter_cons_of_pos ((unheld_iff l k).mpr absent)

theorem missingFrom_append {e : HazardEntry} (new : (e.kind, e.source) ∉ ks) : missingFrom (l ++ [e]) ks = missingFrom l ks :=
  List.filter_congr fun k hk => by
    have other : (e.kind == k.1 && e.source == k.2) = false := Bool.eq_false_iff.mpr fun same => by
      obtain ⟨kind, source⟩ := Bool.and_eq_true_iff.mp same
      rw [beq_iff_eq] at kind source
      exact new (by rw [kind, source]; exact hk)
    rw [List.all_append, List.all_cons, other]
    exact Bool.and_true _

theorem relist_sweeps (law : HazardLaw h) (once : ks.Nodup) :
    sweptOver minute h (ks.foldl (HazardList.relist minute) h) (missingFrom h.entries ks) := by
  induction ks generalizing h with
  | nil => exact ⟨⟨[], (List.append_nil _).symm, by simp [missingFrom], nofun⟩, by simp [missingFrom], law⟩
  | cons k ks ih =>
    obtain ⟨new, rest⟩ := List.nodup_cons.mp once
    rw [List.foldl_cons]
    by_cases absent : ∀ e ∈ h.entries, ¬ entryOf e k.1 k.2
    · have open_ : ¬ (h.entryFor k.1 k.2).isSome = true := fun some => (entryFor_isSome h k).mp some absent
      rw [missingFrom_absent absent]
      by_cases full : 48 ≤ h.entries.length
      · have exact_ : 48 - h.entries.length = 0 := by omega
        have step : HazardList.relist minute h k = h.change h.entries true := by
          unfold HazardList.relist
          rw [if_neg open_, if_pos (full_eq_true_iff.mpr full)]
        obtain ⟨⟨fresh, entries, names, states⟩, unlisted, law'⟩ := ih (change_law law.entries law.next true) rest
        rw [step]
        refine ⟨⟨fresh, entries, ?_, states⟩, ?_, law'⟩
        · rw [exact_]
          exact names.trans (by rw [show 48 - (h.change h.entries true).entries.length = 0 from exact_]; rfl)
        · rw [unlisted, exact_]
          simp [HazardList.change]
      · have step : HazardList.relist minute h k = h.append minute k.1 k.2 := by
          unfold HazardList.relist
          rw [if_neg open_, if_neg fun f => full (full_eq_true_iff.mp f)]
        obtain ⟨⟨fresh, entries, names, states⟩, unlisted, law'⟩ :=
          ih (append_law (minute := minute) law (by omega) absent) rest
        rw [step]
        rw [append_spec] at entries names unlisted ⊢
        rw [missingFrom_append new] at names unlisted
        have less : 48 - h.entries.length = (48 - (h.entries.length + 1)) + 1 := by omega
        rw [List.length_append, List.length_singleton] at names unlisted
        refine ⟨⟨_ :: fresh, entries.trans (List.append_assoc _ _ _), ?_, ?_⟩, ?_, by rw [← append_spec]; exact law'⟩
        · rw [less, List.take_succ_cons, List.map_cons, names]
        · intro e he
          rcases List.mem_cons.mp he with rfl | he
          · exact ⟨rfl, rfl⟩
          · exact states e he
        · rw [unlisted, less, List.length_cons]
          simp only [Nat.add_lt_add_iff_right]
    · have held : (h.entryFor k.1 k.2).isSome = true := (entryFor_isSome h k).mpr absent
      rw [missingFrom_held absent, show HazardList.relist minute h k = h from if_pos held]
      exact ih law rest

theorem activeConditions_nodup (s : State) : (activeConditions s).Nodup := by
  refine List.nodup_flatMap.mpr ⟨fun k _ => (List.nodup_range.filter _).map fun a b same => congrArg Prod.snd same, ?_⟩
  have kinds : kindOrder.Pairwise (· ≠ ·) := by decide
  refine kinds.imp fun {a b} other => ?_
  intro x hx hy
  obtain ⟨n, -, rfl⟩ := List.mem_map.mp hx
  obtain ⟨m, -, same⟩ := List.mem_map.mp hy
  exact other (congrArg Prod.fst same).symm

theorem sweep_spec (s : State) (law : HazardLaw h) :
    sweptOver s.store.minute h (h.sweep s) (missingFrom h.entries (activeConditions s)) :=
  relist_sweeps law (activeConditions_nodup s)

theorem sweep_law (s : State) (law : HazardLaw h) : HazardLaw (h.sweep s) := by
  obtain ⟨-, -, law'⟩ := sweep_spec s law
  exact law'

/-- A sweep from a list with UNLISTED clear is the manual's (R155, R158). -/
theorem swept_of_sweep {kept : List HazardEntry} (entries : EntriesLaw kept) (next : 1 ≤ h.nextId ∧ h.nextId ≤ 65535)
    (list : t.hazards = (h.change kept false).sweep s) : swept s t kept ∧ HazardLaw t.hazards := by
  obtain ⟨⟨fresh, appended, names, states⟩, unlisted, law⟩ := sweep_spec s (change_law (h := h) entries next false)
  rw [← list] at appended unlisted law
  exact ⟨⟨fresh, appended, names, states, by rw [unlisted]; exact Bool.false_or _⟩, law⟩

/-! ### Acknowledgement -/

theorem acknowledged_all (l : List HazardEntry) : l.filterMap acknowledged = allAcknowledged l := by
  induction l with
  | nil => rfl
  | cons e l ih =>
    obtain ⟨id, kind, source, state, minute⟩ := e
    rw [List.filterMap_cons, ih]
    cases state <;> rfl

/-- One acknowledged entry: it alone changes or leaves (R154). -/
theorem acknowledgeOne_entries {front back : List HazardEntry} {e : HazardEntry} (ids : (l.map HazardEntry.id).Nodup)
    (held : l = front ++ e :: back) :
    (l.filterMap fun d => if d.id = e.id then acknowledged d else some d) = front ++ ((acknowledged e).toList ++ back) := by
  rw [held, List.map_append, List.map_cons, List.nodup_middle, ← List.map_append, List.nodup_cons] at ids
  obtain ⟨single, -⟩ := ids
  have stay (m : List HazardEntry) (others : ∀ d ∈ m, d.id ≠ e.id) :
      (m.filterMap fun d => if d.id = e.id then acknowledged d else some d) = m := by
    rw [List.filterMap_congr (g := some) fun d hd => if_neg (others d hd)]
    exact List.filterMap_some
  have inFront := stay front fun d hd same => single (List.mem_map.mpr ⟨d, List.mem_append_left _ hd, same⟩)
  have inBack := stay back fun d hd same => single (List.mem_map.mpr ⟨d, List.mem_append_right _ hd, same⟩)
  rw [held, List.filterMap_append, List.filterMap_cons, inFront, inBack, if_pos rfl]
  cases acknowledged e <;> rfl

theorem attention_eq_lamp (law : HazardLaw h) : h.attention = lamp h.entries h.unlisted := by
  obtain ⟨-, -, -, -, -, attention⟩ := law
  rw [Bool.eq_iff_iff, attention, ← attentionDue_eq_lamp]
  simp [attentionDue]

/-- The list after one acknowledgement (R154). -/
theorem acknowledgeId_spec {front back : List HazardEntry} {e : HazardEntry} (law : HazardLaw h) (held : h.entries = front ++ e :: back) :
    (e.state = .activeAck → h.acknowledgeId e.id = h) ∧
      (e.state = .activeUnack → h.acknowledgeId e.id = { h with
        entries := front ++ e.withState .activeAck :: back, attention := lamp (front ++ e.withState .activeAck :: back) h.unlisted }) ∧
      (e.state = .clearedUnack → h.acknowledgeId e.id = { h with
        entries := front ++ back, attention := lamp (front ++ back) h.unlisted }) := by
  have ids : (h.entries.map HazardEntry.id).Nodup := law.ids
  have form : h.acknowledgeId e.id = { h with
      entries := front ++ ((acknowledged e).toList ++ back), attention := lamp (front ++ ((acknowledged e).toList ++ back)) h.unlisted } := by
    rw [HazardList.acknowledgeId, change_eq_lamp, acknowledgeOne_entries ids held]
  rw [form]
  unfold acknowledged
  refine ⟨fun state => ?_, fun state => ?_, fun state => ?_⟩ <;> rw [state]
  · show { h with entries := front ++ e :: back, attention := lamp (front ++ e :: back) h.unlisted } = h
    rw [← held, ← attention_eq_lamp law]
  · rfl
  · rfl

theorem acknowledge_answered (r : ready s) (id : Nat) :
    ∃ t, exec (.acknowledge id) s = .next t ∧ onlyChanges [.hazards, .port, .inFlight] s t ∧
      ((∀ e ∈ s.hazards.entries, e.id ≠ id) → t.hazards = s.hazards ∧ answering s t 0x29 .hazardUnknown []) ∧
        ((∃ e ∈ s.hazards.entries, e.id = id) → t.hazards = s.hazards.acknowledgeId id ∧ answering s t 0x29 .done []) := by
  cases held : idHeld s.hazards.entries id with
  | false =>
    have absent := idHeld_eq_false_iff.mp held
    obtain ⟨t, eq, answer, -, frame⟩ := onRequest_refused (i := .acknowledge id) (code := 0x29) (status := .hazardUnknown)
      (f := fun s => acknowledgeOne s id) r (if_neg (Bool.eq_false_iff.mp held))
    exact ⟨t, eq, onlyChanges_mono frame (by simp), fun _ => ⟨frame .hazards (by simp), answer⟩,
      fun ⟨e, he, own⟩ => absurd own (absent e he)⟩
  | true =>
    obtain ⟨d, hd, own⟩ := idHeld_iff.mp held
    obtain ⟨t, eq, rfl, answer, -, frame⟩ := onRequest_answered (i := .acknowledge id) (code := 0x29) (l := [])
      (f := fun s => acknowledgeOne s id) (parts := [.hazards]) r (if_pos held) (setHazards_onlyChanges _ _) rfl (List.append_nil _).symm
    exact ⟨_, eq, onlyChanges_mono frame (by simp), fun absent => absurd own (absent d hd), fun _ => ⟨rfl, answer⟩⟩

/-- Settles O53. -/
theorem acknowledgementAndSweep : Obligations.AcknowledgementAndSweep := by
  intro s power law
  refine ⟨fun r id => ?_, fun r => ?_, ?_⟩
  · obtain ⟨t, eq, frame, unknown, known⟩ := acknowledge_answered r id
    refine ⟨t, eq, frame, unknown, fun front back e held own => ?_⟩
    subst own
    obtain ⟨list, answer⟩ := known ⟨e, by rw [held]; simp, rfl⟩
    rw [list]
    exact ⟨answer, acknowledgeId_spec law held⟩
  · obtain ⟨t, eq, rfl, answer, -, frame⟩ := onRequest_answered (i := .acknowledgeAll) (code := 0x2A) (l := []) (f := acknowledgeEvery)
      (parts := [.hazards]) r rfl (setHazards_onlyChanges _ _) rfl (List.append_nil _).symm
    refine ⟨_, eq, onlyChanges_mono frame (by simp), answer, swept_of_sweep (h := s.hazards) ?_ law.next ?_⟩
    · rw [← acknowledged_all]
      exact law.entries.of_names (names_filterMap acknowledged_name _)
    · rw [← acknowledged_all]
      rfl
  · refine ⟨_, (onEvent_of_powered power : execHazardRestart s = _), listEvent_onlyChanges .hazardRestart s _,
      swept_of_sweep (h := s.hazards) (law.entries.sublist (List.nil_sublist _)) law.next rfl⟩

end Sys2Proof.Machine

/-!
The snapshot reads (R157, R166 to R170): each answers a record found by a number, or FIELD-RANGE.
-/

namespace Sys2Proof.Machine

open State

variable {s t : State} {i : Instr} {n : Nat} {z : Zone} {c : Chan}

/-- A read of a record that a number may name. -/
theorem read_named {α : Type} {code : Nat} {f : State → State × Status × List Byte} (r : ready s) (named : Option α) (answer : α → List Byte)
    (effect : f (s.taken i) = named.elim (refuse (s.taken i) .fieldRange) fun a => done (s.taken i) (answer a)) :
    ∃ t, onRequest i code s f = .next t ∧ onlyChanges [.port, .inFlight] s t ∧ (named = none → answering s t code .fieldRange []) ∧
      ∀ a, named = some a → answering s t code .done (answer a) := by
  cases named with
  | none =>
    obtain ⟨t, eq, answered, -, frame⟩ := onRequest_refused (i := i) (code := code) r effect
    exact ⟨t, eq, frame, fun _ => answered, nofun⟩
  | some a =>
    obtain ⟨t, eq, answered, -, frame⟩ := onRequest_read (i := i) (code := code) r effect
    exact ⟨t, eq, frame, nofun, fun b same => Option.some.inj same ▸ answered⟩

theorem zoneOf_val (z : Zone) : zoneOf z.val = some z := dif_pos z.isLt

theorem zoneOf_none (high : 7 < n) : zoneOf n = none := dif_neg (by omega)

theorem headOf_val (h : HeadAddr) : headOf h.val = some h := dif_pos h.isLt

theorem headOf_none (high : 31 < n) : headOf n = none := dif_neg (by omega)

/-! ### READ-ZONE -/

theorem length_zoneFlowBytes (z : Zone) (u : ZoneUnit) : (zoneFlowBytes z u).length = 29 := by simp [zoneFlowBytes]

theorem length_zoneModeBytes (u : ZoneUnit) : (zoneModeBytes u).length = 12 := by simp [zoneModeBytes]

/-- The part of READ-ZONE about the standby request and the fans granted (R168). -/
def standbyBytes (s : State) (z : Zone) : List Byte :=
  field 1 (s.zones[z].request.map classRank) ++ field 2 (s.zones[z].request.map callAmount) ++
    bytesOf 2 (maskOf ((List.finRange 16).filter fun c : Chan => s.alloc.grants[c] == some z))

theorem length_standbyBytes (s : State) (z : Zone) : (standbyBytes s z).length = 5 := by simp [standbyBytes]

theorem zoneAnswer_parts (s : State) (z : Zone) :
    zoneAnswer s z = zoneFlowBytes z s.zones[z] ++ (standbyBytes s z ++ zoneModeBytes s.zones[z]) := by
  simp only [zoneAnswer, standbyBytes, List.append_assoc]
  rfl

theorem zoneFlowBytes_start (z : Zone) (u : ZoneUnit) :
    (zoneFlowBytes z u).take 4 = bytesOf 1 z.val ++ bytesOf 1 u.mode.code ++ bytesOf 2 u.baseFlow := by
  unfold zoneFlowBytes
  simp only [List.append_assoc (bytesOf 1 z.val ++ bytesOf 1 u.mode.code ++ bytesOf 2 u.baseFlow)]
  exact List.take_left' (by simp)

theorem zoneModeBytes_end (u : ZoneUnit) : (zoneModeBytes u).drop 10 = flag (u.evalState == .gathering) ++ flag u.again := by
  unfold zoneModeBytes
  rw [List.append_assoc]
  exact List.drop_left' (by simp)

theorem zoneAnswer_spec (s : State) (z : Zone) :
    (zoneAnswer s z).length = 46 ∧ zoneAnswer s z = zoneBytes s z ∧
      (zoneAnswer s z).take 4 = bytesOf 1 z.val ++ bytesOf 1 s.zones[z].mode.code ++ bytesOf 2 s.zones[z].baseFlow ∧
      ((zoneAnswer s z).drop 29).take 5 = standbyBytes s z ∧
      (zoneAnswer s z).drop 44 = flag (s.zones[z].evalState == .gathering) ++ flag s.zones[z].again := by
  refine ⟨?_, zoneAnswer_eq s z, ?_, ?_, ?_⟩ <;> rw [zoneAnswer_parts]
  · simp [length_zoneFlowBytes, length_standbyBytes, length_zoneModeBytes]
  · rw [List.take_append_of_le_length (by rw [length_zoneFlowBytes]; omega)]
    exact zoneFlowBytes_start z _
  · rw [List.drop_left' (length_zoneFlowBytes _ _)]
    exact List.take_left' (length_standbyBytes s z)
  · have skip : 44 = (zoneFlowBytes z s.zones[z] ++ standbyBytes s z).length + 10 := by simp [length_zoneFlowBytes, length_standbyBytes]
    rw [← List.append_assoc, skip, List.drop_length_add_append]
    exact zoneModeBytes_end _

/-! ### READ-FAN and READ-DAMPER -/

/-- The first ten bytes of READ-FAN: state, target and output (R168). -/
def fanHead (f : FanRecord) (c : Chan) : List Byte :=
  bytesOf 1 c.val ++ bytesOf 1 f.state.code ++ flag f.target.isOn ++ field 1 (targetSpeed f.target) ++ flag f.target.marked ++
    flag f.runOutput ++ bytesOf 1 f.commanded ++ bytesOf 3 f.measured

theorem length_fanHead (f : FanRecord) (c : Chan) : (fanHead f c).length = 10 := by simp [fanHead]

theorem fanAnswer_start (s : State) (c : Chan) : (fanAnswer s c).take 10 = fanHead s.fans[c] c := by
  unfold fanAnswer
  dsimp only
  rw [← fanHead]
  simp only [List.append_assoc (fanHead s.fans[c] c)]
  exact List.take_left' (length_fanHead _ _)

theorem length_fanAnswer (s : State) (c : Chan) : (fanAnswer s c).length = 24 := by
  unfold fanAnswer
  simp only [List.length_append, length_bytesOf, length_field, length_flag]

theorem fanAnswer_spec (s : State) (c : Chan) :
    (fanAnswer s c).length = 24 ∧ fanAnswer s c = fanBytes s c ∧
      (fanAnswer s c).take 10 =
        bytesOf 1 c.val ++ bytesOf 1 s.fans[c].state.code ++ flag s.fans[c].target.isOn ++ field 1 (targetSpeed s.fans[c].target) ++
          flag s.fans[c].target.marked ++ flag s.fans[c].runOutput ++ bytesOf 1 s.fans[c].commanded ++
          bytesOf 3 s.fans[c].measured := by
  exact ⟨length_fanAnswer s c, fanAnswer_eq s c, fanAnswer_start s c⟩

theorem damperAnswer_eq (s : State) (z : Zone) :
    damperAnswer s z =
      bytesOf 1 z.val ++ bytesOf 1 s.dampers[z].state.code ++ field 1 (damperRequestCode s.dampers[z].request) ++
        flag s.dampers[z].closePending ++ bytesOf 2 (maskOf s.dampers[z].blocking) ++ field 1 s.dampers[z].timer ++
        bytesOf 1
          (if s.pins.openSwitch[z] = true ∧ s.pins.closedSwitch[z] = false then 0
           else if s.pins.openSwitch[z] = false ∧ s.pins.closedSwitch[z] = true then 1 else 2) := by
  have switches : (reading s z).code =
      if s.pins.openSwitch[z] = true ∧ s.pins.closedSwitch[z] = false then 0
      else if s.pins.openSwitch[z] = false ∧ s.pins.closedSwitch[z] = true then 1 else 2 := by
    unfold reading
    cases s.pins.openSwitch[z] <;> cases s.pins.closedSwitch[z] <;> rfl
  unfold damperAnswer
  rw [switches]

theorem gateAnswer_spec (s : State) (c : Chan) :
    (s.gates[c].inUse = false → gateAnswer s c = bytesOf 1 c.val ++ [0x00#8, 0xFF#8, 0xFF#8, 0xFF#8, 0xFF#8, 0xFF#8]) ∧
      (s.gates[c].inUse = true → gateAnswer s c =
        bytesOf 1 c.val ++ [0x01#8] ++ bytesOf 1 s.gates[c].state.code ++ field 1 s.gates[c].state.position ++
          bytesOf 1 (gateTargetCode s.gates[c].target) ++ flag s.gates[c].pending ++ field 1 s.gates[c].timer) := by
  unfold gateAnswer
  refine ⟨fun out => ?_, fun inUse => ?_⟩
  · dsimp only
    rw [out]
    rfl
  · dsimp only
    rw [inUse]
    simp only [if_true, List.append_assoc]
    rfl

/-- What READ-DAMPER answers for a kind and a number: a zone damper, a gate, or nothing (R168). -/
def damperNamed (s : State) (kind n : Nat) : Option (List Byte) :=
  if kind = 0 then (zoneOf n).map (damperAnswer s) else if kind = 1 then (chanOf n).map (gateAnswer s) else none

theorem readDamperAt_eq (s : State) (kind n : Nat) :
    readDamperAt s kind n = (damperNamed s kind n).elim (refuse s .fieldRange) (done s) := by
  unfold readDamperAt damperNamed
  rcases kind with _ | _ | kind
  · cases zoneOf n <;> cases chanOf n <;> rfl
  · cases zoneOf n <;> cases chanOf n <;> rfl
  · rfl

/-! ### The reads -/

theorem readZone_answered (r : ready s) (n : Nat) :
    ∃ t, exec (.readZone n) s = .next t ∧ onlyChanges [.port, .inFlight] s t ∧ (zoneOf n = none → answering s t 0x20 .fieldRange []) ∧
      ∀ z, zoneOf n = some z → answering s t 0x20 .done (zoneAnswer s z) :=
  read_named (i := .readZone n) (f := fun s => readZoneAt s n) r (zoneOf n) (zoneAnswer s) (by unfold readZoneAt; cases zoneOf n <;> rfl)

theorem readFan_answered (r : ready s) (n : Nat) :
    ∃ t, exec (.readFan n) s = .next t ∧ onlyChanges [.port, .inFlight] s t ∧ (chanOf n = none → answering s t 0x21 .fieldRange []) ∧
      ∀ c, chanOf n = some c → answering s t 0x21 .done (fanAnswer s c) :=
  read_named (i := .readFan n) (f := fun s => readFanAt s n) r (chanOf n) (fanAnswer s) (by unfold readFanAt; cases chanOf n <;> rfl)

theorem readHead_answered (r : ready s) (n : Nat) :
    ∃ t, exec (.readHead n) s = .next t ∧ onlyChanges [.port, .inFlight] s t ∧ (headOf n = none → answering s t 0x22 .fieldRange []) ∧
      ∀ h, headOf n = some h → answering s t 0x22 .done (headAnswer s h) :=
  read_named (i := .readHead n) (f := fun s => readHeadAt s n) r (headOf n) (headAnswer s) (by unfold readHeadAt; cases headOf n <;> rfl)

theorem readDamper_answered (r : ready s) (kind n : Nat) :
    ∃ t, exec (.readDamper kind n) s = .next t ∧ onlyChanges [.port, .inFlight] s t ∧
      (damperNamed s kind n = none → answering s t 0x23 .fieldRange []) ∧
      ∀ payload, damperNamed s kind n = some payload → answering s t 0x23 .done payload :=
  read_named (i := .readDamper kind n) (f := fun s => readDamperAt s kind n) r (damperNamed s kind n) id
    (readDamperAt_eq (s.taken (.readDamper kind n)) kind n)

theorem readHazards_answered (r : ready s) (page : Nat) :
    ∃ t, exec (.readHazards page) s = .next t ∧ onlyChanges [.port, .inFlight] s t ∧
      ((if 5 < page then none else some page) = none → answering s t 0x28 .fieldRange []) ∧
      ∀ p, (if 5 < page then none else some page) = some p → answering s t 0x28 .done (hazardPage s.hazards p) :=
  read_named (i := .readHazards page) (f := fun s => readHazardsAt s page) r (if 5 < page then none else some page) (hazardPage s.hazards)
    (by unfold readHazardsAt; split <;> rfl)

/-- Settles O54. -/
theorem readsAnswerAndChangeNothing : Obligations.ReadsAnswerAndChangeNothing := by
  intro s r
  refine ⟨?_, fun n => ?_, fun n => ?_, fun n => ?_, fun kind n => ?_, fun page => ?_⟩
  · obtain ⟨t, eq, answer, -, frame⟩ := onRequest_read (i := .identify) (code := 0x01) (f := identifyNow) r rfl
    exact ⟨t, eq, frame, answer⟩
  · obtain ⟨t, eq, frame, bad, good⟩ := readZone_answered r n
    refine ⟨t, eq, frame, fun high => bad (zoneOf_none high), fun z same => ?_⟩
    subst same
    exact ⟨_, good z (zoneOf_val z), zoneAnswer_spec s z⟩
  · obtain ⟨t, eq, frame, bad, good⟩ := readFan_answered r n
    refine ⟨t, eq, frame, fun high => bad (chanOf_none high), fun c same => ?_⟩
    subst same
    exact ⟨_, good c (chanOf_val c), fanAnswer_spec s c⟩
  · obtain ⟨t, eq, frame, bad, good⟩ := readHead_answered r n
    refine ⟨t, eq, frame, fun high => bad (headOf_none high), fun h same => ?_⟩
    subst same
    exact good h (headOf_val h)
  · obtain ⟨t, eq, frame, bad, good⟩ := readDamper_answered r kind n
    refine ⟨t, eq, frame, fun unnamed => bad ?_, fun z damper same => ?_, fun c gate same => ?_⟩
    · unfold damperNamed
      rcases unnamed with high | ⟨rfl, high⟩ | ⟨rfl, high⟩
      · rw [if_neg (by omega), if_neg (by omega)]
      · rw [if_pos rfl, zoneOf_none high]
        rfl
      · rw [if_neg (by omega), if_pos rfl, chanOf_none high]
        rfl
    · subst damper same
      have named : damperNamed s 0 z.val = some (damperAnswer s z) := by
        unfold damperNamed
        rw [if_pos rfl, zoneOf_val]
        rfl
      have answer := good _ named
      rw [damperAnswer_eq] at answer
      exact answer
    · subst gate same
      have named : damperNamed s 1 c.val = some (gateAnswer s c) := by
        unfold damperNamed
        rw [if_neg (by omega), if_pos rfl, chanOf_val]
        rfl
      obtain ⟨out, inUse⟩ := gateAnswer_spec s c
      exact ⟨fun k => out k ▸ good _ named, fun k => inUse k ▸ good _ named⟩
  · obtain ⟨t, eq, frame, bad, good⟩ := readHazards_answered r page
    exact ⟨t, eq, frame, fun high => bad (if_pos high), fun low => good page (if_neg (by omega))⟩

end Sys2Proof.Machine

/-!
The laws of the allocator, the hazard list and the sensor line are kept by every command (R110 to R118, R119 to R131, R149 to R158).
-/

namespace Sys2Proof.Machine

open State

variable {s t : State} {i : Instr} {parts : List Part} {P : State → Prop} {a : Allocator} {rs : List StandbyEntry} {l : SensorLine}
  {h : HeadAddr} {r : HeadRecord} {z : Zone}

/-- What the parts of a block's law keep apart from. -/
def apartFrom (parts : List Part) : Prop := ∀ p ∈ parts, p ∉ [Part.roster, .fans, .fire, .store, .port, .inFlight, .powered, .pins]

theorem apartFrom.disjoint (apart : apartFrom parts) {changed : List Part}
    (within : changed ⊆ [Part.roster, .fans, .fire, .store, .port, .inFlight, .powered, .pins]) : ∀ p ∈ parts, p ∉ changed :=
  fun p hp k => apart p hp (within k)

/-- A law of parts that no write changes is kept once a starting state has it and the commands with a part in it keep it at a running
module. -/
theorem partLaw_kept (reads : Reads parts P) (apart : apartFrom parts) (starts : ∀ s, Lawful s → P s)
    (own : ∀ i, ¬ (∀ p ∈ parts, p ∉ touches i) → writeOf i = none → (∀ b, i ≠ .supervisoryByteReceived b) →
      i ≠ .powerOn ∧ i ≠ .resetLineRelease → ∀ s t, s.powered = true → P s → exec i s = .next t → P t)
    (i : Instr) : Keeps (fun s => P s ∧ StoreLaw s.store) i := by
  refine blockLaw_kept (fun s t _ => reads s t) (apart.disjoint (by simp)) (fun s store => starts _ (starting_lawful store))
    (fun s k v _ _ law _ => ?_) (fun i write byte start touched s t law _ next => ?_) i
  · exact reads.kept (changed := [.roster, .fans, .fire, .store, .inFlight]) (apart.disjoint (by simp))
      (onlyChanges_trans (onlyChanges_mono (setCfg_onlyChanges _ _) (by simp)) (onlyChanges_mono (actOnWrite_onlyChanges _ _ _) (by simp))) law
  · cases power : s.powered with
    | true => exact own i touched write byte start s t power law next
    | false =>
      have loss : i ≠ .powerLoss := fun same => touched (same ▸ apart.disjoint (by simp [touches]))
      exact reads.kept (apart.disjoint (by simp)) (exec_idles power start.1 start.2 loss t next) law

/-! ### The allocator -/

theorem Lawful.alloc (law : Lawful s) : AllocLaw s.alloc := by
  obtain ⟨-, -, -, -, -, alloc, -⟩ := law
  exact alloc

theorem allocLaw_reads : Reads [.alloc] fun s => AllocLaw s.alloc := by
  intro s t same law
  have alloc : t.alloc = s.alloc := same .alloc (by simp)
  show AllocLaw t.alloc
  rw [alloc]
  exact law

theorem runAlloc_law (kept : coversKept s.alloc rs) : AllocLaw (runAlloc (s.taken i) rs) := by
  obtain ⟨-, calls, grants, covers, shortfall, -⟩ := run_ran (i := i) (extra := []) kept nofun
  refine ⟨?_, fun e he fire => ?_, fun c z held => ?_, fun z active => ?_⟩
  · have zones : (runAlloc (s.taken i) rs).requests.map StandbyEntry.zone = (callsIn rs).map Prod.fst := by
      rw [← calls]
      exact (List.map_map (g := Prod.fst) (f := fun e : StandbyEntry => (e.zone, e.call))).symm
    rw [zones]
    exact callsIn_nodup kept.1
  · obtain ⟨idle, -⟩ := covers e he
    exact idle.mpr (.inl fire)
  · obtain ⟨-, -, e, he, own⟩ := grants c z held
    exact ⟨e, he, own⟩
  · obtain ⟨-, e, he, own, fire, -⟩ := (shortfall z).mp active
    exact ⟨e, he, own, fire⟩

/-- A cover timer that runs out leaves the law: the zone's request is no FIRE (R117). -/
theorem coverRunOut_law (law : AllocLaw a) (z : Zone) {e : StandbyEntry} (he : e ∈ a.requests) (zone : e.zone = z) (runs : e.cover ≠ none) :
    AllocLaw { a with
      requests := a.requests.map fun d => if d.zone = z then { d with cover := none } else d, shortfall := a.shortfall.set z true } := by
  obtain ⟨once, fires, grants, shortfall⟩ := law
  have same (d : StandbyEntry) : (if d.zone = z then { d with cover := none } else d).zone = d.zone ∧
      (if d.zone = z then { d with cover := none } else d).call = d.call := by split <;> exact ⟨rfl, rfl⟩
  have still {y : Zone} {q : StandbyCall → Prop} (k : ∃ d ∈ a.requests, d.zone = y ∧ q d.call) :
      ∃ d ∈ a.requests.map fun d => if d.zone = z then { d with cover := none } else d, d.zone = y ∧ q d.call := by
    obtain ⟨d, hd, own, call⟩ := k
    exact ⟨_, List.mem_map_of_mem hd, (same d).1.trans own, by rw [(same d).2]; exact call⟩
  refine ⟨?_, fun d hd fire => ?_, fun c y held => ?_, fun y active => ?_⟩
  · rw [List.map_map]
    exact (List.map_congr_left fun d _ => (same d).1) ▸ once
  · obtain ⟨b, hb, rfl⟩ := List.mem_map.mp hd
    split
    · rfl
    · next other =>
      rw [if_neg other] at fire
      exact fires b hb fire
  · obtain ⟨d, hd, own, -⟩ := still (q := fun _ => True) ((grants c y held).imp fun d k => ⟨k.1, k.2, trivial⟩)
    exact ⟨d, hd, own⟩
  · by_cases own : y = z
    · subst own
      exact still (q := (· ≠ .fire)) ⟨e, he, zone, fun fire => runs (fires e he fire)⟩
    · refine still (q := (· ≠ .fire)) (shortfall y ?_)
      exact (Vector.getElem_set_ne z.isLt y.isLt fun k => own (Fin.ext k.symm)).symm.trans active

theorem initial_allocLaw : AllocLaw Allocator.initial := by
  refine ⟨List.nodup_nil, nofun, fun c z held => ?_, fun z active => ?_⟩
  · exact nomatch (Vector.getElem_replicate c.isLt).symm.trans held
  · exact nomatch (Vector.getElem_replicate z.isLt).symm.trans active

theorem isRun_law (power : s.powered = true) (k : isRun i = true) (law : AllocLaw s.alloc) (next : exec i s = .next t) : AllocLaw t.alloc := by
  obtain rfl := Host.Outcome.next.inj ((exec_isRun power k).symm.trans next)
  exact runAlloc_law (runsOn_kept i law.1)

theorem coverTimerExpiry_law (power : s.powered = true) (law : AllocLaw s.alloc) (next : exec (.coverTimerExpiry z) s = .next t) :
    AllocLaw t.alloc := by
  cases timer : (requestOf s.alloc.requests z).bind (·.cover) with
  | none =>
    obtain rfl := Host.Outcome.next.inj ((coverTimerExpiry_idle power timer).symm.trans next)
    exact law
  | some n =>
    obtain rfl := Host.Outcome.next.inj ((coverTimerExpiry_running power timer).symm.trans next)
    obtain ⟨e, found, runs⟩ := Option.bind_eq_some_iff.mp timer
    obtain ⟨he, zone⟩ := requestOf_spec found
    rw [reportChange_eq]
    exact coverRunOut_law law z he zone (by rw [runs]; nofun)

/-- Every command keeps the law of the allocator. -/
theorem allocLaw_kept (i : Instr) : Keeps (fun s => AllocLaw s.alloc ∧ StoreLaw s.store) i := by
  refine partLaw_kept allocLaw_reads (by simp [apartFrom]) (fun s law => law.alloc) (fun i touched write byte start s t power law next => ?_) i
  cases i with
  | standbyRequestRaise | standbyRequestChange | standbyRequestWithdraw | standbyAvailabilityReport | gateJamReport =>
    exact isRun_law power rfl law next
  | coverTimerExpiry z => exact coverTimerExpiry_law power law next
  | allocatorRestart =>
    obtain rfl := Host.Outcome.next.inj ((onEvent_of_powered power : execAllocatorRestart s = _).symm.trans next)
    exact initial_allocLaw
  | powerOn => exact absurd rfl start.1
  | resetLineRelease => exact absurd rfl start.2
  | supervisoryByteReceived b => exact absurd rfl (byte b)
  | _ => exact absurd (by simp [touches]) touched

theorem tick_allocLaw (law : AllocLaw s.alloc) : AllocLaw s.tick.alloc := by
  obtain ⟨once, fires, grants, shortfall⟩ := law
  have alloc : s.tick.alloc = { s.alloc with requests := s.alloc.requests.map fun e => { e with cover := downIf e.cover } } := rfl
  rw [alloc]
  refine ⟨?_, fun d hd fire => ?_, fun c y held => ?_, fun y active => ?_⟩
  · rw [List.map_map]
    exact once
  · obtain ⟨b, hb, rfl⟩ := List.mem_map.mp hd
    exact congrArg downIf (fires b hb fire)
  · obtain ⟨d, hd, own⟩ := grants c y held
    exact ⟨_, List.mem_map_of_mem hd, own⟩
  · obtain ⟨d, hd, own, call⟩ := shortfall y active
    exact ⟨_, List.mem_map_of_mem hd, own, call⟩

/-! ### The hazard list -/

theorem Lawful.hazards (law : Lawful s) : HazardLaw s.hazards := by
  obtain ⟨-, -, -, -, -, -, -, -, hazards, -⟩ := law
  exact hazards

theorem hazardLaw_reads : Reads [.hazards] fun s => HazardLaw s.hazards := by
  intro s t same law
  have hazards : t.hazards = s.hazards := same .hazards (by simp)
  show HazardLaw t.hazards
  rw [hazards]
  exact law

theorem setState_law {h : HazardList} (law : HazardLaw h) (kind : HazardKind) (source : Nat) (state : HazardState) :
    HazardLaw (h.setState kind source state) := by
  refine change_law (law.entries.of_names ?_) law.next _
  rw [List.map_map, List.map_congr_left fun e _ => show (HazardEntry.name ∘ fun e => if e.isFor kind source then { e with state := state } else e) e =
    e.name by dsimp only [Function.comp]; split <;> rfl]

theorem list_law {h : HazardList} (law : HazardLaw h) (minute : Nat) (kind : HazardKind) (source : Nat)
    (absent : ∀ e ∈ h.entries, ¬ entryOf e kind source) : HazardLaw (h.list minute kind source) := by
  have room {p : HazardEntry → Bool} {u : Bool} (drops : h.entries.any p = true) :
      HazardLaw ((h.change (h.entries.eraseP p) u).append minute kind source) := by
    refine append_law (change_law (law.entries.sublist List.eraseP_sublist) law.next _) ?_ fun e he => absent e (List.mem_of_mem_eraseP he)
    obtain ⟨e, he, meets⟩ := List.any_eq_true.mp drops
    have shorter := List.length_eraseP_of_mem he meets
    have few := law.entries.1
    have some := List.length_pos_of_mem he
    show (h.entries.eraseP p).length < 48
    omega
  unfold HazardList.list HazardList.makeRoom
  split
  · split
    · next made =>
      split at made
      · next drops =>
        obtain rfl := Option.some.inj made
        exact room drops
      · split at made
        · next drops =>
          obtain rfl := Option.some.inj made
          exact room drops.2
        · exact nomatch made
    · exact change_law law.entries law.next _
  · next free => exact append_law law (Nat.lt_of_not_le fun full => free (full_eq_true_iff.mpr full)) absent

theorem absent_of_stateFor {h : HazardList} {kind : HazardKind} {source : Nat} (none : h.stateFor kind source = none) :
    ∀ e ∈ h.entries, ¬ entryOf e kind source := by
  unfold HazardList.stateFor HazardList.entryFor at none
  exact fun e he own => List.find?_eq_none.mp (Option.map_eq_none_iff.mp none) e he (isFor_iff.mpr own)

theorem takeActive_law {h : HazardList} (law : HazardLaw h) (minute : Nat) (kind : HazardKind) (source : Nat) :
    HazardLaw (h.takeActive minute kind source) := by
  unfold HazardList.takeActive
  split
  · next none => exact list_law law minute kind source (absent_of_stateFor none)
  · exact law
  · exact law
  · exact setState_law law kind source _

theorem takeClear_law {h : HazardList} (law : HazardLaw h) (kind : HazardKind) (source : Nat) : HazardLaw (h.takeClear kind source) := by
  unfold HazardList.takeClear
  split
  · exact setState_law law kind source _
  · exact change_law (law.entries.sublist List.filter_sublist) law.next _
  · exact law
  · exact law

theorem acknowledgeId_law {h : HazardList} (law : HazardLaw h) (id : Nat) : HazardLaw (h.acknowledgeId id) := by
  refine change_law (law.entries.of_names (names_filterMap (fun e d kept => ?_) _)) law.next _
  split at kept
  · exact acknowledged_name e d kept
  · exact Option.some.inj kept ▸ rfl

theorem acknowledgeAll_law (law : HazardLaw s.hazards) (next : exec .acknowledgeAll s = .next t) : HazardLaw t.hazards := by
  refine onRequest_leaves (parts := [.hazards]) (P := fun s => HazardLaw s.hazards) (i := .acknowledgeAll) (f := acknowledgeEvery)
    hazardLaw_reads (by simp) next law ?_
  exact sweep_law _ (change_law (law.entries.of_names (names_filterMap acknowledged_name _)) law.next _)

theorem acknowledge_law {id : Nat} (law : HazardLaw s.hazards) (next : exec (.acknowledge id) s = .next t) : HazardLaw t.hazards := by
  refine onRequest_leaves (parts := [.hazards]) (P := fun s => HazardLaw s.hazards) (i := .acknowledge id) (f := fun s => acknowledgeOne s id)
    hazardLaw_reads (by simp) next law ?_
  unfold acknowledgeOne
  split
  · exact acknowledgeId_law law id
  · exact law

/-- Every command keeps the law of the hazard list. -/
theorem hazardLaw_kept (i : Instr) : Keeps (fun s => HazardLaw s.hazards ∧ StoreLaw s.store) i := by
  refine partLaw_kept hazardLaw_reads (by simp [apartFrom]) (fun s law => law.hazards) (fun i touched write byte start s t power law next => ?_) i
  cases i with
  | conditionActiveReport kind source =>
    obtain rfl := Host.Outcome.next.inj ((exec_conditionActiveReport power).symm.trans next)
    exact takeActive_law law _ _ _
  | conditionClearReport kind source =>
    obtain rfl := Host.Outcome.next.inj ((exec_conditionClearReport power).symm.trans next)
    exact takeClear_law law _ _
  | acknowledge id => exact acknowledge_law law next
  | acknowledgeAll => exact acknowledgeAll_law law next
  | hazardRestart =>
    obtain rfl := Host.Outcome.next.inj ((onEvent_of_powered power : execHazardRestart s = _).symm.trans next)
    exact sweep_law _ (change_law (law.entries.sublist (List.nil_sublist _)) law.next _)
  | powerOn => exact absurd rfl start.1
  | resetLineRelease => exact absurd rfl start.2
  | supervisoryByteReceived b => exact absurd rfl (byte b)
  | _ => exact absurd (by simp [touches]) touched

/-! ### The sensor line -/

theorem Lawful.sensors (law : Lawful s) : SensorLaw s.sensors := by
  obtain ⟨-, -, -, -, -, -, sensors, -⟩ := law
  exact sensors

theorem sensorLaw_reads : Reads [.sensors] fun s => SensorLaw s.sensors := by
  intro s t same law
  have sensors : t.sensors = s.sensors := same .sensors (by simp)
  show SensorLaw t.sensors
  rw [sensors]
  exact law

/-- A head that counts, or that has been polled, has a zone. -/
theorem HeadLaw.zone_of_state (law : HeadLaw r) (state : r.state ≠ .waiting) : r.zone ≠ none := fun out => by
  obtain ⟨-, -, -, -, -, -, unused⟩ := law
  exact state (congrArg HeadRecord.state (unused out))

theorem HeadLaw.hold_isSome (law : HeadLaw r) : r.hold.isSome = r.state.counts := by
  obtain ⟨-, -, -, -, hold, -⟩ := law
  exact hold

theorem saturated_le (limit : Nat) (raw : Int) : saturated limit raw ≤ limit := by
  unfold saturated
  split <;> omega

theorem smoothedTo_le {old : Option Nat} {limit reading : Nat} (range : ∀ v, old = some v → v ≤ limit) (read : reading ≤ limit) :
    smoothedTo r old reading ≤ limit := by
  unfold smoothedTo
  split
  · split
    · have := range _ rfl
      omega
    · exact read
  · exact read

theorem goodReply_headLaw (s : State) (h : HeadAddr) (drift : Bool) (rawCo rawNo2 : Int) (law : HeadLaw s.sensors.heads[h])
    (zone : s.sensors.heads[h].zone ≠ none) : HeadLaw (goodReplyRecord s h drift rawCo rawNo2) := by
  obtain ⟨-, -, co, no2, -, -, -⟩ := law
  refine ⟨rfl, rfl, fun v k => ?_, fun v k => ?_, rfl, Nat.zero_le _, fun out => absurd out zone⟩
  · exact Option.some.inj k ▸ smoothedTo_le co (saturated_le _ _)
  · exact Option.some.inj k ▸ smoothedTo_le no2 (saturated_le _ _)

theorem missed_headLaw (law : HeadLaw r) (zone : r.zone ≠ none) (status : Option ReplyStatus) : HeadLaw (missedRecord r status) := by
  obtain ⟨co, no2, coRange, no2Range, hold, -, -⟩ := law
  unfold missedRecord
  by_cases third : r.state = .valid ∧ 3 ≤ r.misses + 1
  · rw [if_pos third]
    rw [third.1] at co no2 hold
    exact ⟨co, no2, coRange, no2Range, hold, Nat.min_le_left _ _, fun out => absurd out zone⟩
  · rw [if_neg third]
    exact ⟨co, no2, coRange, no2Range, hold, Nat.min_le_left _ _, fun out => absurd out zone⟩

theorem missed_lost (r : HeadRecord) (status : Option ReplyStatus) : (missedRecord r status).lost = r.lost := by
  unfold missedRecord HeadRecord.lost
  dsimp only
  split
  · next third => rw [third.1]; rfl
  · rfl

theorem lost_headLaw (law : HeadLaw r) (counts : r.state.counts = true) : HeadLaw { r with state := .lost, hold := none } := by
  have waiting : r.state ≠ .waiting := fun k => by rw [k] at counts; exact nomatch counts
  have zone := law.zone_of_state waiting
  obtain ⟨co, no2, coRange, no2Range, -, misses, -⟩ := law
  rw [decide_eq_false waiting] at co no2
  exact ⟨co, no2, coRange, no2Range, rfl, misses, fun out => absurd out zone⟩

theorem inForce_headLaw (law : HeadLaw r) (zone : Option Zone) : HeadLaw (headInForce r zone) := by
  unfold headInForce headApplied
  split
  · exact law
  · split
    · exact initial_headLaw none
    · next named =>
      obtain ⟨co, no2, coRange, no2Range, hold, misses, -⟩ := law
      exact ⟨co, no2, coRange, no2Range, hold, misses, fun out => absurd out named⟩

/-- Whether a zone is blind follows from the zones of the heads and from which of them are LOST (R131). -/
theorem blind_congr {heads heads' : Vector HeadRecord 32} (zones : ∀ h : HeadAddr, heads'[h].zone = heads[h].zone)
    (lost : ∀ h : HeadAddr, heads'[h].lost = heads[h].lost) (z : Zone) : blind heads' z = blind heads z := by
  unfold blind
  simp only [zones, lost]

theorem heads_set (heads : Vector HeadRecord 32) (h k : HeadAddr) (r : HeadRecord) :
    (heads.set h r)[k] = if k = h then r else heads[k] := by
  by_cases same : k = h
  · rw [if_pos same, same]
    exact heads_set_self heads h r
  · rw [if_neg same]
    exact Vector.getElem_set_ne h.isLt k.isLt fun eq => same (Fin.ext eq.symm)

/-- A head's record replaced, in its zone, with the ZONE-BLIND conditions that go with it. -/
theorem withHead_law (law : SensorLaw l) (head : HeadLaw r) (zone : r.zone = l.heads[h].zone) {blinds : Vector Bool 8}
    (follows : ∀ z : Zone, blinds[z] = blind (l.heads.set h r) z) (window : Option HeadAddr) (open_ : window = none ∨ window = l.window) :
    SensorLaw { l with heads := l.heads.set h r, zoneBlind := blinds, window := window } := by
  obtain ⟨heads, polled, -⟩ := law
  have zones (k : HeadAddr) : (l.heads.set h r)[k].zone = l.heads[k].zone := by
    rw [heads_set]
    split
    · next same => rw [same]; exact zone
    · rfl
  refine ⟨fun k => ?_, fun k due => ?_, follows⟩
  · show HeadLaw (l.heads.set h r)[k]
    rw [heads_set]
    split
    · exact head
    · exact heads k
  · show (l.heads.set h r)[k].zone.isSome = true
    rw [zones]
    refine polled k (due.imp_right fun here => ?_)
    rcases open_ with closed | same
    · exact nomatch closed.symm.trans here
    · exact same.symm.trans here

/-- ZONE-BLIND assessed for a head's zone follows the heads again (R131). -/
theorem assessed_follows (law : SensorLaw l) (zone : r.zone = l.heads[h].zone) (z : Zone) :
    (blindAssessed (l.withHead h r) l.heads[h].zone)[z] = blind (l.heads.set h r) z := by
  obtain ⟨-, -, blinds⟩ := law
  refine assessed_zoneBlind (l.withHead h r) l.heads[h].zone z fun other => ?_
  exact (blinds z).trans (blind_set_other l.heads h r other (by rw [zone]; exact other)).symm

/-- A head that is LOST neither before nor after has no part in a change of ZONE-BLIND (R131). -/
theorem stands_follows (law : SensorLaw l) (zone : r.zone = l.heads[h].zone) (lost : r.lost = l.heads[h].lost) (z : Zone) :
    l.zoneBlind[z] = blind (l.heads.set h r) z := by
  obtain ⟨-, -, blinds⟩ := law
  refine (blinds z).trans (blind_congr (fun k => ?_) (fun k => ?_) z).symm <;> rw [heads_set] <;> split
  · next same => rw [same]; exact zone
  · rfl
  · next same => rw [same]; exact lost
  · rfl

theorem goodReply_follows (law : SensorLaw l) (zone : r.zone = l.heads[h].zone) (sees : r.state = .valid) (z : Zone) :
    (blindAfterGood l h l.heads[h] r)[z] = blind (l.heads.set h r) z := by
  unfold blindAfterGood
  by_cases lost : l.heads[h].state = .lost
  · rw [if_pos lost]
    exact assessed_follows law zone z
  · rw [if_neg lost]
    refine stands_follows law zone ?_ z
    have before : l.heads[h].lost = false := Bool.eq_false_iff.mpr fun k => lost ((HeadRecord.lost_iff _).mp k)
    rw [before, HeadRecord.lost, sees]
    rfl

/-! ### The events of the sensor line -/

theorem cycleStarted_law {hs : List HeadAddr} (law : SensorLaw l) (all : ∀ h : HeadAddr, h ∈ hs) (cfg : Cfg) :
    SensorLaw (cycleStarted cfg l hs) := by
  obtain ⟨heads, polled, blinds⟩ := law
  have zone (h : HeadAddr) : (cycleStarted cfg l hs).heads[h].zone = cfg.heads[h] := by
    rw [cycleStarted_head cfg l (all h), headInForce_zone]
  refine ⟨fun h => ?_, fun h due => ?_, linesApplied_blind blinds hs⟩
  · rw [cycleStarted_head cfg l (all h)]
    exact inForce_headLaw (heads h) _
  · rw [zone]
    rcases due with due | open_
    · exact (List.mem_filter.mp due).2
    · cases window : l.window with
      | none => exact nomatch (linesApplied_window_none (cfg := cfg) window hs).symm.trans open_
      | some k =>
        have stays := linesApplied_window_some (cfg := cfg) window (polled k (.inr window)) hs
        have here := stays.symm.trans open_
        split at here
        · exact nomatch here
        · next kept =>
          obtain rfl := Option.some.inj here
          exact Option.isSome_iff_ne_none.mpr fun empty => kept ⟨all k, empty⟩

theorem headPoll_law (power : s.powered = true) (law : SensorLaw s.sensors) (next : exec .headPoll s = .next t) : SensorLaw t.sensors := by
  cases window : s.sensors.window with
  | some h =>
    obtain rfl := Host.Outcome.next.inj ((headPoll_waits power (.inl (by rw [window]; nofun))).symm.trans next)
    exact law
  | none =>
    cases due : s.sensors.due with
    | nil =>
      obtain rfl := Host.Outcome.next.inj ((headPoll_waits power (.inr due)).symm.trans next)
      exact law
    | cons h rest =>
      obtain rfl := Host.Outcome.next.inj ((headPoll_opens power window due).symm.trans next)
      obtain ⟨heads, polled, blinds⟩ := law
      refine ⟨heads, fun k here => polled k (.inl ?_), blinds⟩
      rw [due]
      rcases here with here | here
      · exact List.mem_cons_of_mem _ here
      · exact Option.some.inj here ▸ List.mem_cons_self

theorem endedBy_miss_law (law : SensorLaw l) (window : l.window = some h) (status : Option ReplyStatus) :
    SensorLaw { l with heads := l.heads.set h (missedRecord l.heads[h] status), window := none } := by
  have zone : l.heads[h].zone ≠ none := Option.isSome_iff_ne_none.mp (law.2.1 h (.inr window))
  exact withHead_law law (missed_headLaw (law.1 h) zone status) rfl (stands_follows law rfl (missed_lost _ status)) none (.inl rfl)

theorem headReply_law (power : s.powered = true) (law : SensorLaw s.sensors) {address : Nat} {status : ReplyStatus} {rawCo rawNo2 : Int}
    {checkHolds : Bool} (next : exec (.headReply address status rawCo rawNo2 checkHolds) s = .next t) : SensorLaw t.sensors := by
  cases window : s.sensors.window with
  | none =>
    have closed : (s.taken (.headReply address status rawCo rawNo2 checkHolds)).sensors.window = none := window
    have run := (onEvent_of_powered power : execHeadReply address status rawCo rawNo2 checkHolds s = _)
    simp only [closed] at run
    obtain rfl := Host.Outcome.next.inj (run.symm.trans next)
    exact law
  | some h =>
    by_cases taken : checkHolds = true ∧ address = h.val
    · obtain ⟨rfl, rfl⟩ := taken
      have zone : s.sensors.heads[h].zone ≠ none := Option.isSome_iff_ne_none.mp (law.2.1 h (.inr window))
      have good (drift : Bool) (run : exec (.headReply h.val (if drift then .drift else .ok) rawCo rawNo2 true) s = .next t) :
          SensorLaw t.sensors := by
        obtain rfl := Host.Outcome.next.inj ((exec_headReply_good power window drift).symm.trans run)
        exact withHead_law law (goodReply_headLaw s h drift rawCo rawNo2 (law.1 h) zone) rfl (goodReply_follows law rfl rfl) none (.inl rfl)
      have missed (fault : Bool) (run : exec (.headReply h.val (if fault then .fault else .warming) rawCo rawNo2 true) s = .next t) :
          SensorLaw t.sensors := by
        obtain rfl := Host.Outcome.next.inj ((exec_headReply_missed power window fault).symm.trans run)
        exact endedBy_miss_law law window _
      cases status with
      | ok => exact good false next
      | drift => exact good true next
      | warming => exact missed false next
      | fault => exact missed true next
    · have bad : checkHolds = false ∨ address ≠ h.val := by
        rcases not_and_or.mp taken with k | k
        · exact .inl (Bool.eq_false_iff.mpr k)
        · exact .inr k
      obtain rfl := Host.Outcome.next.inj ((exec_headReply_discarded power window status bad).symm.trans next)
      exact law

theorem replyWindowEnd_law (power : s.powered = true) (law : SensorLaw s.sensors) (next : exec .replyWindowEnd s = .next t) :
    SensorLaw t.sensors := by
  cases window : s.sensors.window with
  | none =>
    have closed : (s.taken .replyWindowEnd).sensors.window = none := window
    have run := (onEvent_of_powered power : execReplyWindowEnd s = _)
    simp only [closed] at run
    obtain rfl := Host.Outcome.next.inj (run.symm.trans next)
    exact law
  | some h =>
    obtain rfl := Host.Outcome.next.inj ((exec_replyWindowEnd power window).symm.trans next)
    exact endedBy_miss_law law window none

theorem holdTimerExpiry_law (power : s.powered = true) (law : SensorLaw s.sensors) (next : exec (.holdTimerExpiry h) s = .next t) :
    SensorLaw t.sensors := by
  have hold := (law.1 h).hold_isSome
  cases runs : s.sensors.heads[h].hold with
  | none =>
    have idle : ¬ (s.taken (.holdTimerExpiry h)).sensors.heads[h].hold.isSome = true :=
      fun k => by rw [show (s.taken (.holdTimerExpiry h)).sensors.heads[h].hold = none from runs] at k; exact nomatch k
    have run := (onEvent_of_powered power : execHoldTimerExpiry h s = _)
    rw [if_neg idle] at run
    obtain rfl := Host.Outcome.next.inj (run.symm.trans next)
    exact law
  | some n =>
    have counts : s.sensors.heads[h].state.counts = true := by rw [← hold, runs]; rfl
    obtain rfl := Host.Outcome.next.inj ((exec_holdTimerExpiry power runs ((HeadState.counts_iff _).mp counts)).symm.trans next)
    exact withHead_law law (lost_headLaw (law.1 h) counts) rfl (assessed_follows law rfl) s.sensors.window (.inr rfl)

/-- Every command keeps the law of the sensor line. -/
theorem sensorLaw_kept (i : Instr) : Keeps (fun s => SensorLaw s.sensors ∧ StoreLaw s.store) i := by
  refine partLaw_kept sensorLaw_reads (by simp [apartFrom]) (fun s law => law.sensors) (fun i touched write byte start s t power law next => ?_) i
  cases i with
  | pollCycleStart =>
    obtain ⟨hs, every⟩ : ∃ hs, allHeads = hs := ⟨_, rfl⟩
    obtain rfl := Host.Outcome.next.inj ((pollCycleStart_eq power every).symm.trans next)
    exact cycleStarted_law law (fun h => every ▸ List.mem_finRange h) _
  | headPoll => exact headPoll_law power law next
  | headReply => exact headReply_law power law next
  | replyWindowEnd => exact replyWindowEnd_law power law next
  | holdTimerExpiry h => exact holdTimerExpiry_law power law next
  | powerOn => exact absurd rfl start.1
  | resetLineRelease => exact absurd rfl start.2
  | supervisoryByteReceived b => exact absurd rfl (byte b)
  | _ => exact absurd (by simp [touches]) touched

theorem downIf_isSome (timer : Option Nat) : (downIf timer).isSome = timer.isSome := by cases timer <;> rfl

theorem tick_sensorLaw (law : SensorLaw s.sensors) : SensorLaw s.tick.sensors := by
  obtain ⟨heads, polled, blinds⟩ := law
  refine ⟨fun h => ?_, fun h due => ?_, fun z => (blinds z).trans (blind_congr (fun k => ?_) (fun k => ?_) z).symm⟩
  · obtain ⟨co, no2, coRange, no2Range, hold, misses, unused⟩ := heads h
    rw [tick_head]
    refine ⟨co, no2, coRange, no2Range, (downIf_isSome _).trans hold, misses, fun out => ?_⟩
    have empty := unused out
    show { s.sensors.heads[h] with hold := downIf s.sensors.heads[h].hold } = _
    rw [empty]
    rfl
  · rw [tick_head]
    exact polled h due
  · rw [tick_head]
  · rw [tick_head]
    rfl

end Sys2Proof.Machine

/-!
The laws of the Zone Units are kept by every command (R33, R54, R57).
-/

namespace Sys2Proof.Machine

open State

variable {s t : State} {i : Instr} {z : Zone} {u : ZoneUnit}

/-- The laws of all Zone Units. -/
def ZonesLaw (s : State) : Prop := ∀ z : Zone, ZoneLaw s.zones[z]

theorem Lawful.zones (law : Lawful s) : ZonesLaw s := by
  obtain ⟨-, zones, -⟩ := law
  exact zones

theorem zonesLaw_reads : Reads [.zones] ZonesLaw := by
  intro s t same law z
  rw [show t.zones = s.zones from same .zones (by simp)]
  exact law z

/-! ### One unit replaced -/

theorem setZone_law (law : ZonesLaw s) (own : ZoneLaw u) (l : List Instr) : ZonesLaw ((s.setZone z u).emit l) := by
  intro y
  show ZoneLaw (s.zones.set z u)[y]
  by_cases same : y = z
  · subst same
    rw [show (s.zones.set y u)[y] = u from Vector.getElem_set_self _]
    exact own
  · rw [show (s.zones.set z u)[y] = s.zones[y] from Vector.getElem_set_ne z.isLt y.isLt fun k => same (Fin.ext k.symm)]
    exact law y

/-- An evaluation event leaves a GATHERING zone (R33). -/
theorem eventTaken_law (law : ZoneLaw u) : ZoneLaw (eventTaken u) := by
  obtain ⟨delay, idle⟩ := law
  unfold eventTaken
  split
  · exact ⟨delay, nofun⟩
  · next busy => exact ⟨delay, fun k => absurd k busy⟩

theorem evaluationEvent_law (law : ZonesLaw s) (own : ZoneLaw u) : ZonesLaw (evaluationEvent z (s.setZone z u)) := by
  have before : ZonesLaw (s.setZone z u) := emit_nil (s := s.setZone z u) ▸ setZone_law law own []
  rw [evaluationEvent_eq]
  exact setZone_law before (eventTaken_law (before z)) _

/-- The latch is clear only with the clear delay idle (R57). -/
theorem updateLatch_idle (cfg : Cfg) (co no2 : Option Nat) (latch : Bool) (delay : ClearDelay)
    (clear : (updateLatch cfg co no2 latch delay).1 = false) : (updateLatch cfg co no2 latch delay).2 = .idle := by
  unfold updateLatch at *
  cases latch with
  | false => rfl
  | true =>
    rw [if_pos rfl] at *
    split
    · next low =>
      rw [if_pos low] at clear
      cases delay with
      | idle => exact nomatch clear
      | running n => exact nomatch clear
      | runOut => rfl
    · rfl

/-- A completed evaluation leaves no discarded answer, and no again flag at an IDLE zone (R33, R57). -/
theorem finished_law (answer : RosterAnswer) (kept : s.zones[z].abandoned = false) : ZoneLaw (finished (evaluated s z answer)) := by
  obtain ⟨state, eq⟩ := finished_eq (evaluated s z answer)
  rw [eq]
  exact ⟨fun clear => updateLatch_idle _ _ _ _ _ clear, fun _ => ⟨rfl, kept⟩⟩

theorem initial_zoneLaw (quietEntry : Nat) (abandoned : Bool) : ZoneLaw { ZoneUnit.initial quietEntry with abandoned := abandoned } :=
  ⟨fun _ => rfl, nofun⟩

/-! ### The events of a Zone Unit -/

theorem evaluationComplete_law (power : s.powered = true) (law : ZonesLaw s) {answer : RosterAnswer}
    (next : exec (.evaluationComplete z answer) s = .next t) : ZonesLaw t := by
  obtain rfl := Host.Outcome.next.inj ((onEvent_of_powered power : execEvaluationComplete z answer s = _).symm.trans next)
  dsimp only
  split
  · exact law
  · next gathers =>
    split
    · refine setZone_law (s := s.taken _) law ?_ _
      obtain ⟨delay, -⟩ := law z
      exact ⟨delay, fun idle => nomatch gathers.symm.trans idle⟩
    · next kept =>
      rw [completeEvaluation_eq]
      exact setZone_law (s := s.taken _) law (finished_law answer (Bool.eq_false_iff.mpr kept)) _

theorem clearDelayRunOut_law (power : s.powered = true) (law : ZonesLaw s) (next : exec (.clearDelayRunOut z) s = .next t) : ZonesLaw t := by
  obtain rfl := Host.Outcome.next.inj ((onEvent_of_powered power : execClearDelayRunOut z s = _).symm.trans next)
  dsimp only
  split
  · next runs =>
    refine evaluationEvent_law (s := s.taken _) law ?_
    obtain ⟨delay, idle⟩ := law z
    exact ⟨fun clear => (nomatch runs.symm.trans (delay clear)), idle⟩
  · exact law

theorem zoneRestart_law (power : s.powered = true) (law : ZonesLaw s) (next : exec (.zoneRestart z) s = .next t) : ZonesLaw t := by
  obtain rfl := Host.Outcome.next.inj ((onEvent_of_powered power : execZoneRestart z s = _).symm.trans next)
  dsimp only
  rw [reportChange_eq]
  split
  · exact setZone_law (s := s.taken _) law (initial_zoneLaw _ true) _
  · rw [emit_setZone, emit_emit]
    exact setZone_law (s := s.taken _) law (initial_zoneLaw _ false) _

/-- A quiet timer that runs out changes the quiet phase alone, in which the law has no part (R65). -/
theorem quietRunOut_law (law : ZonesLaw s) (quiet : QuietPhase) : ZonesLaw (evaluationEvent z (s.setZone z { s.zones[z] with quiet := quiet })) :=
  evaluationEvent_law law (law z)

theorem quietEntryTimerExpiry_law (power : s.powered = true) (law : ZonesLaw s) (next : exec (.quietEntryTimerExpiry z) s = .next t) :
    ZonesLaw t := by
  obtain rfl := Host.Outcome.next.inj ((onEvent_of_powered power : execQuietEntryTimerExpiry z s = _).symm.trans next)
  dsimp only
  split
  · exact quietRunOut_law (s := s.taken _) law _
  · exact law

theorem pulseTimerExpiry_law (power : s.powered = true) (law : ZonesLaw s) (next : exec (.pulseTimerExpiry z) s = .next t) : ZonesLaw t := by
  obtain rfl := Host.Outcome.next.inj ((onEvent_of_powered power : execPulseTimerExpiry z s = _).symm.trans next)
  dsimp only
  split
  · exact quietRunOut_law (s := s.taken _) law _
  · exact law

theorem spaceTimerExpiry_law (power : s.powered = true) (law : ZonesLaw s) (next : exec (.spaceTimerExpiry z) s = .next t) : ZonesLaw t := by
  obtain rfl := Host.Outcome.next.inj ((onEvent_of_powered power : execSpaceTimerExpiry z s = _).symm.trans next)
  dsimp only
  split
  · exact quietRunOut_law (s := s.taken _) law _
  · exact law

/-- Every command keeps the laws of the Zone Units. -/
theorem zonesLaw_kept (i : Instr) : Keeps (fun s => ZonesLaw s ∧ StoreLaw s.store) i := by
  refine partLaw_kept zonesLaw_reads (by simp [apartFrom]) (fun s law => law.zones) (fun i touched write byte start s t power law next => ?_) i
  cases i with
  | evaluationComplete => exact evaluationComplete_law power law next
  | evaluationTimerExpiry z =>
    obtain rfl := Host.Outcome.next.inj ((onEvent_of_powered power : execEvaluationTimerExpiry z s = _).symm.trans next)
    exact evaluationEvent_law (s := s.taken _) law (law z)
  | evaluationRequest z =>
    obtain rfl := Host.Outcome.next.inj ((onEvent_of_powered power : execEvaluationRequest z s = _).symm.trans next)
    rw [evaluationEvent_eq]
    exact setZone_law (s := s.taken _) law (eventTaken_law (law z)) _
  | standbyClearedReport z =>
    obtain rfl := Host.Outcome.next.inj ((onEvent_of_powered power : execStandbyClearedReport z s = _).symm.trans next)
    exact evaluationEvent_law (s := s.taken _) law (law z)
  | clearDelayRunOut => exact clearDelayRunOut_law power law next
  | quietEntryTimerExpiry => exact quietEntryTimerExpiry_law power law next
  | pulseTimerExpiry => exact pulseTimerExpiry_law power law next
  | spaceTimerExpiry => exact spaceTimerExpiry_law power law next
  | zoneRestart => exact zoneRestart_law power law next
  | powerOn => exact absurd rfl start.1
  | resetLineRelease => exact absurd rfl start.2
  | supervisoryByteReceived b => exact absurd rfl (byte b)
  | _ => exact absurd (by simp [touches]) touched

theorem tick_zonesLaw (law : ZonesLaw s) : ZonesLaw s.tick := by
  intro z
  obtain ⟨delay, idle⟩ := law z
  rw [tick_zone]
  exact ⟨fun clear => (congrArg ClearDelay.tick (delay clear)).trans rfl, idle⟩

end Sys2Proof.Machine

/-!
The laws of the dampers and the gates are kept by every command (R99 to R109).
-/

namespace Sys2Proof.Machine

open State

variable {s t : State} {i : Instr} {z : Zone} {c : Chan} {f : Feed} {d : DamperRecord} {g : GateRecord}

/-- The laws of all dampers and gates: the ways the fans blow through. -/
def WaysLaw (s : State) : Prop := (∀ z : Zone, DamperLaw s.dampers[z]) ∧ ∀ c : Chan, GateLaw s.gates[c]

theorem Lawful.ways (law : Lawful s) : WaysLaw s := by
  obtain ⟨-, -, -, dampers, gates, -⟩ := law
  exact ⟨dampers, gates⟩

theorem waysLaw_reads : Reads [.dampers, .gates] WaysLaw := by
  intro s t same law
  unfold WaysLaw
  rw [show t.dampers = s.dampers from same .dampers (by simp), show t.gates = s.gates from same .gates (by simp)]
  exact law

/-- What touches only fans and queues keeps the ways. -/
theorem WaysLaw.fans_changed (law : WaysLaw s) (frame : onlyChanges [.fans, .queueA, .queueB, .inFlight] s t) : WaysLaw t :=
  waysLaw_reads.kept (by simp) frame law

theorem WaysLaw.emit (law : WaysLaw s) (l : List Instr) : WaysLaw (s.emit l) := law

/-! ### One record replaced -/

theorem setDamper_law (law : WaysLaw s) (own : DamperLaw d) : WaysLaw (s.setDamper z d) := by
  obtain ⟨dampers, gates⟩ := law
  refine ⟨fun y => ?_, gates⟩
  show DamperLaw (s.dampers.set z d)[y]
  by_cases same : y = z
  · subst same
    rw [show (s.dampers.set y d)[y] = d from Vector.getElem_set_self _]
    exact own
  · rw [show (s.dampers.set z d)[y] = s.dampers[y] from Vector.getElem_set_ne z.isLt y.isLt fun k => same (Fin.ext k.symm)]
    exact dampers y

theorem setGate_law (law : WaysLaw s) (own : GateLaw g) : WaysLaw (s.setGate c g) := by
  obtain ⟨dampers, gates⟩ := law
  refine ⟨dampers, fun e => ?_⟩
  show GateLaw (s.gates.set c g)[e]
  by_cases same : e = c
  · subst same
    rw [show (s.gates.set e g)[e] = g from Vector.getElem_set_self _]
    exact own
  · rw [show (s.gates.set c g)[e] = s.gates[e] from Vector.getElem_set_ne c.isLt e.isLt fun k => same (Fin.ext k.symm)]
    exact gates e

/-- A damper that moves is lawful with a timer exactly while it travels: its condition follows its state (R104). -/
theorem movedRecord_law {state : DamperState} {timer : Option Nat} (travels : timer.isSome = true ↔ state = .opening ∨ state = .closing) :
    DamperLaw (movedRecord d state timer) :=
  ⟨travels, fun jammed => congrArg (jamAfter d.jamCondition) jammed, fun rests => by
    rcases rests with rests | rests
    · exact congrArg (jamAfter d.jamCondition) rests
    · exact congrArg (jamAfter d.jamCondition) rests⟩

theorem movedRecord_rests {state : DamperState} (opening : state ≠ .opening) (closing : state ≠ .closing) :
    DamperLaw (movedRecord d state none) :=
  movedRecord_law ⟨fun runs => (nomatch runs), fun travels => absurd travels (not_or.mpr ⟨opening, closing⟩)⟩

theorem openMove_travels (s : State) (z : Zone) :
    (openMove s z).2.isSome = true ↔ (openMove s z).1 = .opening ∨ (openMove s z).1 = .closing := by
  unfold openMove
  split <;> simp

theorem closeMove_travels (s : State) (z : Zone) :
    (closeMove s z).2.isSome = true ↔ (closeMove s z).1 = .opening ∨ (closeMove s z).1 = .closing := by
  unfold closeMove
  split <;> simp

/-- A gate in use that moves is lawful with a timer exactly while it travels: its condition follows its state (R108). -/
theorem movedGate_law {state : GateState} {timer : Option Nat} (inUse : g.inUse = true)
    (travels : timer.isSome = true ↔ state = .travelling) : GateLaw (movedGate g state timer) := by
  refine ⟨travels, fun jammed => congrArg (gateJamAfter g.jamCondition) jammed, fun rests => ?_, fun out => nomatch inUse.symm.trans out⟩
  show gateJamAfter g.jamCondition state = false
  replace rests : state.isAt = true ∨ state = .closed := rests
  rcases rests with at_ | closed
  · cases state with
    | atZone z => rfl
    | _ => exact nomatch at_
  · rw [closed]
    rfl

theorem movedGate_rests {state : GateState} (inUse : g.inUse = true) (rests : state ≠ .travelling) : GateLaw (movedGate g state none) :=
  movedGate_law inUse ⟨fun runs => (nomatch runs), fun travels => absurd travels rests⟩

/-- A gate in use stays lawful whatever it is told and remembers: the law reads its position alone. -/
theorem GateLaw.told (law : GateLaw g) (inUse : g.inUse = true) (target output : GateTarget) (pending answered : Bool) (report : FanState) :
    GateLaw { g with target := target, output := output, pending := pending, answered := answered, lastReport := report } := by
  obtain ⟨travels, jammed, rests, -⟩ := law
  exact ⟨travels, jammed, rests, fun out => nomatch inUse.symm.trans out⟩

theorem targetReached_law (law : GateLaw g) (inUse : g.inUse = true) (wasPending : Bool) : GateLaw (targetReached c g wasPending).1 := by
  unfold targetReached
  split
  · exact law.told inUse g.target g.output false g.answered g.lastReport
  · exact movedGate_law inUse (by simp)

/-! ### The examination of a queue -/

/-- A path that is open is an OPEN damper's or a gate's in use: the answer is recorded there and changes no position (R102, R107). -/
theorem recordAnswer_law (law : WaysLaw s) (isOpen : pathOpen s c = true) : WaysLaw (recordAnswer s c) := by
  unfold recordAnswer
  unfold pathOpen at isOpen
  split
  · next z _ => exact setDamper_law law (law.1 z)
  · next role =>
    rw [role] at isOpen
    dsimp only at isOpen
    have inUse : s.gates[c].inUse = true := by
      by_contra out
      obtain ⟨-, -, -, unused⟩ := law.2 c
      rw [unused (Bool.eq_false_iff.mpr out)] at isOpen
      split at isOpen
      · exact nomatch isOpen
      · exact nomatch isOpen
    exact setGate_law law ((law.2 c).told inUse _ _ _ true _)
  · exact law

theorem startFan_law (law : WaysLaw s) (isOpen : pathOpen s c = true) : WaysLaw (startFan s c) :=
  (recordAnswer_law law isOpen).fans_changed
    (onlyChanges_trans (onlyChanges_mono (leaveQueue_onlyChanges _ _) (by simp))
      (onlyChanges_trans (onlyChanges_mono (setQueue_onlyChanges _ _ _) (by simp)) (onlyChanges_mono (changeFan_onlyChanges _ _ _) (by simp))))

theorem examine_law (law : WaysLaw s) (f : Feed) : WaysLaw (examine s f) := by
  unfold examine
  split
  · exact law
  · split
    · next c found =>
      exact startFan_law law (List.find?_some found)
    · exact law

theorem examineTouched_law (law : WaysLaw s) (l : List Feed) : WaysLaw (examineTouched l s) := by
  have first : WaysLaw (if l.contains .a then examine s .a else s) := by
    split
    · exact examine_law law .a
    · exact law
  unfold examineTouched
  dsimp only
  split
  · exact examine_law first .b
  · exact first

/-! ### The fans' events -/

theorem finishRundown_law (law : WaysLaw s) (c : Chan) : WaysLaw (finishRundown s c) := by
  have ended : WaysLaw (endRundown s c) := law.fans_changed (endRundown_onlyChanges s c)
  unfold finishRundown
  dsimp only
  split
  · exact examine_law ended _
  · exact ended

theorem gateInStarting_law (law : WaysLaw s) (c : Chan) (r : FanRecord) : WaysLaw (gateInStarting s c r) := by
  have stored (r : FanRecord) : WaysLaw (s.setFan c r) := law.fans_changed (onlyChanges_mono (setFan_onlyChanges _ _ _) (by simp))
  unfold gateInStarting
  split
  · split
    · refine examine_law (law.fans_changed ?_) _
      exact onlyChanges_trans (onlyChanges_mono (changeFan_onlyChanges _ _ _) (by simp))
        (onlyChanges_trans (onlyChanges_mono (reportChange_onlyChanges _ _ _ _ _) (by simp))
          (onlyChanges_trans (onlyChanges_mono (emit_onlyChanges _ _) (by simp)) (onlyChanges_mono (releasePermit_onlyChanges _ _) (by simp))))
    · exact stored _
  · exact stored _

theorem gateInRunning_law (law : WaysLaw s) (c : Chan) (r : FanRecord) : WaysLaw (gateInRunning s c r) := by
  have stored (r : FanRecord) : WaysLaw (s.setFan c r) := law.fans_changed (onlyChanges_mono (setFan_onlyChanges _ _ _) (by simp))
  unfold gateInRunning
  split
  · exact stored _
  · split
    · split
      · exact law.fans_changed (onlyChanges_mono (stopFan_onlyChanges _ _ _ _) (by simp))
      · exact stored _
    · exact stored _

theorem tachGateComplete_law (power : s.powered = true) (law : WaysLaw s) {edges : Nat} (next : exec (.tachGateComplete c edges) s = .next t) :
    WaysLaw t := by
  obtain rfl := Host.Outcome.next.inj ((onEvent_of_powered power : execTachGateComplete c edges s = _).symm.trans next)
  have law : WaysLaw (s.taken (.tachGateComplete c edges)) := law
  have stored (r : FanRecord) : WaysLaw ((s.taken (.tachGateComplete c edges)).setFan c r) :=
    law.fans_changed (onlyChanges_mono (setFan_onlyChanges _ _ _) (by simp))
  dsimp only
  split
  · exact gateInStarting_law law c _
  · exact gateInRunning_law law c _
  · split
    · exact finishRundown_law (stored _) c
    · exact stored _
  · exact stored _

/-- A standby fan's gate in use, or one out of use, is lawful as the role brings it (R106). -/
theorem syncGate_law (law : WaysLaw s) (c : Chan) : WaysLaw (syncGate s c) := by
  unfold syncGate
  split
  · exact setGate_law law (gateFromFeedback_law _ _)
  · exact law
  · rw [reportChange_eq]
    exact (setGate_law law unused_gateLaw).emit _
  · exact law

theorem enterService_law (law : WaysLaw s) (c : Chan) : WaysLaw (enterService s c) := by
  have left (r : FanRecord) : WaysLaw (changeFan (leaveQueue s c) c r) :=
    law.fans_changed (onlyChanges_trans (onlyChanges_mono (leaveQueue_onlyChanges _ _) (by simp))
      (onlyChanges_mono (changeFan_onlyChanges _ _ _) (by simp)))
  unfold enterService
  dsimp only
  split
  · exact examine_law ((left _).fans_changed (onlyChanges_mono (releasePermit_onlyChanges _ _) (by simp))) _
  · exact left _

theorem clearFan_law (law : WaysLaw s) (c : Chan) (target : FanTarget) : WaysLaw (clearFan s c target) :=
  law.fans_changed (onlyChanges_mono (clearFan_onlyChanges _ _ _) (by simp))

theorem serviceOff_law (law : WaysLaw s) (c : Chan) : WaysLaw (serviceOff s c) := by
  have released : WaysLaw (releaseLocked s c) := by
    unfold releaseLocked
    dsimp only
    split
    · exact examine_law ((clearFan_law law c _).fans_changed (joinQueue_onlyChanges _ _ _)) _
    · exact clearFan_law law c _
  unfold serviceOff
  split
  · exact syncGate_law (clearFan_law law c .off) c
  · exact released
  · exact released
  · exact law

theorem fanServiceAt_law (law : WaysLaw s) (channel setting : Nat) : WaysLaw (fanServiceAt s channel setting).1 := by
  unfold fanServiceAt
  split
  · exact law
  · next c _ =>
    split
    · exact serviceOff_law law c
    · show WaysLaw (serviceOn s c)
      unfold serviceOn
      split
      · exact law
      · exact enterService_law law c
    · exact law

/-! ### The dampers' events -/

theorem requestTaken_law (own : DamperLaw s.dampers[z]) (request : DamperRequest) : DamperLaw (requestTaken s z request).1 := by
  unfold requestTaken
  dsimp only
  split
  · exact own
  · split
    · split
      · exact own
      · split
        · exact movedRecord_law (closeMove_travels s z)
        · exact own
    · split
      · exact own
      · exact movedRecord_law (openMove_travels s z)

theorem damperRequest_law (power : s.powered = true) (law : WaysLaw s) {request : DamperRequest}
    (next : exec (.damperRequest z request) s = .next t) : WaysLaw t := by
  obtain ⟨stays, taken⟩ := execDamperRequest_eq power z request
  by_cases same : s.dampers[z].request = request
  · obtain rfl := Host.Outcome.next.inj ((stays same).symm.trans next)
    exact law
  · obtain rfl := Host.Outcome.next.inj ((taken same).symm.trans next)
    have law : WaysLaw (s.taken (.damperRequest z request)) := law
    exact (setDamper_law law (requestTaken_law (law.1 z) request)).emit _

/-- A reading that changes a damper's state brings it to rest or jams it (R103). -/
theorem afterSwitch_rests {state : DamperState} {request : DamperRequest} {r : SwitchReading} (moves : afterSwitch state request r ≠ state) :
    afterSwitch state request r ≠ .opening ∧ afterSwitch state request r ≠ .closing := by
  obtain ⟨closed, opened, opening, closing, jammed⟩ := afterSwitch_table request r
  cases state with
  | closed => rw [closed]; split <;> exact ⟨nofun, nofun⟩
  | opened => rw [opened]; split <;> exact ⟨nofun, nofun⟩
  | jammed => rw [jammed]; split <;> [skip; split] <;> exact ⟨nofun, nofun⟩
  | opening =>
    rw [opening] at moves ⊢
    split at moves
    · next full => rw [if_pos full]; exact ⟨nofun, nofun⟩
    · exact absurd rfl moves
  | closing =>
    rw [closing] at moves ⊢
    split at moves
    · next full => rw [if_pos full]; exact ⟨nofun, nofun⟩
    · exact absurd rfl moves

theorem endSwitchChange_law (power : s.powered = true) (law : WaysLaw s) {openSwitch closedSwitch : Bool}
    (next : exec (.endSwitchChange z openSwitch closedSwitch) s = .next t) : WaysLaw t := by
  obtain ⟨unchanged, changed⟩ := execEndSwitchChange_eq power z openSwitch closedSwitch
  have law' : WaysLaw (switched s (.endSwitchChange z openSwitch closedSwitch) z openSwitch closedSwitch) := law
  by_cases stays : readingOf openSwitch closedSwitch = reading s z ∨ switchedState s z openSwitch closedSwitch = s.dampers[z].state
  · obtain rfl := Host.Outcome.next.inj ((unchanged stays).symm.trans next)
    exact law'
  · obtain ⟨reads, moves⟩ := not_or.mp stays
    obtain rfl := Host.Outcome.next.inj ((changed reads moves).symm.trans next)
    obtain ⟨opening, closing⟩ := afterSwitch_rests moves
    exact (setDamper_law law' (movedRecord_rests opening closing)).emit _

theorem moveDamper_jams (law : WaysLaw s) (z : Zone) : WaysLaw (moveDamper s z s.dampers[z] .jammed none) := by
  rw [moveDamper_eq]
  exact (setDamper_law law (movedRecord_rests (state := .jammed) nofun nofun)).emit _

theorem damperTravelTimeout_law (power : s.powered = true) (law : WaysLaw s) (next : exec (.damperTravelTimeout z) s = .next t) : WaysLaw t := by
  obtain rfl := Host.Outcome.next.inj ((onEvent_of_powered power : execDamperTravelTimeout z s = _).symm.trans next)
  have law : WaysLaw (s.taken (.damperTravelTimeout z)) := law
  split
  · exact moveDamper_jams law z
  · exact moveDamper_jams law z
  · exact law

/-! ### The gates' events -/

theorem takeGateTarget_law (law : WaysLaw s) (own : GateLaw g) (inUse : g.inUse = true) (wasPending : Bool) :
    WaysLaw (takeGateTarget s c g wasPending) := by
  rw [takeGateTarget_eq]
  exact (setGate_law law (targetReached_law own inUse wasPending)).emit _

theorem gateCommand_law (power : s.powered = true) (law : WaysLaw s) {target : GateTarget}
    (next : exec (.gateCommand c target) s = .next t) : WaysLaw t := by
  obtain ⟨idle, taken⟩ := execGateCommand_eq power c target
  have law' : WaysLaw (s.taken (.gateCommand c target)) := law
  by_cases stays : s.gates[c].inUse = false ∨ s.gates[c].target = target ∧ s.gates[c].state ≠ .jammed
  · obtain rfl := Host.Outcome.next.inj ((idle stays).symm.trans next)
    exact law'
  · obtain ⟨unused, other⟩ := not_or.mp stays
    have inUse : s.gates[c].inUse = true := Bool.eq_true_of_not_eq_false unused
    obtain ⟨moves, waits⟩ := taken inUse other
    by_cases free : ({ s.gates[c] with target := target } : GateRecord).free = true
    · obtain rfl := Host.Outcome.next.inj ((moves free).symm.trans next)
      exact takeGateTarget_law law' ((law.2 c).told inUse target _ _ _ _) inUse false
    · obtain rfl := Host.Outcome.next.inj ((waits free).symm.trans next)
      exact setGate_law law' ((law.2 c).told inUse target _ true _ _)

/-- A band that changes a gate's state brings it to rest or jams it (R108). -/
theorem afterBand_rests {band : GateBand} (moves : afterBand g band ≠ g.state) : afterBand g band ≠ .travelling := by
  obtain ⟨moving, at_, closed⟩ := afterBand_table g band
  have target (target : GateTarget) : GateTarget.reached target ≠ .travelling := by cases target <;> nofun
  cases state : g.state with
  | atZone z => rw [at_ z state]; split <;> nofun
  | closed => rw [closed state]; split <;> nofun
  | travelling =>
    rw [moving (.inl state)] at moves ⊢
    split at moves
    · next own => rw [if_pos own]; exact target _
    · exact absurd rfl moves
  | jammed =>
    rw [moving (.inr state)]
    split
    · exact target _
    · rw [state]; nofun

theorem gateFeedbackBandChange_law (power : s.powered = true) (law : WaysLaw s) {band : GateBand}
    (next : exec (.gateFeedbackBandChange c band) s = .next t) : WaysLaw t := by
  obtain ⟨stays, moves⟩ := execGateFeedbackBandChange_eq power c band
  have law' : WaysLaw (felt s (.gateFeedbackBandChange c band) c band) := law
  by_cases rests : s.gates[c].inUse = false ∨ s.pins.feedback[c] = band ∨ afterBand s.gates[c] band = s.gates[c].state
  · obtain rfl := Host.Outcome.next.inj ((stays rests).symm.trans next)
    exact law'
  · obtain ⟨unused, other⟩ := not_or.mp rests
    obtain ⟨changed, leaves⟩ := not_or.mp other
    have inUse : s.gates[c].inUse = true := Bool.eq_true_of_not_eq_false unused
    obtain rfl := Host.Outcome.next.inj ((moves inUse changed leaves).symm.trans next)
    exact (setGate_law law' (movedGate_rests inUse (afterBand_rests leaves))).emit _

theorem gateTravelTimeout_law (power : s.powered = true) (law : WaysLaw s) (next : exec (.gateTravelTimeout c) s = .next t) : WaysLaw t := by
  obtain rfl := Host.Outcome.next.inj ((onEvent_of_powered power : execGateTravelTimeout c s = _).symm.trans next)
  have law : WaysLaw (s.taken (.gateTravelTimeout c)) := law
  dsimp only
  split
  · next travels =>
    obtain ⟨inUse, -⟩ := Bool.and_eq_true_iff.mp travels
    rw [moveGate_eq]
    exact (setGate_law law (movedGate_rests (state := .jammed) inUse nofun)).emit _
  · exact law

/-! ### The fans' state reports -/

theorem leftRecord_law (own : DamperLaw s.dampers[z]) : DamperLaw (leftRecord s c z) := by
  unfold leftRecord
  dsimp only
  split
  · split
    · exact movedRecord_law (closeMove_travels s z)
    · exact own
  · exact own

theorem leaveBlocking_law (c : Chan) (zs : List Zone) : ∀ {s : State}, WaysLaw s → WaysLaw (zs.foldl (leaveBlocking c) s) := by
  induction zs with
  | nil => exact id
  | cons z zs ih =>
    intro s law
    refine ih ?_
    rw [leaveBlocking_eq]
    exact (setDamper_law law (leftRecord_law (law.1 z))).emit _

theorem reportToDampers_law (law : WaysLaw s) (c : Chan) : WaysLaw (reportToDampers s c) := by
  unfold reportToDampers
  split
  · unfold enterBlocking
    split
    · next z _ => exact setDamper_law law (law.1 z)
    · exact law
  · exact leaveBlocking_law c allZones law

theorem reportToGate_law (law : WaysLaw s) (c : Chan) : WaysLaw (reportToGate s c) := by
  cases inUse : s.gates[c].inUse with
  | false => exact (reportToGate_unused inUse).symm ▸ law
  | true =>
    have reported : GateLaw (reportedGate s c) := (law.2 c).told inUse _ _ _ false _
    by_cases moves : s.gates[c].pending = true ∧ s.fans[c].state.letsGateMove = true
    · rw [reportToGate_moves inUse moves.1 moves.2]
      exact takeGateTarget_law law reported inUse true
    · rw [reportToGate_stores inUse moves]
      exact setGate_law law reported

theorem fanStateReport_law (power : s.powered = true) (law : WaysLaw s) (next : exec (.fanStateReport c) s = .next t) : WaysLaw t := by
  obtain rfl := Host.Outcome.next.inj ((execFanStateReport_eq power c).symm.trans next)
  refine reportToGate_law (reportToDampers_law ?_ c) c
  have law : WaysLaw (s.taken (.fanStateReport c)) := law
  unfold gateSynced
  split
  · exact law
  · exact syncGate_law law c

/-! ### Every command, and the passing of a second -/

/-- Every command keeps the laws of the dampers and the gates. -/
theorem waysLaw_kept (i : Instr) : Keeps (fun s => WaysLaw s ∧ StoreLaw s.store) i := by
  refine partLaw_kept waysLaw_reads (by simp [apartFrom]) (fun s law => law.ways) (fun i touched write byte start s t power law next => ?_) i
  have law' (i : Instr) : WaysLaw (s.taken i) := law
  cases i with
  | fanTargets z targets =>
    obtain rfl := Host.Outcome.next.inj ((onEvent_of_powered power : execFanTargets z targets s = _).symm.trans next)
    exact examineTouched_law ((law' _).fans_changed (takeTargets_onlyChanges _ _ _)) _
  | standbyOffTarget c =>
    obtain rfl := Host.Outcome.next.inj ((onEvent_of_powered power : execStandbyOffTarget c s = _).symm.trans next)
    have taken := (law' (.standbyOffTarget c)).fans_changed (takeTarget_onlyChanges _ c .off)
    dsimp only
    split
    · exact examine_law taken _
    · exact taken
  | pathCheck c =>
    obtain rfl := Host.Outcome.next.inj ((onEvent_of_powered power : execPathCheck c s = _).symm.trans next)
    dsimp only
    split
    · next first => exact startFan_law (law' _) (List.find?_some first.2)
    · exact law
  | tachGateComplete => exact tachGateComplete_law power law next
  | startWindowRunOut c =>
    obtain rfl := Host.Outcome.next.inj ((onEvent_of_powered power : execStartWindowRunOut c s = _).symm.trans next)
    split
    · refine examine_law ((law' (.startWindowRunOut c)).fans_changed ?_) _
      exact onlyChanges_trans (onlyChanges_mono (stopFan_onlyChanges _ _ _ _) (by simp)) (onlyChanges_mono (releasePermit_onlyChanges _ _) (by simp))
    · exact law
  | rundownLimitExpiry c =>
    obtain rfl := Host.Outcome.next.inj ((onEvent_of_powered power : execRundownLimitExpiry c s = _).symm.trans next)
    split
    · exact finishRundown_law (law' _) c
    · exact law
  | retryWaitExpiry c =>
    obtain rfl := Host.Outcome.next.inj ((onEvent_of_powered power : execRetryWaitExpiry c s = _).symm.trans next)
    split
    · exact examine_law ((law' (.retryWaitExpiry c)).fans_changed (joinQueue_onlyChanges _ _ _)) _
    · exact law
  | damperOpenReport z f =>
    obtain rfl := Host.Outcome.next.inj ((onEvent_of_powered power : execDamperOpenReport z f s = _).symm.trans next)
    exact examine_law (law' _) f
  | gateAtReport c f =>
    obtain rfl := Host.Outcome.next.inj ((onEvent_of_powered power : execGateAtReport c f s = _).symm.trans next)
    exact examine_law (law' _) f
  | grantReport c f =>
    obtain rfl := Host.Outcome.next.inj ((onEvent_of_powered power : execGrantReport c f s = _).symm.trans next)
    exact examine_law (law' _) f
  | fanService channel setting =>
    exact onRequest_leaves (parts := [.dampers, .gates]) (f := fun s => fanServiceAt s channel setting) waysLaw_reads (by simp) next law
      (fanServiceAt_law (law' _) channel setting)
  | damperRequest => exact damperRequest_law power law next
  | endSwitchChange => exact endSwitchChange_law power law next
  | damperTravelTimeout => exact damperTravelTimeout_law power law next
  | gateCommand => exact gateCommand_law power law next
  | gateFeedbackBandChange => exact gateFeedbackBandChange_law power law next
  | gateTravelTimeout => exact gateTravelTimeout_law power law next
  | fanStateReport => exact fanStateReport_law power law next
  | powerOn => exact absurd rfl start.1
  | resetLineRelease => exact absurd rfl start.2
  | supervisoryByteReceived b => exact absurd rfl (byte b)
  | _ => exact absurd (by simp [touches]) touched

theorem tick_waysLaw (law : WaysLaw s) : WaysLaw s.tick := by
  obtain ⟨dampers, gates⟩ := law
  refine ⟨fun z => ?_, fun c => ?_⟩
  · obtain ⟨travels, rest⟩ := dampers z
    rw [tick_damper]
    exact ⟨by rw [downIf_isSome]; exact travels, rest⟩
  · obtain ⟨travels, jammed, rests, unused⟩ := gates c
    rw [tick_gate]
    refine ⟨by rw [downIf_isSome]; exact travels, jammed, rests, fun out => ?_⟩
    rw [unused out]
    rfl

end Sys2Proof.Machine

/-!
The laws of the Fire Interface are kept by every command (R132 to R146).
-/

namespace Sys2Proof.Machine

open State

variable {s t : State} {i : Instr} {z : Zone} {f : FireInterface} {enabled : Bool} {c : ContactInput} {k : CfgItem} {v : Nat}

/-- The law of the panel link: each timer runs in its states alone, and a LINKED link knows its panel (R140 to R143). -/
def LinkLaw (f : FireInterface) : Prop :=
  (f.supervision.isSome = true ↔ f.link = .linked) ∧
    (f.stateTimer.isSome = true ↔ f.link = .agreeing ∨ f.link = .checking ∨ f.link = .backoff) ∧
    (f.hearingTimer.isSome = true → f.link = .hearing ∧ f.heard.isSome = true) ∧
    (f.link = .linked → f.lostCondition = false ∧ f.capability.isSome = true)

/-- The law of a contact input: DISABLED exactly where the configuration says so, and then without a confirmation (R132, R133). -/
def ContactLaw (enabled : Bool) (c : ContactInput) : Prop :=
  (c.state = .disabled ↔ enabled = false) ∧ (c.state = .disabled → c.confirm = none)

theorem fireLaw_iff : FireLaw s ↔ LinkLaw s.fire ∧ ∀ z : Zone, ContactLaw s.store.cfg.zones[z].contactEnabled s.fire.contacts[z] := by
  constructor
  · rintro ⟨supervision, stateTimer, hearing, linked, contacts⟩
    exact ⟨⟨supervision, stateTimer, hearing, linked⟩, contacts⟩
  · rintro ⟨⟨supervision, stateTimer, hearing, linked⟩, contacts⟩
    exact ⟨supervision, stateTimer, hearing, linked, contacts⟩

theorem fireLaw_readsCfg : ReadsCfg [.fire] FireLaw := by
  intro s t cfg same law
  rw [fireLaw_iff] at *
  rw [cfg, show t.fire = s.fire from same .fire (by simp)]
  exact law

/-! ### The link -/

/-- A link that is not LINKED has no supervision (R142). -/
theorem LinkLaw.unsupervised (law : LinkLaw f) (link : f.link ≠ .linked) : f.supervision.isSome = false := by
  obtain ⟨supervision, -⟩ := law
  exact Bool.eq_false_iff.mpr fun runs => link (supervision.mp runs)

/-- A link that is not LINKED keeps the law in HEARING with an empty run. -/
theorem enterHearing_law (law : LinkLaw f) (link : f.link ≠ .linked) : LinkLaw (enterHearing f) := by
  have quiet := law.unsupervised link
  simp [LinkLaw, enterHearing, quiet]

theorem backedOff_law (law : LinkLaw f) (link : f.link ≠ .linked) : LinkLaw (backedOff f) := by
  have quiet := law.unsupervised link
  simp [LinkLaw, backedOff, quiet]

theorem linkedUp_law (heard : f.heard.isSome = true) (law : LinkLaw f) (link : f.link ≠ .hearing) : LinkLaw (linkedUp f) := by
  obtain ⟨-, -, hearing, -⟩ := law
  refine ⟨by simp [linkedUp], by simp [linkedUp], fun runs => absurd (hearing runs).1 link, fun _ => ⟨rfl, ?_⟩⟩
  exact (Option.isSome_map ..).trans heard

/-- A heard run changes in HEARING, or is complete and the link AGREEING (R140). -/
theorem hearWord_law (law : LinkLaw f) (link : f.link = .hearing) (w : CapabilityWord) : LinkLaw (hearWord f w) := by
  have quiet := law.unsupervised (by rw [link]; nofun)
  obtain ⟨-, stateTimer, hearing, -⟩ := law
  have idle : f.stateTimer.isSome = false := Bool.eq_false_iff.mpr fun runs => by simp [link] at stateTimer; simp [stateTimer] at runs
  unfold hearWord
  split
  · simp [LinkLaw, link, quiet, idle]
  · split
    · split
      · simp [LinkLaw, enterAgreeing, quiet]
      · simp [LinkLaw, link, quiet, idle]
    · simp [LinkLaw, link, quiet, idle]

theorem heard_of_equalsHeard {w : CapabilityWord} (same : equalsHeard f w = true) : f.heard.isSome = true := by
  unfold equalsHeard at same
  split at same
  · next heard => rw [heard]; rfl
  · exact nomatch same

theorem wordTaken_law (law : LinkLaw f) (w : CapabilityWord) : LinkLaw (wordTaken f w) := by
  unfold wordTaken
  split
  · next link =>
    split
    · obtain ⟨supervision, stateTimer, -, linked⟩ := law
      exact ⟨supervision, stateTimer, fun runs => (nomatch runs), linked⟩
    · split
      · exact law
      · exact hearWord_law law link w
  · next link =>
    have unlinked : f.link ≠ .linked := by rw [link]; nofun
    have quiet := law.unsupervised unlinked
    split
    · exact backedOff_law law unlinked
    · split
      · exact law
      · split
        · obtain ⟨-, -, hearing, -⟩ := law
          refine ⟨by simp [quiet], by simp, fun runs => ?_, fun k => (nomatch k)⟩
          exact nomatch link.symm.trans (hearing runs).1
        · exact backedOff_law law unlinked
  · next link =>
    split
    · next up =>
      exact linkedUp_law (heard_of_equalsHeard (Bool.and_eq_true_iff.mp up).2) law (by rw [link]; nofun)
    · exact backedOff_law law (by rw [link]; nofun)
  · exact law
  · exact law
  · exact law

theorem stateTimedOut_law (law : LinkLaw f) : LinkLaw (stateTimedOut f) := by
  unfold stateTimedOut
  split
  · next link => exact backedOff_law law (by rw [link]; nofun)
  · next link => exact backedOff_law law (by rw [link]; nofun)
  · next link => exact enterHearing_law law (by rw [link]; nofun)
  · exact law

theorem linkLostFrom_law (f : FireInterface) : LinkLaw (linkLostFrom f) := by simp [LinkLaw, linkLostFrom]

/-! ### The interface replaced -/

/-- The link changes with the contacts as they were. -/
theorem FireLaw.link_changed (law : FireLaw s) (store : t.store = s.store) (contacts : t.fire.contacts = s.fire.contacts)
    (link : LinkLaw t.fire) : FireLaw t := by
  rw [fireLaw_iff] at *
  rw [store, contacts]
  exact ⟨link, law.2⟩

/-- A contact changes with the link and the other contacts as they were. -/
theorem FireLaw.contact_changed (link : LinkLaw s.fire)
    (others : ∀ y : Zone, y ≠ z → ContactLaw s.store.cfg.zones[y].contactEnabled s.fire.contacts[y])
    (own : ContactLaw s.store.cfg.zones[z].contactEnabled c) (latches : Vector Bool 8) (l : List Instr) :
    FireLaw ((s.setFire { s.fire with contacts := s.fire.contacts.set z c, latches := latches }).emit l) := by
  refine fireLaw_iff.mpr ⟨link, fun y => ?_⟩
  show ContactLaw s.store.cfg.zones[y].contactEnabled (s.fire.contacts.set z c)[y]
  by_cases same : y = z
  · subst same
    rw [show (s.fire.contacts.set y c)[y] = c from Vector.getElem_set_self _]
    exact own
  · rw [show (s.fire.contacts.set z c)[y] = s.fire.contacts[y] from Vector.getElem_set_ne z.isLt y.isLt fun k => same (Fin.ext k.symm)]
    exact others y same

/-! ### The contacts -/

theorem contactStateFor_enabled (ohms : Nat) : contactStateFor ohms ≠ .disabled := by
  unfold contactStateFor
  split
  · nofun
  · split <;> nofun

theorem contactBandChange_law (power : s.powered = true) (law : FireLaw s) {ohms : Nat}
    (next : exec (.contactBandChange z ohms) s = .next t) : FireLaw t := by
  have law' : FireLaw (setLoop (s.taken (.contactBandChange z ohms)) z ohms) := law
  by_cases idle : sameBand ohms s.pins.loopOhms[z] ∨ s.fire.contacts[z].state = .disabled
  · obtain rfl := Host.Outcome.next.inj ((contactBandChange_same power idle).symm.trans next)
    exact law'
  · obtain ⟨other, on⟩ := not_or.mp idle
    obtain rfl := Host.Outcome.next.inj ((contactBandChange_other power other on).symm.trans next)
    obtain ⟨link, contacts⟩ := fireLaw_iff.mp law'
    have same : ContactLaw s.store.cfg.zones[z].contactEnabled
        { state := s.fire.contacts[z].state
          confirm := if contactStateFor ohms = s.fire.contacts[z].state then none else some 1 } :=
      ⟨(contacts z).1, fun off => absurd off on⟩
    exact FireLaw.contact_changed (s := setLoop (s.taken (.contactBandChange z ohms)) z ohms) link (fun y _ => contacts y) same _ []

theorem contactConfirmationExpiry_law (power : s.powered = true) (law : FireLaw s)
    (next : exec (.contactConfirmationExpiry z) s = .next t) : FireLaw t := by
  have law' : FireLaw (s.taken (.contactConfirmationExpiry z)) := law
  obtain ⟨link, contacts⟩ := fireLaw_iff.mp law'
  cases runs : s.fire.contacts[z].confirm with
  | none =>
    have run := (onEvent_of_powered power : execContactConfirmationExpiry z s = _)
    rw [if_neg (by rw [show (contact (s.taken (.contactConfirmationExpiry z)) z).confirm = none from runs]; nofun)] at run
    obtain rfl := Host.Outcome.next.inj (run.symm.trans next)
    exact law'
  | some n =>
    obtain rfl := Host.Outcome.next.inj ((contactConfirmationExpiry_eq power runs).symm.trans next)
    obtain ⟨disabled, quiet⟩ := contacts z
    have enabled : s.store.cfg.zones[z].contactEnabled ≠ false := fun out => nomatch runs.symm.trans (quiet (disabled.mpr out))
    exact FireLaw.contact_changed link (fun y _ => contacts y)
      ⟨⟨fun off => absurd off (contactStateFor_enabled _), fun out => absurd out enabled⟩, fun _ => rfl⟩ _ _

/-! ### Writes of the configuration -/

/-- A contact made DISABLED or enabled at once keeps the law, though the configuration was written before it (R133). -/
theorem enableContact_law (link : LinkLaw s.fire)
    (others : ∀ y : Zone, y ≠ z → ContactLaw s.store.cfg.zones[y].contactEnabled s.fire.contacts[y])
    (quiet : s.fire.contacts[z].state = .disabled → s.fire.contacts[z].confirm = none) (written : s.store.cfg.zones[z].contactEnabled = enabled) :
    FireLaw (enableContact s z enabled) := by
  have entered (state : ContactState) (agrees : state = .disabled ↔ enabled = false) : FireLaw (enterContact s z state) := by
    rw [enterContact_eq]
    exact FireLaw.contact_changed link others ⟨written ▸ agrees, fun _ => rfl⟩ _ _
  have stays (agrees : s.fire.contacts[z].state = .disabled ↔ enabled = false) : FireLaw s := by
    refine fireLaw_iff.mpr ⟨link, fun y => ?_⟩
    by_cases same : y = z
    · subst same
      exact ⟨written ▸ agrees, quiet⟩
    · exact others y same
  by_cases off : s.fire.contacts[z].state = .disabled
  · cases enabled with
    | true =>
      rw [enableContact_on off]
      exact entered _ ⟨fun k => absurd k (contactStateFor_enabled _), nofun⟩
    | false =>
      have idle : enableContact s z false = s := by
        unfold enableContact contact
        rw [off]
      exact idle.symm ▸ stays ⟨fun _ => rfl, fun _ => off⟩
  · cases enabled with
    | true =>
      have idle : enableContact s z true = s := by
        unfold enableContact contact
        cases state : s.fire.contacts[z].state with
        | disabled => exact absurd state off
        | _ => rfl
      exact idle.symm ▸ stays ⟨fun k => absurd k off, nofun⟩
    | false =>
      rw [enableContact_off off]
      exact entered _ ⟨fun _ => rfl, fun _ => rfl⟩

theorem bit_injective {a b : Bool} (same : (if a = true then 1 else 0) = if b = true then 1 else 0) : a = b := by
  cases a <;> cases b <;> simp at same ⊢

/-- A write of another item leaves contact enabled of every zone. -/
theorem putValue_contactEnabled {st : ConfigStore} (other : k ≠ .contactEnabled z) :
    (putValue st.cfg k v).zones[z].contactEnabled = st.cfg.zones[z].contactEnabled := by
  have same := itemValue_putValue_other (st := st) (k := k) (k' := .contactEnabled z) (v := v) (Ne.symm other) fun _ _ => nofun
  exact bit_injective same

theorem actOnWrite_fire (other : ∀ z, k ≠ .contactEnabled z) (s : State) (v : Nat) : (actOnWrite s k v).fire = s.fire := by
  cases k with
  | minSpeed c => exact raiseCommanded_onlyChanges s c .fire (by decide)
  | contactEnabled z => exact absurd rfl (other z)
  | _ => rfl

theorem takeWrite_fireLaw (law : FireLaw s) : FireLaw (takeWrite s k v) := by
  obtain ⟨link, contacts⟩ := fireLaw_iff.mp law
  have other (z : Zone) (apart : k ≠ .contactEnabled z) :
      (putValue s.cfg k (clampValue s.cfg k v)).zones[z].contactEnabled = s.store.cfg.zones[z].contactEnabled :=
    putValue_contactEnabled (st := s.store) apart
  by_cases own : ∃ z, k = .contactEnabled z
  · obtain ⟨z, rfl⟩ := own
    refine enableContact_law (s := s.setCfg (putValue s.cfg _ _)) link (fun y apart => ?_) (contacts z).2 ?_
    · show ContactLaw (putValue s.cfg _ _).zones[y].contactEnabled s.fire.contacts[y]
      rw [other y fun same => apart (CfgItem.contactEnabled.inj same).symm]
      exact contacts y
    · exact congrArg ZoneCfg.contactEnabled (Cfg.setZone_zones_self _ _ _)
  · have apart (z : Zone) : k ≠ .contactEnabled z := fun same => own ⟨z, same⟩
    refine fireLaw_iff.mpr ?_
    unfold takeWrite
    rw [actOnWrite_fire apart, (actOnWrite_onlyChanges _ k _) .store (by decide)]
    refine ⟨link, fun z => ?_⟩
    show ContactLaw (putValue s.cfg _ _).zones[z].contactEnabled s.fire.contacts[z]
    rw [other z (apart z)]
    exact contacts z

/-! ### The words on the link, the resets and the timers -/

theorem statusFrame_law (power : s.powered = true) (law : FireLaw s) {flags : BitVec 8} (next : exec (.statusFrame flags) s = .next t) :
    FireLaw t := by
  by_cases link : s.fire.link = .linked
  · obtain rfl := Host.Outcome.next.inj ((statusFrame_linked power flags link).symm.trans next)
    refine law.link_changed rfl rfl ?_
    obtain ⟨⟨-, others⟩, -⟩ := fireLaw_iff.mp law
    exact ⟨⟨fun _ => link, fun _ => rfl⟩, others⟩
  · obtain rfl := Host.Outcome.next.inj ((statusFrame_discarded power flags link).symm.trans next)
    exact law

theorem fireServiceCommand_law (power : s.powered = true) (law : FireLaw s) {zone : Nat} {word : FireServiceWord}
    (next : exec (.fireServiceCommand zone word) s = .next t) : FireLaw t := by
  obtain rfl := Host.Outcome.next.inj ((onEvent_of_powered power : execFireServiceCommand zone word s = _).symm.trans next)
  split
  · exact law
  · split
    · obtain ⟨link, -⟩ := fireLaw_iff.mp law
      exact law.link_changed rfl rfl link
    · exact law

theorem resetFire_law (law : FireLaw s) : FireLaw (resetFire s) := by
  obtain ⟨link, -⟩ := fireLaw_iff.mp law
  rw [resetFire_eq]
  exact law.link_changed rfl rfl link

theorem readLinkNow_law (law : FireLaw s) : FireLaw (readLinkNow s).1 := by
  obtain ⟨link, -⟩ := fireLaw_iff.mp law
  unfold readLinkNow
  split
  · exact law.link_changed rfl rfl link
  · exact law

theorem hearingTimerExpiry_law (power : s.powered = true) (law : FireLaw s) (next : exec .hearingTimerExpiry s = .next t) : FireLaw t := by
  obtain rfl := Host.Outcome.next.inj ((onEvent_of_powered power : execHearingTimerExpiry s = _).symm.trans next)
  split
  · obtain ⟨⟨supervision, stateTimer, -, linked⟩, -⟩ := fireLaw_iff.mp law
    exact law.link_changed rfl rfl ⟨supervision, stateTimer, fun runs => (nomatch runs), linked⟩
  · exact law

theorem supervisionTimerExpiry_law (power : s.powered = true) (law : FireLaw s) (next : exec .supervisionTimerExpiry s = .next t) :
    FireLaw t := by
  by_cases link : s.fire.link = .linked
  · obtain rfl := Host.Outcome.next.inj ((supervisionTimerExpiry_eq power link).symm.trans next)
    exact law.link_changed rfl rfl (linkLostFrom_law _)
  · have run := (onEvent_of_powered power : execSupervisionTimerExpiry s = _)
    rw [if_neg (show ¬ (s.taken .supervisionTimerExpiry).fire.link = .linked from link)] at run
    obtain rfl := Host.Outcome.next.inj (run.symm.trans next)
    exact law

/-! ### Every command, and the passing of a second -/

theorem wordTaken_contacts (f : FireInterface) (w : CapabilityWord) : (wordTaken f w).contacts = f.contacts := by
  unfold wordTaken hearWord
  split <;> (repeat' split) <;> rfl

theorem stateTimedOut_contacts (f : FireInterface) : (stateTimedOut f).contacts = f.contacts := by
  unfold stateTimedOut
  split <;> rfl

/-- The commands with a part in the Fire Interface keep its law at a running module. -/
theorem fireLaw_own (i : Instr) (touched : ¬ ∀ p ∈ [Part.fire], p ∉ touches i) (write : writeOf i = none)
    (byte : ∀ b, i ≠ .supervisoryByteReceived b) (start : i ≠ .powerOn ∧ i ≠ .resetLineRelease) (power : s.powered = true) (law : FireLaw s)
    (next : exec i s = .next t) : FireLaw t := by
  have reads := fireLaw_readsCfg.reads
  obtain ⟨link, -⟩ := fireLaw_iff.mp law
  cases i with
  | contactBandChange => exact contactBandChange_law power law next
  | contactConfirmationExpiry => exact contactConfirmationExpiry_law power law next
  | panelFrameDiscarded =>
    obtain rfl := Host.Outcome.next.inj ((onEvent_of_powered power : execPanelFrameDiscarded s = _).symm.trans next)
    exact law
  | capabilityWord w =>
    obtain rfl := Host.Outcome.next.inj ((capabilityWord_eq power w).symm.trans next)
    exact law.link_changed rfl (wordTaken_contacts _ _) (wordTaken_law link w)
  | statusFrame => exact statusFrame_law power law next
  | fireServiceCommand => exact fireServiceCommand_law power law next
  | panelResetWord =>
    obtain rfl := Host.Outcome.next.inj ((onEvent_of_powered power : execPanelResetWord s = _).symm.trans next)
    split
    · exact resetFire_law (s := s.taken _) law
    · exact law
  | hearingTimerExpiry => exact hearingTimerExpiry_law power law next
  | stateTimerExpiry =>
    obtain rfl := Host.Outcome.next.inj ((stateTimerExpiry_eq power).symm.trans next)
    exact law.link_changed rfl (stateTimedOut_contacts _) (stateTimedOut_law link)
  | supervisionTimerExpiry => exact supervisionTimerExpiry_law power law next
  | readLink =>
    exact onRequest_leaves (i := .readLink) (f := readLinkNow) reads (by simp) next law (readLinkNow_law (s := s.taken _) law)
  | fireReset =>
    refine onRequest_leaves (i := .fireReset) (f := fireResetNow) reads (by simp) next law ?_
    unfold fireResetNow
    split
    · exact law
    · exact resetFire_law (s := s.taken _) law
  | writeConfig | contactEnabledWrite => exact nomatch write
  | powerOn => exact absurd rfl start.1
  | resetLineRelease => exact absurd rfl start.2
  | supervisoryByteReceived b => exact absurd rfl (byte b)
  | _ => exact absurd (by simp [touches]) touched

/-- Every command keeps the law of the Fire Interface. -/
theorem fireLaw_kept (i : Instr) : Keeps (fun s => FireLaw s ∧ StoreLaw s.store) i := by
  refine blockLaw_kept fireLaw_readsCfg (by simp) (fun s _ => starting_fireLaw) (fun s k v _ _ law _ => takeWrite_fireLaw law)
    (fun i write byte start touched s t law _ next => ?_) i
  cases power : s.powered with
  | true => exact fireLaw_own i touched write byte start power law next
  | false =>
    have loss : i ≠ .powerLoss := fun same => touched (by rw [same]; simp [touches])
    exact fireLaw_readsCfg.reads.kept (changed := [.pins, .inFlight]) (by simp) (exec_idles power start.1 start.2 loss t next) law

theorem tick_fireLaw (law : FireLaw s) : FireLaw s.tick := by
  obtain ⟨⟨supervision, stateTimer, hearing, linked⟩, contacts⟩ := fireLaw_iff.mp law
  refine fireLaw_iff.mpr ⟨⟨?_, ?_, fun runs => hearing ((downIf_isSome _).symm.trans runs), linked⟩, fun z => ?_⟩
  · rw [show s.tick.fire.supervision.isSome = s.fire.supervision.isSome from Option.isSome_map ..]
    exact supervision
  · rw [show s.tick.fire.stateTimer.isSome = s.fire.stateTimer.isSome from downIf_isSome _]
    exact stateTimer
  · obtain ⟨disabled, quiet⟩ := contacts z
    rw [tick_contact, tick_cfg]
    exact ⟨disabled, fun off => congrArg downIf (quiet off)⟩

end Sys2Proof.Machine

/-!
The law of the supervisory port is kept by every command (R161 to R167), and with it the laws of every block by every step.
-/

namespace Sys2Proof.Machine

open State

variable {s t : State} {i : Instr} {b : Byte} {p : LinkPort} {l : List Byte}

theorem Lawful.port (law : Lawful s) : PortLaw s.port := by
  obtain ⟨-, -, -, -, -, -, -, -, -, -, port⟩ := law
  exact port

theorem portLaw_reads : Reads [.port] fun s => PortLaw s.port := by
  intro s t same law
  show PortLaw t.port
  rw [show t.port = s.port from same .port (by simp)]
  exact law

/-! ### Ports as the commands leave them -/

theorem listening_portLaw (p : LinkPort) : PortLaw { p with state := .listening, buffer := [] } :=
  ⟨fun _ => rfl, fun k => (nomatch k), fun k => (nomatch k)⟩

theorem dropFrame_portLaw (law : PortLaw s.port) : PortLaw s.dropFrame.port := by
  rw [dropFrame_port]
  split
  · exact law
  · exact listening_portLaw _

theorem respond_portLaw (s : State) (r : Response) : PortLaw (s.respond r).port :=
  ⟨fun k => (nomatch k), fun k => (nomatch k), fun _ => ⟨rfl, rfl⟩⟩

/-- A frame in progress that is neither overlong nor complete is shorter than its length byte says (R161). -/
theorem stored_portLaw (law : PortLaw p) (receives : p.state = .receiving) (short : overlong (p.buffer ++ [b]) = false)
    (more : frameComplete (p.buffer ++ [b]) = false) : PortLaw { p with buffer := p.buffer ++ [b] } := by
  obtain ⟨-, receiving, -⟩ := law
  obtain ⟨start, bound⟩ := receiving receives
  refine ⟨fun k => (nomatch receives.symm.trans k), fun _ => ⟨?_, fun long => ?_⟩, fun k => (nomatch receives.symm.trans k)⟩
  · show (p.buffer ++ [b]).head? = _
    rw [List.head?_append, start]
    rfl
  · have long : 3 ≤ p.buffer.length := by simpa using long
    show fieldAt (p.buffer ++ [b]) 3 1 ≤ 64 ∧ (p.buffer ++ [b]).length < fieldAt (p.buffer ++ [b]) 3 1 + 6
    rw [fieldAt_one (by simp; omega), List.length_append, List.length_singleton]
    by_cases third : p.buffer.length = 3
    · rw [overlong_of_length third, decide_eq_false_iff_not, Nat.not_lt] at short
      have last : (p.buffer ++ [b]).getD 3 0 = b := by simp [List.getD_eq_getElem?_getD, third]
      rw [last]
      omega
    · have whole : 3 < p.buffer.length := by omega
      obtain ⟨payload, free⟩ := bound (by omega)
      have before : (p.buffer ++ [b]).getD 3 0 = p.buffer.getD 3 0 := by
        simp [List.getD_eq_getElem?_getD, List.getElem?_append_left whole]
      rw [fieldAt_one whole] at payload free
      have open_ : ¬(4 ≤ p.buffer.length ∧ p.buffer.length + 1 = (p.buffer.getD 3 0).toNat + 6) :=
        fun k => Bool.eq_false_iff.mp more ((frameComplete_append p.buffer).mpr k)
      rw [before]
      omega

/-! ### The commands -/

/-- A request is answered, or its frame dropped (R161, R167). -/
theorem request_portLaw (request : isRequest i = true) (law : PortLaw s.port) (next : exec i s = .next t) : PortLaw t.port := by
  obtain ⟨code, effect, parts, row⟩ := requestRow_of_isRequest request
  have run := (row.eq s).symm.trans next
  by_cases r : ready s
  · obtain rfl := Host.Outcome.next.inj ((onRequest_of_ready r).symm.trans run)
    exact respond_portLaw _ _
  · cases power : s.powered with
    | false =>
      obtain rfl := Host.Outcome.next.inj ((congrArg Host.Outcome.next (if_neg (by rw [power]; nofun))).symm.trans run)
      exact law
    | true =>
      have dropped : s.port.state = .answering ∨ s.port.address = 0 := by
        by_contra k
        exact r ⟨power, not_or.mp k⟩
      obtain rfl := Host.Outcome.next.inj ((onRequest_of_dropped power dropped).symm.trans run)
      exact dropFrame_portLaw (s := s.taken i) law

theorem requestFrameDiscarded_portLaw (law : PortLaw s.port) (next : exec .requestFrameDiscarded s = .next t) : PortLaw t.port :=
  onEvent_leaves (P := fun s => PortLaw s.port) next law (dropFrame_portLaw (s := s.taken _) law)

theorem broadcastSetClock_portLaw {code : Nat} {payload : List Byte} (law : PortLaw s.port)
    (next : exec (.broadcastSetClock code payload) s = .next t) : PortLaw t.port := by
  replace next : execBroadcastSetClock code payload s = .next t := next
  unfold execBroadcastSetClock at next
  refine onEvent_leaves (P := fun s => PortLaw s.port) next law ?_
  split
  · exact law
  · exact dropFrame_portLaw (by rw [broadcastEffect_port]; exact law)

/-- What a byte that completes a frame can run (R161 to R163). -/
theorem row_portLaw (row : isRequest i = true ∨ i = .requestFrameDiscarded ∨ ∃ code payload, i = .broadcastSetClock code payload)
    (law : PortLaw s.port) (next : exec i s = .next t) : PortLaw t.port := by
  rcases row with request | rfl | ⟨code, payload, rfl⟩
  · exact request_portLaw request law next
  · exact requestFrameDiscarded_portLaw law next
  · exact broadcastSetClock_portLaw law next

theorem supervisoryByteReceived_portLaw (power : s.powered = true) (law : PortLaw s.port)
    (next : exec (.supervisoryByteReceived b) s = .next t) : PortLaw t.port := by
  have law' : PortLaw (s.taken (.supervisoryByteReceived b)).port := law
  cases state : s.port.state with
  | listening =>
    obtain rfl := Host.Outcome.next.inj ((byte_listening power state).symm.trans next)
    split
    · next start => exact ⟨fun k => (nomatch k), fun _ => ⟨congrArg some start, fun k => absurd k (by simp)⟩, fun k => (nomatch k)⟩
    · exact law'
  | answering =>
    obtain rfl := Host.Outcome.next.inj ((byte_answering power state).symm.trans next)
    exact law'
  | receiving =>
    have run := (byte_receiving power state).symm.trans next
    unfold receiveByte at run
    dsimp only at run
    split at run
    · exact requestFrameDiscarded_portLaw law' run
    · next short =>
      split at run
      · obtain ⟨i, row, eq⟩ := takeFrame_eq_exec (s.port.buffer ++ [b]) (s.taken (.supervisoryByteReceived b))
        exact row_portLaw row law' (eq.symm.trans run)
      · next more =>
        obtain rfl := Host.Outcome.next.inj run
        exact stored_portLaw law state (Bool.eq_false_iff.mpr short) (Bool.eq_false_iff.mpr more)

/-- The port's own events keep its law. -/
theorem portEvent_portLaw (request : isRequest i = false) (start : i ≠ .powerOn ∧ i ≠ .resetLineRelease)
    (touched : .port ∈ touches i) (power : s.powered = true) (law : PortLaw s.port) (next : exec i s = .next t) : PortLaw t.port := by
  cases i with
  | supervisoryByteReceived b => exact supervisoryByteReceived_portLaw power law next
  | requestFrameDiscarded => exact requestFrameDiscarded_portLaw law next
  | broadcastSetClock => exact broadcastSetClock_portLaw law next
  | frameSilenceTimeout =>
    refine onEvent_leaves (P := fun s => PortLaw s.port) next law ?_
    split
    · exact dropFrame_portLaw (s := s.taken _) law
    · exact law
  | responseSent =>
    refine onEvent_leaves (P := fun s => PortLaw s.port) next law ?_
    split
    · exact listening_portLaw _
    · exact law
  | powerOn => exact absurd rfl start.1
  | resetLineRelease => exact absurd rfl start.2
  | _ => simp [touches, isRequest] at touched request

/-- Every command keeps the law of the port. -/
theorem portLaw_kept (i : Instr) : Keeps (fun s => PortLaw s.port ∧ StoreLaw s.store) i := by
  intro s t ⟨law, store⟩ next
  refine ⟨?_, storeLaw_kept i s t store next⟩
  by_cases start : i = .powerOn ∨ i = .resetLineRelease
  · rcases start with rfl | rfl <;> cases next <;> exact (starting_lawful store).port
  · cases request : isRequest i with
    | true => exact request_portLaw request law next
    | false =>
      by_cases touched : .port ∈ touches i
      · cases power : s.powered with
        | true => exact portEvent_portLaw request (not_or.mp start) touched power law next
        | false =>
          have loss : i ≠ .powerLoss := by rintro rfl; simp [touches] at touched
          obtain ⟨first, second⟩ := not_or.mp start
          exact portLaw_reads.kept (changed := [.pins, .inFlight]) (by simp) (exec_idles power first second loss t next) law
      · obtain ⟨t', eq, frame⟩ := exec_goesOn i s
        cases eq.symm.trans next
        exact portLaw_reads.kept (by simpa using touched) frame law

/-! ### Every step -/

/-- Every command keeps the laws of every block. -/
theorem lawful_kept (i : Instr) : Keeps Lawful i := by
  intro s t law next
  obtain ⟨roster, -, fans, -, -, -, -, fire, -, store, -⟩ := id law
  obtain ⟨roster, store'⟩ := rosterLaw_kept i s t ⟨roster, store⟩ next
  obtain ⟨zones, -⟩ := zonesLaw_kept i s t ⟨law.zones, store⟩ next
  obtain ⟨fans, -⟩ := fansLaw_kept i s t ⟨fans, store⟩ next
  obtain ⟨⟨dampers, gates⟩, -⟩ := waysLaw_kept i s t ⟨law.ways, store⟩ next
  obtain ⟨alloc, -⟩ := allocLaw_kept i s t ⟨law.alloc, store⟩ next
  obtain ⟨sensors, -⟩ := sensorLaw_kept i s t ⟨law.sensors, store⟩ next
  obtain ⟨fire, -⟩ := fireLaw_kept i s t ⟨fire, store⟩ next
  obtain ⟨hazards, -⟩ := hazardLaw_kept i s t ⟨law.hazards, store⟩ next
  obtain ⟨port, -⟩ := portLaw_kept i s t ⟨law.port, store⟩ next
  exact ⟨roster, zones, fans, dampers, gates, alloc, sensors, fire, hazards, store', port⟩

theorem tick_lawful (law : Lawful s) : Lawful s.tick := by
  obtain ⟨roster, zones, fans, dampers, gates, alloc, sensors, fire, hazards, store, port⟩ := law
  obtain ⟨dampers, gates⟩ := tick_waysLaw ⟨dampers, gates⟩
  exact ⟨tick_rosterLaw roster, tick_zonesLaw zones, tick_fansLaw fans, dampers, gates, tick_allocLaw alloc, tick_sensorLaw sensors,
    tick_fireLaw fire, hazards, tick_storeLaw store, port⟩

/-- The queue of commands has no part in any block's law. -/
theorem pending_lawful (law : Lawful s) (l : List Instr) : Lawful { s with pending := l } := by
  obtain ⟨roster, zones, fans, dampers, gates, alloc, sensors, fire, hazards, store, port⟩ := law
  refine ⟨roster, zones, fansLaw_readsCfg s _ rfl (fun p hp => ?_) fans, dampers, gates, alloc, sensors, fire, hazards, store, port⟩
  simp only [List.mem_cons, List.not_mem_nil, or_false] at hp
  rcases hp with rfl | rfl | rfl <;> rfl

/-- Settles O60: every command and every second keep each block's law. -/
theorem stepsKeepBlockLaws : Obligations.StepsKeepBlockLaws := by
  intro s t next law
  obtain ⟨t', eq, kept⟩ := step_keeps (P := Lawful) (fun s l law => pending_lawful law l) (fun s law => tick_lawful law)
    (fun {i s t} law next => lawful_kept i s t law next) s law
  cases eq.symm.trans next
  exact kept

end Sys2Proof.Machine
